-- ==== Sys2Proof/Word.lean ====
section
/-! DEFINITION. The one word of bits the part handles as bits: the byte of a frame (09 R181, R190). -/

namespace Sys2Proof

/-- A character's eight data bits (09 R180, 05 R122). -/
abbrev Byte := BitVec 8

end Sys2Proof
end

