-- ==== Sys2Proof/Syntax.lean ====
section
/-! DEFINITION. The commands of the part: one constructor for each row of spec/opcode_table.json, with the row's
operands. A request's operands are its payload fields in the order of the catalogue (09, section 9.5), as numbers, so
that a value out of range can be named by the owner's check. An event's operands say what it happens to. -/

namespace Sys2Proof

/-- A field line's letter (00, "Identifiers"). -/
inductive Line where
  | a
  | b
  | c
  | d
deriving DecidableEq, Repr

/-- An electrical level of an alarm input (07 R160). -/
inductive Level where
  | high
  | low
deriving DecidableEq, Repr

/-- A character as received on a serial line: its data bits and whether its stop bit was there (05 R127, 09 R181). -/
structure Character where
  byte : Byte
  stopBit : Bool
deriving DecidableEq, Repr

/-- The payload fields of PUT_VALVE in payload order (09, section 9.5; 01 R6, R7). -/
structure ValveFields where
  valve : Nat
  endA : Nat
  endB : Nat
  kind : Nat
  normalState : Nat
  closingRank : Nat
  stationLine : Nat
  stationAddress : Nat
  channel : Nat
  strokeTime : Nat
  throttlePoint : Nat
  slowRatio : Nat
  surgeCeiling : Nat
  surgeHysteresis : Nat
  maximumHold : Nat
  torqueRetries : Nat
  chargeOpening : Nat
  chargeDwell : Nat
deriving DecidableEq, Repr

/-- The commands. Requests first, in the catalogue's order, then the events. -/
inductive Instr where
  | putSegment (segment customers source priority : Nat)
  | putValve (fields : ValveFields)
  | putStation (line address pollClass multiplier extraDelay tap : Nat)
  | putLine (line enabled speed blanking retry tripLimit : Nat)
  | putAlarm (input segment activeLevel debounce action : Nat)
  | putPolicy (threshold timeout timeoutAction crewTimeout crewAction parallel : Nat)
  | dropSegment (segment : Nat)
  | dropValve (valve : Nat)
  | dropStation (line address : Nat)
  | clearMap
  | enterConfig
  | leaveConfig
  | saveMap
  | readSegment (segment start : Nat)
  | readValve (valve : Nat)
  | readStation (line address : Nat)
  | readLine (line : Nat)
  | readIncident (slot : Nat)
  | readPlan (incident list start : Nat)
  | readPart
  | declare (segment group always : Nat)
  | consent (incident answer : Nat)
  | crewResult (valve result : Nat)
  | replan (incident : Nat)
  | restore (incident : Nat)
  | setOperability (valve value : Nat)
  | release (broadcast : Bool) (code : Nat)
  | fetch
  | setMask (kind setting : Nat)
  | setRoute (kind line : Nat)
  | setWatermark (value : Nat)
  | setTime (broadcast : Bool) (time : Nat)
  | resetLine (line : Nat)
  | supplyOn (line : Nat)
  | resetPart
  | powerOn (addressPins speedPins : Nat)
  | resetnAsserted (addressPins speedPins : Nat)
  | hostCharReceived (character : Character)
  | hostFrameEnd
  | replyStart
  | replySent
  | loadComplete
  | saveComplete
  | planComplete
  | consentTimeout
  | moveTimerExpiry (valve : Nat)
  | surgeStall (valve : Nat)
  | dwellEnd (valve : Nat)
  | crewOverdue (valve : Nat)
  | exchangeStart (line : Line)
  | fieldRequestSent (line : Line)
  | responseWindowExpiry (line : Line)
  | fieldReplyEnd (line : Line) (characters : List Character)
  | fieldUnsolicitedChars (line : Line) (characters : List Character)
  | pollDue (line : Line) (address : Nat)
  | overcurrentStart (line : Line)
  | overcurrentEnd (line : Line)
  | supplyTrip (line : Line)
  | supplyRetry (line : Line)
  | timeOnReached (line : Line)
  | alarmLevelChange (input : Nat) (level : Level)
  | debounceExpiry (input : Nat)
  | fieldReplyStart (line : Line)
  | timeBaseWrap
deriving DecidableEq, Repr

end Sys2Proof
end

