-- ==== Sys2Proof/Decode.lean ====
section
/-! DEFINITION. The command a word spells by the opcode table's bits. No row of spec/opcode_table.json gives bits (every
"fields" list there is empty and no row has a "fixed" part), so no word spells a command. The byte layouts of the host
link's frames are read in Machine/HostLink.lean, where HOST_FRAME_END takes them. -/

namespace Sys2Proof

/-- The command that the first `nbits` bits of a word spell by the table: none, for no row gives bits (log 36). -/
def decodeTableWord (_nbits _w : Nat) : Option Instr := none

end Sys2Proof
end

