-- ==== Sys2Proof/Machine/State.lean ====
section
/-! DEFINITION. Everything the part holds, as plain data, and its value after reset. Each record follows the table of the
spec that names it. A record kept by identifier is a `Table`: absent entries are not listed. -/

namespace Sys2Proof.Machine

open Sys2Proof

/-- A position or a pressure: a number, or UNKNOWN as none (00, "Quantities"). -/
abbrev Reading := Option Nat

/-- Entries kept by identifier, keys strictly rising; an identifier that is not listed has no entry. -/
abbrev Table (α : Type) := List (Nat × α)

/-- One thing for each of the four field lines (00, "Identifiers"). -/
structure PerLine (α : Type) where
  a : α
  b : α
  c : α
  d : α
deriving DecidableEq, Repr

/-! ### The network map (01) -/

/-- 01 R3. -/
structure SegmentRec where
  customers : Nat
  source : Bool
  priority : Bool
deriving DecidableEq, Repr

/-- 01 R5. -/
inductive NormalState where
  | normallyOpen
  | normallyClosed
deriving DecidableEq, Repr

/-- 01 R7: the actuated part of an ACTUATED valve's entry. -/
structure ActuatedPart where
  line : Line
  address : Nat
  channel : Nat
  strokeTime : Nat
  throttlePoint : Nat
  slowRatio : Nat
  surgeCeiling : Nat
  surgeHysteresis : Nat
  maximumHold : Nat
  torqueRetries : Nat
  chargeOpening : Nat
  chargeDwell : Nat
deriving DecidableEq, Repr

/-- 01 R6: ACTUATED with its part, or MANUAL, which has none. -/
inductive ValveKind where
  | actuated (part : ActuatedPart)
  | manual
deriving DecidableEq, Repr

/-- 01 R6; the id is the table's key. An end B of 0 is the outside (01 R2). -/
structure ValveRec where
  endA : Nat
  endB : Nat
  kind : ValveKind
  normal : NormalState
  closingRank : Nat
deriving DecidableEq, Repr

/-- 01 R9; class D is never stored. -/
inductive PollClass where
  | a
  | b
  | c
deriving DecidableEq, Repr

/-- 01 R8; line and address are the table's key. -/
structure StationEntry where
  pollClass : PollClass
  multiplier : Nat
  extraDelay : Nat
  tap : Bool
deriving DecidableEq, Repr

/-- 01 R10: a field line's speed. -/
inductive Baud where
  | b9600
  | b19200
  | b38400
deriving DecidableEq, Repr

/-- 01 R10. -/
structure LineSettings where
  enabled : Bool
  speed : Baud
  blanking : Nat
  retryInterval : Nat
  tripLimit : Nat
deriving DecidableEq, Repr

/-- 01 R11. -/
inductive AlarmAction where
  | reportOnly
  | declare
deriving DecidableEq, Repr

/-- 01 R11. -/
structure AlarmSettings where
  segment : Nat
  active : Level
  debounce : Nat
  action : AlarmAction
deriving DecidableEq, Repr

/-- 01 R12: the consent timeout action. -/
inductive TimeoutAction where
  | proceed
  | decline
deriving DecidableEq, Repr

/-- 01 R12: the crew overdue action. -/
inductive OverdueAction where
  | report
  | planAround
deriving DecidableEq, Repr

/-- 01 R12. -/
structure Policy where
  threshold : Nat
  consentTimeout : Nat
  timeoutAction : TimeoutAction
  crewTimeout : Nat
  overdueAction : OverdueAction
  parallel : Nat
deriving DecidableEq, Repr

/-- 01 R1: the six parts of the network map; also the content of the image (10 R197). -/
structure NetworkMap where
  segments : Table SegmentRec
  valves : Table ValveRec
  stations : Table StationEntry
  lines : PerLine LineSettings
  alarms : Vector AlarmSettings 8
  policy : Policy
deriving DecidableEq, Repr

/-- 01 R10, the column "empty map". -/
def emptyLineSettings : LineSettings :=
  { enabled := false, speed := .b9600, blanking := 10, retryInterval := 10, tripLimit := 3 }

/-- 01 R11, the column "empty map". -/
def emptyAlarmSettings : AlarmSettings :=
  { segment := 0, active := .high, debounce := 10, action := .reportOnly }

/-- 01 R12, the column "empty map". -/
def defaultPolicy : Policy :=
  { threshold := 5000, consentTimeout := 300, timeoutAction := .proceed, crewTimeout := 90,
    overdueAction := .report, parallel := 2 }

/-- 01 R1: the empty map. -/
def emptyMap : NetworkMap :=
  { segments := [], valves := [], stations := [],
    lines := ⟨emptyLineSettings, emptyLineSettings, emptyLineSettings, emptyLineSettings⟩,
    alarms := Vector.replicate 8 emptyAlarmSettings, policy := defaultPolicy }

/-! ### Map store and mode control (10) -/

/-- 10 R195. -/
inductive Mode where
  | starting
  | run
  | quiescing
  | config
deriving DecidableEq, Repr

/-- The non-volatile image (10 R195, R197, R200): blank, written with its content and its 16-bit sum, or with a save of a
content under way, which writes the sum last. -/
inductive Image where
  | blank
  | written (content : NetworkMap) (sum : BitVec 16)
  | saving (content : NetworkMap)
deriving DecidableEq, Repr

/-- 10 R195. -/
structure Store where
  mode : Mode
  busy : Bool
  image : Image
deriving DecidableEq, Repr

/-! ### Planner (02) and incident engine (03) -/

/-- 03 R51: the uncontained cause, when there is one. -/
inductive Cause where
  | regionCap
  | boundaryCap
  | outsideValve
  | declined
deriving DecidableEq, Repr

/-- 02 R24: the working sets of a plan: the growing region R, the incidents noted for merging, the growth stop cause, the
boundary set, the supplied sets before and after the closure, the new outage, the tallies and the consent result; with them
the uncontained cause that R45 draws from the first and the third. -/
structure Plan where
  region : List Nat
  noted : List Nat
  stop : Option Cause
  boundary : List Nat
  before : List Nat
  after : List Nat
  outage : List Nat
  customersInRegion : Nat
  customersInOutage : Nat
  priorityHit : Bool
  cause : Option Cause
  consentNeeded : Bool
deriving DecidableEq, Repr

/-- 02 R24: the incident being planned, the stale flag and the working sets. -/
structure PlanInProgress where
  incident : Nat
  stale : Bool
  sets : Plan
deriving DecidableEq, Repr

/-- 02 R26, R31: a plan as it starts: not stale, its region the recorded one, and nothing found yet (log 16). -/
def newPlan (incident : Nat) (region : List Nat) : PlanInProgress :=
  { incident := incident, stale := false,
    sets := { region := region, noted := [], stop := none, boundary := [], before := [], after := [], outage := [],
              customersInRegion := 0, customersInOutage := 0, priorityHit := false, cause := none,
              consentNeeded := false } }

/-- 02 R24. -/
structure Planner where
  queue : List Nat
  plan : Option PlanInProgress
deriving DecidableEq, Repr

/-- 03, section 3.2; FREE is a slot with no record. -/
inductive IncidentState where
  | planning
  | armed
  | awaitConsent
  | closing
  | isolated
  | uncontained
  | restoring
deriving DecidableEq, Repr

/-- 03 R51. -/
inductive Origin where
  | host
  | alarm (input : Nat)
deriving DecidableEq, Repr

/-- 03 R51. -/
inductive ConsentState where
  | notNeeded
  | pending
  | granted
  | declined
  | proceededOnTimeout
deriving DecidableEq, Repr

/-- 03 R51, and the restore list of R79. The slot is the table's key. -/
structure Incident where
  number : Nat
  state : IncidentState
  burst : Nat
  origin : Origin
  declaredAt : Nat
  group : Nat
  always : Bool
  released : Bool
  region : List Nat
  boundary : List Nat
  outage : List Nat
  excluded : List Nat
  customersInRegion : Nat
  customersInOutage : Nat
  priorityHit : Bool
  consent : ConsentState
  replanPending : Bool
  planCount : Nat
  cause : Option Cause
  restoreList : List Nat
deriving DecidableEq, Repr

/-- 03 R49, R50, R65, R67: slots by number 0 to 3, the number counter, the consent queue with the oldest first, and the
consent timer in milliseconds (none while it is idle or does not count; log 3). `voidExpiries` counts the expiries that wait
in the queue of commands and do not happen any more (R68; the model's own, log 68). -/
structure Engine where
  slots : Table Incident
  counter : Nat
  consentQueue : List Nat
  consentLeft : Option Nat
  voidExpiries : Nat
deriving DecidableEq, Repr

/-! ### Valve drive (04) -/

/-- 04 R87. -/
inductive Motion where
  | idle
  | closingFast
  | closingSlow
  | holding
  | backoff
  | charging
  | dwell
  | opening
  | crewClose
  | crewOpen
deriving DecidableEq, Repr

/-- 04 R109. -/
inductive Operability where
  | operable
  | suspect
  | inoperable
deriving DecidableEq, Repr

/-- 05 R123: a command to a channel. -/
inductive CommandKind where
  | drive (target rate : Nat)
  | stop
deriving DecidableEq, Repr

/-- 04 R88, R94: the last command issued for a move, its serial (log 17) and whether it is acknowledged. -/
structure Command where
  kind : CommandKind
  serial : Nat
  acked : Bool
deriving DecidableEq, Repr

/-- 04 R88. -/
inductive Direction where
  | close
  | openUp
deriving DecidableEq, Repr

/-- 04 R88. -/
inductive Standing where
  | running
  | stopped
  | frozen
deriving DecidableEq, Repr

/-- 04 R88. Times of its own are in milliseconds (log 3). `setsTimer` names the DRIVE whose acknowledgement sets the move
timer and the value it sets (R101; log 18); `since` is the serial of the move's first command (log 17); `driveAcked` says that
a DRIVE of the move has been acknowledged, and `notesTrips` that one was before the current or last hold began (R105). -/
structure Move where
  direction : Direction
  phaseTarget : Nat
  rate : Nat
  command : Option Command
  timerLeft : Nat
  standing : Standing
  setsTimer : Option (Nat × Nat)
  expiries : Nat
  retriesUsed : Nat
  resume : Option Motion
  tripNoted : Bool
  since : Nat
  driveAcked : Bool
  notesTrips : Bool
  holdStart : Nat
  holdElapsed : Nat
  stallReported : Bool
  dwellLeft : Nat
  starter : Option Nat
deriving DecidableEq, Repr

/-- 04 R84. The holder set is kept in ascending number; the crew timer is in milliseconds (log 3). `toldUnreachable` says that
VALVE_FAILED UNREACHABLE has been raised for the valve's present loss of reachability (R89, R116; the model's own, log 37). -/
structure ValveDyn where
  position : Reading
  confirmed : Bool
  motion : Motion
  operability : Operability
  holders : List Nat
  move : Option Move
  crewLeft : Option Nat
  toldUnreachable : Bool
deriving DecidableEq, Repr

/-- 04 R84: the record of a valve id after a full reset, and of an id that the table of records does not list. -/
def blankDyn : ValveDyn :=
  { position := none, confirmed := false, motion := .idle, operability := .operable, holders := [],
    move := none, crewLeft := none, toldUnreachable := false }

/-- 04 R84: the dynamic records by valve id, and the serial of the next command (log 17). -/
structure Drive where
  valves : Table ValveDyn
  serial : Nat
deriving DecidableEq, Repr

/-! ### Field lines (05) -/

/-- 05 R130, and the serial of the command (log 17). -/
structure QueueEntry where
  address : Nat
  channel : Nat
  kind : CommandKind
  valve : Nat
  serial : Nat
deriving DecidableEq, Repr

/-- 05 R128: what the exchange in flight carries. -/
inductive ExchangeKind where
  | poll
  | probe
  | command (entry : QueueEntry)
deriving DecidableEq, Repr

/-- 05 R128, R125: the response window is open while `window` has milliseconds left; it opens when the request's last
character has been sent. -/
structure Exchange where
  address : Nat
  kind : ExchangeKind
  sent : Bool
  window : Option Nat
  replyBegun : Bool
deriving DecidableEq, Repr

/-- 05 R133: times in milliseconds of elapsed time. `interval` is the interval in effect when last considered (R135). -/
structure PollEntry where
  address : Nat
  probe : Bool
  last : Option Nat
  due : Nat
  interval : Nat
deriving DecidableEq, Repr

/-- 05 R121: the last error code. -/
inductive LineError where
  | none
  | noReply
  | corrupt
  | wrongAddress
  | malformed
  | noNew
deriving DecidableEq, Repr

/-- 05 R121, and the valves whose commands the queue refused as full, in the order of first refusal (04 R94). `enabled` and
`speed` are the line settings in effect, as read from the map at the last entry to RUN (01 R10, 05 R121). -/
structure LineControl where
  exchange : Option Exchange
  queue : List QueueEntry
  schedule : List PollEntry
  urgentCount : Nat
  errorLog : Nat
  overflowReported : Bool
  lastError : LineError
  refused : List Nat
  enabled : Bool
  speed : Baud
deriving DecidableEq, Repr

/-- 05 R121: after a full reset. Before the first entry to RUN the settings in effect are those of the empty map (the model's
choice, log 57). -/
def resetControl : LineControl :=
  { exchange := none, queue := [], schedule := [], urgentCount := 0, errorLog := 0, overflowReported := false,
    lastError := .none, refused := [], enabled := false, speed := .b9600 }

/-! ### Station supervision and line supply (06) -/

/-- 06 R143. -/
inductive StationState where
  | online
  | degraded
  | offline
deriving DecidableEq, Repr

/-- One thing for each of a station's four channels. -/
structure PerChannel (α : Type) where
  c1 : α
  c2 : α
  c3 : α
  c4 : α
deriving DecidableEq, Repr

/-- 06 R143; `moving` says that the last good reply showed a channel MOVING (05 R134). -/
structure StationRec where
  score : Nat
  state : StationState
  probeRun : Nat
  pressure : Reading
  localControl : PerChannel Bool
  moving : Bool
deriving DecidableEq, Repr

/-- 06 R143: at the entry to RUN. -/
def freshStation : StationRec :=
  { score := 0, state := .online, probeRun := 0, pressure := none, localControl := ⟨false, false, false, false⟩,
    moving := false }

/-- 06 R151. -/
inductive SupplyState where
  | off
  | on
  | tripped
  | lockedOff
deriving DecidableEq, Repr

/-- 06 R151. `timeOn` is none once 30 s have passed and while the supply is not ON. Its times are in milliseconds (log 3). -/
structure Supply where
  state : SupplyState
  timeOn : Option Nat
  tripCount : Nat
  retryLeft : Option Nat
  overcurrent : Bool
  overTime : Nat
  trippedFlag : Bool
deriving DecidableEq, Repr

/-- 06 R151: after a full reset. -/
def resetSupply : Supply :=
  { state := .off, timeOn := none, tripCount := 0, retryLeft := none, overcurrent := false, overTime := 0,
    trippedFlag := false }

/-! ### Alarm inputs (07) -/

/-- 07 R160, with the electrical level of the pin (R161). A debounced level of none is NONE; the debounce
timer is in milliseconds (log 3). -/
structure AlarmInput where
  level : Level
  debounced : Option Level
  timer : Option Nat
  latched : Bool
  deferred : Bool
deriving DecidableEq, Repr

/-- 07 R160: after a full reset, at the given electrical level. -/
def resetAlarm (level : Level) : AlarmInput :=
  { level := level, debounced := none, timer := some 1000, latched := false, deferred := false }

/-! ### Report unit (08) -/

/-- 08 R170: the kinds, in the order of the table of kinds. -/
inductive ReportKind where
  | incidentState
  | planReady
  | consentNeeded
  | consentResolved
  | merged
  | crewRequest
  | crewOverdue
  | valveClosed
  | valveOpened
  | valveFailed
  | surgeHold
  | surgeResume
  | surgeStall
  | offNormal
  | localControl
  | stationHealth
  | lineSupply
  | lineLogOverflow
  | alarmInput
  | modeChanged
  | saveDone
  | mapInvalid
  | maskedSummary
deriving DecidableEq, Repr

/-- 08 R170. -/
inductive Subject where
  | part
  | incident (number : Nat)
  | valve (id : Nat)
  | station (line : Line) (address : Nat)
  | line (line : Line)
  | input (number : Nat)
deriving DecidableEq, Repr

/-- 08 R170: a value of none is UNKNOWN. -/
structure Report where
  kind : ReportKind
  time : Nat
  subject : Subject
  detail : Nat
  values : List (Option Nat)
deriving DecidableEq, Repr

/-- 08 R169: what is held for each kind; `onLine1` says that the route is attention line 1. -/
structure KindSetting where
  masked : Bool
  maskedCount : Nat
  onLine1 : Bool
deriving DecidableEq, Repr

/-- 08 R169. The settings are kept by kind, kind code 1 first. -/
structure ReportUnit where
  queue : List Report
  lost : Nat
  kinds : Vector KindSetting 23
  watermark : Nat
  timeBase : Nat
  attention0 : Bool
  attention1 : Bool
deriving DecidableEq, Repr

/-- 08 R169: the default settings of a kind. -/
def defaultKind (onLine1 : Bool) : KindSetting :=
  { masked := false, maskedCount := 0, onLine1 := onLine1 }

/-- 08 R169: after a full reset. Line 0 has INCIDENT_STATE, CONSENT_NEEDED, CREW_OVERDUE, VALVE_FAILED, SURGE_STALL,
ALARM_INPUT and MAP_INVALID. -/
def resetReports : ReportUnit :=
  { queue := [], lost := 0,
    kinds := #v[defaultKind false, defaultKind true, defaultKind false, defaultKind true, defaultKind true,
      defaultKind true, defaultKind false, defaultKind true, defaultKind true, defaultKind false,
      defaultKind true, defaultKind true, defaultKind false, defaultKind true, defaultKind true,
      defaultKind true, defaultKind true, defaultKind true, defaultKind false, defaultKind true,
      defaultKind true, defaultKind false, defaultKind true],
    watermark := 24, timeBase := 0, attention0 := false, attention1 := false }

/-! ### Host link (09) -/

/-- 09 R187. -/
inductive Status where
  | done
  | accepted
  | busy
  | wrongMode
  | wrongState
  | badField
  | unknownId
  | noRoom
  | absorbed
  | unknownKind
deriving DecidableEq, Repr

/-- 09 R186: a reply, as the kind of its request, its status and the bytes after the status. -/
structure Reply where
  request : Byte
  status : Status
  data : List Byte
deriving DecidableEq, Repr

/-- 09 R181, R186: in REPLYING, whether the reply is being sent and whether a character was received meanwhile. -/
inductive Receiver where
  | idle
  | receiving
  | discarding
  | replying (sending heard : Bool)
deriving DecidableEq, Repr

/-- 09 R180, R181, R186. The address is none when the straps give none; the speed is its code. `resetPending` is set
between the answer to RESET_PART and its full reset. -/
structure HostLink where
  strapAddress : Nat
  strapSpeed : Nat
  address : Option Nat
  speed : Nat
  receiver : Receiver
  frame : List Byte
  reply : Option Reply
  resetPending : Bool
deriving DecidableEq, Repr

/-- 09 R180: the address that the six address pins give. -/
def addressOfPins (pins : Nat) : Option Nat :=
  if 1 ≤ pins ∧ pins ≤ 62 then some pins else none

/-- 09 R180, R181: after a full reset with these pins. The number on the speed pins is taken as R190's code of the speed (the
model's choice, log 54). -/
def resetLink (addressPins speedPins : Nat) : HostLink :=
  { strapAddress := addressPins, strapSpeed := speedPins, address := addressOfPins addressPins, speed := speedPins,
    receiver := .idle, frame := [], reply := none, resetPending := false }

/-! ### The whole part -/

/-- Everything the part holds. `elapsed` is the clock of the poll schedule in milliseconds (05 R133); `freeCount` is
what the free values of Config are applied to (log 35); `pending` is the queue of commands that wait. -/
structure State where
  store : Store
  map : NetworkMap
  planner : Planner
  engine : Engine
  drive : Drive
  control : PerLine LineControl
  supply : PerLine Supply
  stations : Table StationRec
  alarms : Vector AlarmInput 8
  reports : ReportUnit
  link : HostLink
  elapsed : Nat
  freeCount : Nat
  pending : List Instr
deriving DecidableEq, Repr

/-- The spec gives the part no fault that stops it: every request is answered with a status (09 R187) and every event
leads to a next state. There is nothing to raise. -/
inductive Fault where
deriving DecidableEq, Repr

/-- The reasons to refuse a command. -/
inductive Refusal where
  /-- Raised by an arm of `exec` whose command has no meaning yet; no arm does. Safe. -/
  | notModelled (mnemonic : String)
deriving DecidableEq, Repr

/-- The part right after a power-on reset (10 R196) with a map store never written (log 7), strap pins all 0 (log 5) and
alarm pins LOW (log 6): every other field at the value after full reset that the spec gives beside it. -/
def State.reset : State :=
  { store := { mode := .starting, busy := false, image := .blank },
    map := emptyMap,
    planner := { queue := [], plan := none },
    engine := { slots := [], counter := 1, consentQueue := [], consentLeft := none, voidExpiries := 0 },
    drive := { valves := [], serial := 0 },
    control := ⟨resetControl, resetControl, resetControl, resetControl⟩,
    supply := ⟨resetSupply, resetSupply, resetSupply, resetSupply⟩,
    stations := [],
    alarms := Vector.replicate 8 (resetAlarm .low),
    reports := resetReports,
    link := resetLink 0 0,
    elapsed := 0,
    freeCount := 0,
    pending := [] }

end Sys2Proof.Machine
end

