-- ==== Sys2Proof/Config.lean ====
section
/-! DEFINITION. The free values: what the spec leaves open and the machine goes on with. Each is a constant without a
body, so nothing can be proved of it but what holds whatever it is. Every one has a row in notes/assumptions. -/

namespace Sys2Proof.Config

/-- 10 R200: whether a save cut by a reset was cut before any content was written (then the image is BLANK) or after
(then BAD_SUM). Applied to the state's free count. Log 9. -/
opaque saveCutBeforeContent : Nat → Bool

/-- 10 R200: what stands in the place of the sum when a save is cut after content was written, but that it does not match.
Applied to the state's free count. Log 9. -/
opaque cutSum : Nat → BitVec 16

/-- 10 R197: the 16-bit words that a content is stored as; the spec gives the sum over them, not the layout. Log 8. -/
opaque imageWords : Machine.NetworkMap → List (BitVec 16)

/-- 09 R180: the levels of the six address pins at the full reset that RESET_PART leads to. Applied to the state's free
count. Log 5. -/
opaque addressPins : Nat → BitVec 6

/-- 09 R180: the levels of the two speed pins at that full reset. Applied to the state's free count. Log 5. -/
opaque speedPins : Nat → BitVec 2

/-- 04 R96: which of the incidents that reach a valve at once starts it ("either may be the starter"). Applied to the
state's free count. Log 10. -/
opaque startTie : Nat → Nat

/-- 06 R158: whether an interval in milliseconds that is no whole number of tenths of a second is read rounded up.
Applied to the interval. Log 11. -/
opaque roundsUp : Nat → Bool

/-- 05 R141: the code with which READ_LINE returns the kind of the exchange in flight, for the kinds poll, probe,
DRIVE and STOP numbered 0 to 3. Log 12. -/
opaque exchangeKindCode : Nat → Byte

end Sys2Proof.Config
end

