-- ==== Sys2Proof/Machine/Ops.lean ====
section
/-! DEFINITION. The shared operations under every meaning: tables, the per-line and per-valve accessors, the incident
slots, the raising of reports with the attention lines, and the planner's queue. -/

namespace Sys2Proof.Machine

open Sys2Proof

/-! ### Numbers -/

/-- Division rounded up (00, "Quantities"). -/
def ceilDiv (n d : Nat) : Nat := (n + d - 1) / d

/-- A time left, in whole tenths of a second as a rule or a record gives it: those not yet counted off (log 3). -/
def tenthsLeft (ms : Nat) : Nat := ceilDiv ms 100

/-- A time passed, in whole tenths of a second as a rule or a record gives it (log 3). -/
def tenthsPassed (ms : Nat) : Nat := ms / 100

/-- A count held at a bound. -/
def saturate (bound n : Nat) : Nat := if n < bound then n + 1 else bound

/-! ### Tables by identifier -/

/-- The entry of an identifier. -/
def Table.get {α : Type} : Table α → Nat → Option α
  | [], _ => none
  | (k', x) :: t, k => if k = k' then some x else Table.get t k

/-- Makes the entry of an identifier present, replacing whole any entry that was present. -/
def Table.put {α : Type} : Table α → Nat → α → Table α
  | [], k, x => [(k, x)]
  | (k', x') :: t, k, x =>
    if k < k' then (k, x) :: (k', x') :: t
    else if k = k' then (k, x) :: t
    else (k', x') :: Table.put t k x

/-- Makes the entry of an identifier absent. -/
def Table.erase {α : Type} (t : Table α) (k : Nat) : Table α := t.filter fun e => e.1 != k

/-- Whether the entry of an identifier is present. -/
def Table.has {α : Type} (t : Table α) (k : Nat) : Bool := (Table.get t k).isSome

/-- The identifiers of a table, in its order. -/
def Table.keys {α : Type} (t : Table α) : List Nat := t.map (·.1)

/-- The canonical form: identifiers strictly rising. -/
abbrev Table.Wf {α : Type} (t : Table α) : Prop := List.Pairwise (· < ·) (Table.keys t)

/-! ### Lines -/

/-- 09 R190: the code of a line. -/
def Line.code : Line → Nat
  | .a => 0
  | .b => 1
  | .c => 2
  | .d => 3

/-- 09 R190: the line of a code. -/
def lineOfCode : Nat → Option Line
  | 0 => some .a
  | 1 => some .b
  | 2 => some .c
  | 3 => some .d
  | _ => none

/-- The four lines in letter order. -/
def allLines : List Line := [.a, .b, .c, .d]

/-- The part of a line. -/
def PerLine.get {α : Type} (p : PerLine α) : Line → α
  | .a => p.a
  | .b => p.b
  | .c => p.c
  | .d => p.d

/-- Sets the part of a line. -/
def PerLine.set {α : Type} (p : PerLine α) (l : Line) (x : α) : PerLine α :=
  match l with
  | .a => { p with a := x }
  | .b => { p with b := x }
  | .c => { p with c := x }
  | .d => { p with d := x }

/-- 01 R8: the key of a station in the station table: line letter, then address (09 R187 gives the same number). -/
def stationKey (l : Line) (address : Nat) : Nat := Line.code l * 256 + address

/-- The line of a station's key. -/
def lineOfKey (key : Nat) : Option Line := lineOfCode (key / 256)

/-- The part of a channel 1 to 4. -/
def PerChannel.get {α : Type} (p : PerChannel α) (channel : Nat) : α :=
  match channel with
  | 1 => p.c1
  | 2 => p.c2
  | 3 => p.c3
  | _ => p.c4

/-- The eight alarm inputs in order, by index 0 to 7. -/
def allInputs : List (Fin 8) := [0, 1, 2, 3, 4, 5, 6, 7]

/-- The index of an alarm input's number 1 to 8. -/
def inputIndex (number : Nat) : Option (Fin 8) :=
  if h : 1 ≤ number ∧ number ≤ 8 then some ⟨number - 1, by omega⟩ else none

/-! ### Parts of the state -/

/-- Changes the controller of a line. -/
def onControl (l : Line) (f : LineControl → LineControl) (s : State) : State :=
  { s with control := s.control.set l (f (s.control.get l)) }

/-- Changes the supply record of a line. -/
def onSupply (l : Line) (f : Supply → Supply) (s : State) : State :=
  { s with supply := s.supply.set l (f (s.supply.get l)) }

/-- 04 R84: the dynamic record of a valve id; an id not listed has the blank record. -/
def State.dyn (s : State) (v : Nat) : ValveDyn := (Table.get s.drive.valves v).getD blankDyn

/-- Sets the dynamic record of a valve id, keeping the table canonical: a blank record is not listed. -/
def setDyn (v : Nat) (d : ValveDyn) (s : State) : State :=
  { s with drive := { s.drive with
      valves := if d = blankDyn then Table.erase s.drive.valves v else Table.put s.drive.valves v d } }

/-- Changes the dynamic record of a valve id. -/
def onDyn (v : Nat) (f : ValveDyn → ValveDyn) (s : State) : State := setDyn v (f (s.dyn v)) s

/-- Changes the active move of a valve, when there is one. -/
def onMove (v : Nat) (f : Move → Move) (s : State) : State :=
  onDyn v (fun d => { d with move := d.move.map f }) s

/-- The actuated part of a present ACTUATED valve. -/
def State.actuated (s : State) (v : Nat) : Option ActuatedPart :=
  match Table.get s.map.valves v with
  | some r =>
    match r.kind with
    | .actuated p => some p
    | .manual => none
  | none => none

/-- The present ACTUATED valves with their parts, in ascending id. -/
def State.actuatedValves (s : State) : List (Nat × ActuatedPart) :=
  s.map.valves.filterMap fun e =>
    match e.2.kind with
    | .actuated p => some (e.1, p)
    | .manual => none

/-- The present ACTUATED valves of a line, in ascending id. -/
def State.valvesOfLine (s : State) (l : Line) : List (Nat × ActuatedPart) :=
  s.actuatedValves.filter fun e => e.2.line = l

/-- The present ACTUATED valve that names a channel: the one of lowest id (10 R201 lets no second one into RUN). -/
def State.valveOfChannel (s : State) (l : Line) (address channel : Nat) : Option (Nat × ActuatedPart) :=
  s.actuatedValves.find? fun e => e.2.line = l && e.2.address = address && e.2.channel = channel

/-- 06 R143: the record of a station; a present station without one reads as fresh (R158; log 32). -/
def State.station (s : State) (l : Line) (address : Nat) : StationRec :=
  (Table.get s.stations (stationKey l address)).getD freshStation

/-- Sets the record of a station. -/
def setStation (l : Line) (address : Nat) (r : StationRec) (s : State) : State :=
  { s with stations := Table.put s.stations (stationKey l address) r }

/-- Whether a segment lies in a set of segments; segment 0 lies in none (01 R2). -/
def inSegments (segment : Nat) (set : List Nat) : Bool := segment != 0 && set.contains segment

/-! ### Incident slots -/

/-- 00, "Terms": an active incident is in any state other than FREE and RESTORING. -/
def IncidentState.active : IncidentState → Bool
  | .restoring => false
  | _ => true

/-- 03 R53: start permission. -/
def IncidentState.permitted : IncidentState → Bool
  | .closing => true
  | .isolated => true
  | _ => false

/-- The incident held by a slot. -/
def State.slot (s : State) (slot : Nat) : Option Incident := Table.get s.engine.slots slot

/-- 03 R54: the incident of a number, with its slot. -/
def State.incident (s : State) (number : Nat) : Option (Nat × Incident) :=
  s.engine.slots.find? fun e => e.2.number = number

/-- Writes the record of a slot. -/
def putSlot (slot : Nat) (inc : Incident) (s : State) : State :=
  { s with engine := { s.engine with slots := Table.put s.engine.slots slot inc } }

/-- 03 R49: makes a slot FREE; its record is discarded whole. -/
def freeSlot (slot : Nat) (s : State) : State :=
  { s with engine := { s.engine with slots := Table.erase s.engine.slots slot } }

/-- The four slots, lowest first. -/
def allSlots : List Nat := [0, 1, 2, 3]

/-- Does something for the incident of each slot that is not FREE, in ascending slot order, each on the state the one
before left. -/
def forSlots (f : Nat → Incident → State → State) (s : State) : State :=
  allSlots.foldl (fun s slot =>
    match s.slot slot with
    | some inc => f slot inc s
    | none => s) s

/-- 03 R49: the lowest-numbered FREE slot. -/
def State.freeSlot? (s : State) : Option Nat := allSlots.find? fun slot => (s.slot slot).isNone

/-- The active incidents other than one, lowest slot first. -/
def State.otherActive (s : State) (number : Nat) : List Incident :=
  (s.engine.slots.map (·.2)).filter fun inc => inc.state.active && inc.number != number

/-- 03 R56, R58: the active incident whose region holds a segment. -/
def State.absorber (s : State) (segment : Nat) : Option Incident :=
  (s.engine.slots.map (·.2)).find? fun inc => inc.state.active && inSegments segment inc.region

/-! ### Codes carried in reports and replies (09 R190) -/

/-- 09 R190. -/
def flagCode (b : Bool) : Nat := if b then 1 else 0

/-- 09 R190. -/
def Mode.code : Mode → Nat
  | .starting => 0
  | .run => 1
  | .quiescing => 2
  | .config => 3

/-- 09 R190; FREE is 0. -/
def IncidentState.code : IncidentState → Nat
  | .planning => 1
  | .armed => 2
  | .awaitConsent => 3
  | .closing => 4
  | .isolated => 5
  | .uncontained => 6
  | .restoring => 7

/-- 09 R190: the code of the state FREE. -/
def freeCode : Nat := 0

/-- 09 R190. -/
def ConsentState.code : ConsentState → Nat
  | .notNeeded => 0
  | .pending => 1
  | .granted => 2
  | .declined => 3
  | .proceededOnTimeout => 4

/-- 09 R190; NONE is 0. -/
def causeCode : Option Cause → Nat
  | none => 0
  | some .regionCap => 1
  | some .boundaryCap => 2
  | some .outsideValve => 3
  | some .declined => 4

/-- 09 R190. -/
def Origin.code : Origin → Nat
  | .host => 0
  | .alarm n => n

/-- 09 R190, 04 R87. -/
def Motion.code : Motion → Nat
  | .idle => 0
  | .closingFast => 1
  | .closingSlow => 2
  | .holding => 3
  | .backoff => 4
  | .charging => 5
  | .dwell => 6
  | .opening => 7
  | .crewClose => 8
  | .crewOpen => 9

/-- 09 R190. -/
def Operability.code : Operability → Nat
  | .operable => 0
  | .suspect => 1
  | .inoperable => 2

/-- 09 R190. -/
def StationState.code : StationState → Nat
  | .online => 0
  | .degraded => 1
  | .offline => 2

/-- 09 R190. -/
def SupplyState.code : SupplyState → Nat
  | .off => 0
  | .on => 1
  | .tripped => 2
  | .lockedOff => 3

/-- 09 R190: line error codes; the first five are also the station state causes GOOD to MALFORMED. -/
def LineError.code : LineError → Nat
  | .none => 0
  | .noReply => 1
  | .corrupt => 2
  | .wrongAddress => 3
  | .malformed => 4
  | .noNew => 5

/-- 09 R190. -/
def Level.code : Level → Nat
  | .high => 0
  | .low => 1

/-- 09 R190; NONE is 2. -/
def levelCode : Option Level → Nat
  | some l => Level.code l
  | none => 2

/-- 09 R190. -/
def OverdueAction.code : OverdueAction → Nat
  | .report => 0
  | .planAround => 1

/-- 09 R190. -/
def Direction.code : Direction → Nat
  | .close => 0
  | .openUp => 1

/-- 09 R190. -/
def Standing.code : Standing → Nat
  | .running => 0
  | .stopped => 1
  | .frozen => 2

/-- 09 R190. -/
def Baud.code : Baud → Nat
  | .b9600 => 0
  | .b19200 => 1
  | .b38400 => 2

/-- 09 R190. -/
def PollClass.code : PollClass → Nat
  | .a => 0
  | .b => 1
  | .c => 2

/-- 09 R190. -/
def NormalState.code : NormalState → Nat
  | .normallyOpen => 0
  | .normallyClosed => 1

/-! ### Report unit (08) -/

/-- The place of a kind in the table of kinds, from 0. -/
def ReportKind.index : ReportKind → Fin 23
  | .incidentState => 0
  | .planReady => 1
  | .consentNeeded => 2
  | .consentResolved => 3
  | .merged => 4
  | .crewRequest => 5
  | .crewOverdue => 6
  | .valveClosed => 7
  | .valveOpened => 8
  | .valveFailed => 9
  | .surgeHold => 10
  | .surgeResume => 11
  | .surgeStall => 12
  | .offNormal => 13
  | .localControl => 14
  | .stationHealth => 15
  | .lineSupply => 16
  | .lineLogOverflow => 17
  | .alarmInput => 18
  | .modeChanged => 19
  | .saveDone => 20
  | .mapInvalid => 21
  | .maskedSummary => 22

/-- 09 R190: kinds are coded 1 to 23. -/
def ReportKind.code (k : ReportKind) : Nat := k.index.val + 1

/-- 09 R190: the kind of a code. -/
def kindOfCode : Nat → Option ReportKind
  | 1 => some .incidentState
  | 2 => some .planReady
  | 3 => some .consentNeeded
  | 4 => some .consentResolved
  | 5 => some .merged
  | 6 => some .crewRequest
  | 7 => some .crewOverdue
  | 8 => some .valveClosed
  | 9 => some .valveOpened
  | 10 => some .valveFailed
  | 11 => some .surgeHold
  | 12 => some .surgeResume
  | 13 => some .surgeStall
  | 14 => some .offNormal
  | 15 => some .localControl
  | 16 => some .stationHealth
  | 17 => some .lineSupply
  | 18 => some .lineLogOverflow
  | 19 => some .alarmInput
  | 20 => some .modeChanged
  | 21 => some .saveDone
  | 22 => some .mapInvalid
  | 23 => some .maskedSummary
  | _ => none

/-- The settings of a kind. -/
def ReportUnit.kind (u : ReportUnit) (k : ReportKind) : KindSetting := u.kinds[k.index]

/-- Sets the settings of a kind. -/
def ReportUnit.setKind (u : ReportUnit) (k : ReportKind) (x : KindSetting) : ReportUnit :=
  { u with kinds := u.kinds.set k.index x }

/-- 08 R169: the capacity of the report queue. -/
def reportCapacity : Nat := 32

/-- 08 R177: whether attention line 0 (false) or 1 (true) is to be asserted. -/
def ReportUnit.attention (u : ReportUnit) (line1 : Bool) : Bool :=
  u.queue.any (fun r => (u.kind r.kind).onLine1 = line1) || decide (u.watermark ≤ u.queue.length)

/-- 08 R177: derives both attention lines again. -/
def ReportUnit.derive (u : ReportUnit) : ReportUnit :=
  { u with attention0 := u.attention false, attention1 := u.attention true }

/-- 08 R171: takes a record: masked and counted, lost and counted, or queued. -/
def ReportUnit.raise (u : ReportUnit) (r : Report) : ReportUnit :=
  let k := u.kind r.kind
  if k.masked then u.setKind r.kind { k with maskedCount := saturate 255 k.maskedCount }
  else if reportCapacity ≤ u.queue.length then { u with lost := saturate 255 u.lost }
  else ReportUnit.derive { u with queue := u.queue ++ [r] }

/-- 08 R170, R171: a block raises a report; the unit stamps it with the time base. -/
def raise (kind : ReportKind) (subject : Subject) (detail : Nat) (values : List (Option Nat)) (s : State) : State :=
  { s with reports := s.reports.raise ⟨kind, s.reports.timeBase, subject, detail, values⟩ }

/-- 10 R195: changes the mode and raises MODE_CHANGED. -/
def changeMode (new : Mode) (s : State) : State :=
  raise .modeChanged .part new.code [some s.store.mode.code] { s with store := { s.store with mode := new } }

/-- 03 R54: raises INCIDENT_STATE for an incident as its record stands, with the new and the former state's code. -/
def raiseState (inc : Incident) (new former : Nat) (s : State) : State :=
  raise .incidentState (.incident inc.number) new
    [some former, some inc.planCount, some inc.region.length, some inc.boundary.length] s

/-! ### Planner queue (02, sections 2.1 and 2.2) -/

/-- 02 R27: sets the stale flag of the plan in progress. -/
def markStale (s : State) : State :=
  { s with planner := { s.planner with plan := s.planner.plan.map fun p => { p with stale := true } } }

/-- 02 R27: sets the stale flag when the plan in progress is for an incident other than the one named. -/
def markStaleForOthers (number : Nat) (s : State) : State :=
  { s with planner := { s.planner with
      plan := s.planner.plan.map fun p => if p.incident = number then p else { p with stale := true } } }

/-- 02 R27: sets the stale flag when the plan in progress is for the incident named. -/
def markStaleFor (number : Nat) (s : State) : State :=
  { s with planner := { s.planner with
      plan := s.planner.plan.map fun p => if p.incident = number then { p with stale := true } else p } }

/-- 02 R31: the region that the record of an incident holds. -/
def State.recordedRegion (s : State) (number : Nat) : List Nat :=
  match s.incident number with
  | some (_, inc) => inc.region
  | none => []

/-- 02 R26: starts the plan of the queue's head when no plan is in progress, from the region recorded for it. -/
def Planner.startNext (recorded : Nat → List Nat) (p : Planner) : Planner :=
  match p.plan, p.queue with
  | none, n :: rest => { queue := rest, plan := some (newPlan n (recorded n)) }
  | _, _ => p

/-- 02 R26, on the state. -/
def startNextPlan (s : State) : State := { s with planner := s.planner.startNext s.recordedRegion }

/-- 02 R25: takes a plan request for an incident. -/
def planRequest (number : Nat) (s : State) : State :=
  match s.incident number with
  | none => s
  | some (_, inc) =>
    if inc.state = .restoring then s
    else if s.planner.plan.any (fun p => p.incident = number) then markStaleFor number s
    else if s.planner.queue.contains number then s
    else startNextPlan { s with planner := { s.planner with queue := s.planner.queue ++ [number] } }

/-- 02 R29: removes an incident's entry from the plan queue. -/
def dropQueuedPlan (number : Nat) (s : State) : State :=
  { s with planner := { s.planner with queue := s.planner.queue.filter (· != number) } }

/-- 02 R29: discards the plan in progress, when it is the incident's, or its queue entry, and goes on by R26. -/
def dropPlan (number : Nat) (s : State) : State :=
  let s := dropQueuedPlan number s
  if s.planner.plan.any (fun p => p.incident = number) then
    startNextPlan { s with planner := { s.planner with plan := none } }
  else s

/-- 03 R62, R63: sets an incident's replan-pending flag and sends a plan request for it. -/
def requestReplan (slot : Nat) (inc : Incident) (s : State) : State :=
  planRequest inc.number (putSlot slot { inc with replanPending := true } s)

/-! ### Free values -/

/-- Takes the next free count (log 35). -/
def nextFree (s : State) : State := { s with freeCount := s.freeCount + 1 }

end Sys2Proof.Machine
end

