-- ==== Sys2Proof/Machine/Flags.lean ====
section
/-! DEFINITION. What the rules derive from the state and hold nowhere: reachability, usability, the surge guard's
conditions, the assertion of an alarm input, the counts of an incident. -/

namespace Sys2Proof.Machine

open Sys2Proof

/-- 00, "Quantities": the position from which a valve is closed. -/
def closedFrom : Nat := 995

/-- 00, "Quantities": the position up to which a valve is open. -/
def openUpTo : Nat := 5

/-- 00, "Quantities": how near to its target a position ends a move. -/
def tolerance : Nat := 5

/-- A known position at or above a bound. -/
def Reading.atLeast (r : Reading) (n : Nat) : Bool :=
  match r with
  | some p => n ≤ p
  | none => false

/-- A known position below a bound. -/
def Reading.below (r : Reading) (n : Nat) : Bool :=
  match r with
  | some p => p < n
  | none => false

/-- A known position within the tolerance of a target. -/
def Reading.near (r : Reading) (target : Nat) : Bool :=
  match r with
  | some p => p ≤ target + tolerance && target ≤ p + tolerance
  | none => false

/-- 04 R89, 06 R150: an ACTUATED valve with this part is reachable: its line is enabled with supply ON, its station is
present and not OFFLINE, and its channel is not in local control. A line is enabled as it was at the last entry to RUN (01
R10); which station the valve names, and that it is present, is read in CONFIG from the edited map (the model's choice, log
38). -/
def State.partReachable (s : State) (p : ActuatedPart) : Bool :=
  (s.control.get p.line).enabled && (s.supply.get p.line).state = .on
    && Table.has s.map.stations (stationKey p.line p.address)
    && (s.station p.line p.address).state != .offline
    && !(s.station p.line p.address).localControl.get p.channel

/-- 06 R150: a present ACTUATED valve is reachable by its part; a MANUAL or absent valve is not reachable. -/
def State.reachable (s : State) (v : Nat) : Bool :=
  match s.actuated v with
  | some p => s.partReachable p
  | none => false

/-- 02 R30: whether a present valve is usable for an incident. -/
def State.usable (s : State) (inc : Incident) (v : Nat) (r : ValveRec) : Bool :=
  !inc.excluded.contains v &&
    ((s.dyn v).confirmed ||
      ((s.dyn v).operability != .inoperable &&
        match r.kind with
        | .actuated p => s.partReachable p
        | .manual => true))

/-- 04 R102: a valve is guarded when its surge ceiling is not 0 and its station has a pressure tap. -/
def State.guarded (s : State) (p : ActuatedPart) : Bool :=
  p.surgeCeiling != 0 &&
    match Table.get s.map.stations (stationKey p.line p.address) with
    | some e => e.tap
    | none => false

/-- 04 R87: whether the motion state is one of a crew request outstanding. -/
def Motion.crew : Motion → Bool
  | .crewClose => true
  | .crewOpen => true
  | _ => false

/-- 03 R52: the motion states that count as moving. -/
def Motion.closingMotion : Motion → Bool
  | .closingFast => true
  | .closingSlow => true
  | .holding => true
  | .backoff => true
  | _ => false

/-- 04 R88: whether a valve has an active move of a direction whose starter is an incident. -/
def ValveDyn.movesFor (d : ValveDyn) (direction : Direction) (number : Nat) : Bool :=
  match d.move with
  | some m => m.direction = direction && m.starter = some number
  | none => false

/-- 04 R95: an incident's count, the active closing moves whose starter it is. -/
def State.closingCount (s : State) (number : Nat) : Nat :=
  s.drive.valves.countP fun e => e.2.movesFor .close number

/-- 03 R80: the opening moves that an incident started and that are in flight. -/
def State.openingCount (s : State) (number : Nat) : Nat :=
  s.drive.valves.countP fun e => e.2.movesFor .openUp number

/-- 04 R90: the valves whose holder set names an incident, in ascending id. -/
def State.heldBy (s : State) (number : Nat) : List Nat :=
  (s.drive.valves.filter fun e => e.2.holders.contains number).map (·.1)

/-- 04 R96: the start order of an incident: its boundary set in closing sequence order, then the other valves it holds
in ascending id. -/
def State.startOrder (s : State) (inc : Incident) : List Nat :=
  inc.boundary ++ (s.heldBy inc.number).filter fun v => !inc.boundary.contains v

/-- 04 R96: whether a valve is startable for an incident. -/
def State.startable (s : State) (number v : Nat) : Bool :=
  let d := s.dyn v
  s.reachable v && d.holders.contains number && !d.confirmed && d.move.isNone && d.motion = .idle
    && d.operability != .inoperable

/-- 04 R97: whether a crew request is to be raised for a MANUAL valve on behalf of an incident with start permission. -/
def State.crewWanted (s : State) (inc : Incident) (v : Nat) : Bool :=
  let d := s.dyn v
  (match Table.get s.map.valves v with
   | some r => r.kind = .manual
   | none => false)
    && d.holders.contains inc.number && !inc.excluded.contains v && !d.confirmed && d.operability != .inoperable
    && d.motion = .idle

/-- 03 R70: every boundary valve of an incident is closed-confirmed. -/
def State.allConfirmed (s : State) (inc : Incident) : Bool := inc.boundary.all fun v => (s.dyn v).confirmed

/-- 03 R52: the heading under which a boundary valve is counted: 0 closed, 1 failed, 2 moving, 3 crew pending,
4 waiting. -/
def State.progressOf (s : State) (inc : Incident) (v : Nat) : Nat :=
  let d := s.dyn v
  if d.confirmed then 0
  else
    match Table.get s.map.valves v with
    | none => 1
    | some r =>
      if !s.usable inc v r then 1
      else
        match r.kind with
        | .actuated _ => if d.motion.closingMotion then 2 else 4
        | .manual => if d.motion = .crewClose then 3 else 4

/-- 03 R52: how many boundary valves are counted under a heading. -/
def State.progress (s : State) (inc : Incident) (heading : Nat) : Nat :=
  inc.boundary.countP fun v => s.progressOf inc v = heading

/-- 03 R83: an incident's place in the consent queue, the oldest as 1, and 0 when it is not in it. -/
def State.consentPlace (s : State) (number : Nat) : Nat :=
  if s.engine.consentQueue.contains number then s.engine.consentQueue.idxOf number + 1 else 0

/-- 07 R162: an input in this state with these settings is asserted. -/
def assertedWith (x : AlarmInput) (settings : AlarmSettings) : Bool :=
  x.debounced = some settings.active && settings.segment != 0

/-- 07 R162: an input is asserted. -/
def State.asserted (s : State) (i : Fin 8) : Bool := assertedWith s.alarms[i] s.map.alarms[i]

/-- 01 R9: the coded poll interval in milliseconds. -/
def StationEntry.codedInterval (e : StationEntry) : Nat :=
  match e.pollClass with
  | .a => e.multiplier * 50
  | .b => 3200 + e.multiplier * 200
  | .c => 16000 + e.multiplier * 1000

/-- 05 R134: a station is moving while its last good reply showed a channel MOVING or while a valve of it has an active
move. -/
def State.stationMoving (s : State) (l : Line) (address : Nat) : Bool :=
  (s.station l address).moving ||
    s.actuatedValves.any fun e => e.2.line = l && e.2.address = address && (s.dyn e.1).move.isSome

/-- 05 R134: the interval in effect of a station that is not OFFLINE, in milliseconds. -/
def State.interval (s : State) (l : Line) (address : Nat) : Nat :=
  let coded :=
    match Table.get s.map.stations (stationKey l address) with
    | some e => e.codedInterval
    | none => 0
  let base := if (s.station l address).state = .degraded then 2 * coded else coded
  if s.stationMoving l address then min base 1000 else base

/-- 05 R122: a line controller may start exchanges, by the settings in effect (01 R10). -/
def State.mayStart (s : State) (l : Line) : Bool :=
  s.store.mode = .run && (s.control.get l).enabled && (s.supply.get l).state = .on

/-- 05 R125: the base of the response window in milliseconds. -/
def Baud.windowBase : Baud → Nat
  | .b9600 => 60
  | .b19200 => 40
  | .b38400 => 30

/-- 05 R125: the response window of an exchange with a station, in milliseconds, by the speed in effect (01 R10). -/
def State.window (s : State) (l : Line) (address : Nat) : Nat :=
  (s.control.get l).speed.windowBase +
    match Table.get s.map.stations (stationKey l address) with
    | some e => e.extraDelay * 10
    | none => 0

end Sys2Proof.Machine
end

