-- ==== Sys2Proof/Machine/Clock.lean ====
section
/-! DEFINITION. Elapsed time: what one millisecond does when no command waits (log 3). The counters of the rules count,
and a counter that reaches its mark puts its event into the queue of commands, which the next steps take. Every timer counts
milliseconds from its own start, so that none ends early; the time base alone counts the tenths of a second of one clock. -/

namespace Sys2Proof.Machine

open Sys2Proof

/-! ### Marks that the next millisecond reaches -/

/-- Whether what is left of a time that counts down ends with the next millisecond. -/
def endsNext : Option Nat → Bool
  | some n => n ≤ 1
  | none => false

/-- 06 R154: the time on after which the trip count is set to 0, in milliseconds. -/
def timeOnLimit : Nat := 30000

/-- 06 R152, R154, 05 R125: the marks of a line: an overcurrent that passes the blanking time, a response window that ends, a
retry left that ends in RUN, and a time on that reaches 30 s. That the blanking time is passed a millisecond after it is
reached is the model's choice (log 60). -/
def State.lineMarks (s : State) (l : Line) : List Instr :=
  let u := s.supply.get l
  (if u.state = .on && u.overcurrent && decide ((s.map.lines.get l).blanking ≤ u.overTime) then [.supplyTrip l] else [])
    ++ (if (s.control.get l).exchange.any (fun x => endsNext x.window) then [.responseWindowExpiry l] else [])
    ++ (if endsNext u.retryLeft && s.store.mode = .run then [.supplyRetry l] else [])
    ++ (if u.timeOn.any (fun n => timeOnLimit ≤ n + 1) then [.timeOnReached l] else [])

/-- 04 R104, R108, R111: the marks of a valve's move. -/
def State.moveMarks (s : State) (v : Nat) (motion : Motion) (m : Move) : List Instr :=
  (if m.standing = .running ∧ m.timerLeft ≤ 1 then [.moveTimerExpiry v] else [])
    ++ (match motion, s.actuated v with
        | .holding, some p =>
          if p.maximumHold ≠ 0 ∧ m.stallReported = false ∧ p.maximumHold * 1000 ≤ m.holdElapsed + 1 then [.surgeStall v]
          else []
        | .dwell, some _ => if m.dwellLeft ≤ 1 then [.dwellEnd v] else []
        | _, _ => [])

/-- 04 R113: the marks of a valve. -/
def State.valveMarks (s : State) (e : Nat × ValveDyn) : List Instr :=
  (match e.2.move with
   | some m => s.moveMarks e.1 e.2.motion m
   | none => [])
    ++ (if endsNext e.2.crewLeft then [.crewOverdue e.1] else [])

/-- 07 R161: the mark of an input. -/
def State.inputMarks (s : State) (i : Fin 8) : List Instr :=
  if endsNext s.alarms[i].timer then [.debounceExpiry (i.val + 1)] else []

/-- 03 R67: the mark of the consent timer. -/
def State.consentMarks (s : State) : List Instr := if endsNext s.engine.consentLeft then [.consentTimeout] else []

/-- 08 R172: the greatest value of the time base. -/
def lastTime : Nat := 4294967295

/-- 08 R172: whether the next millisecond ends a tenth of a second of the time base. -/
def State.endsTenth (s : State) : Bool := (s.elapsed + 1) % 100 = 0

/-- 08 R172: the wrap of the time base. -/
def State.wrapMarks (s : State) : List Instr :=
  if s.endsTenth && lastTime ≤ s.reports.timeBase then [.timeBaseWrap] else []

/-- Every mark that the next millisecond reaches. Their order, and so which of two events of one millisecond is taken first,
is the model's choice (log 44): the wrap of the time base, the consent timer, the valves in ascending id, the lines in letter
order, the inputs in ascending number. -/
def State.marks (s : State) : List Instr :=
  s.wrapMarks ++ s.consentMarks ++ s.drive.valves.flatMap s.valveMarks ++ allLines.flatMap s.lineMarks
    ++ allInputs.flatMap s.inputMarks

/-! ### Counting -/

/-- A count down of what is left, when it runs. -/
def countDown (left : Option Nat) : Option Nat := left.map (· - 1)

/-- 05 R125: a millisecond of an exchange. -/
def Exchange.millisecond (x : Exchange) : Exchange := { x with window := countDown x.window }

/-- 05 R125: a millisecond of a line's controller. -/
def LineControl.millisecond (c : LineControl) : LineControl :=
  { c with exchange := c.exchange.map Exchange.millisecond }

/-- 06 R152, R154: a millisecond of a supply in a mode. -/
def Supply.millisecond (u : Supply) (mode : Mode) : Supply :=
  { u with overTime := if u.state = .on && u.overcurrent then min 255 (u.overTime + 1) else u.overTime,
           retryLeft := if mode = .run then countDown u.retryLeft else u.retryLeft,
           timeOn := u.timeOn.map fun n => min timeOnLimit (n + 1) }

/-- 04 R101, R104, R111: a millisecond of a move in a motion state. The hold elapsed counts without bound (log 46). -/
def Move.millisecond (m : Move) (motion : Motion) : Move :=
  { m with timerLeft := if m.standing = .running then m.timerLeft - 1 else m.timerLeft,
           holdElapsed := if motion = .holding then m.holdElapsed + 1 else m.holdElapsed,
           dwellLeft := if motion = .dwell then m.dwellLeft - 1 else m.dwellLeft }

/-- 04 R113: a millisecond of a valve. -/
def ValveDyn.millisecond (d : ValveDyn) : ValveDyn :=
  { d with move := d.move.map fun m => m.millisecond d.motion, crewLeft := countDown d.crewLeft }

/-- 07 R161: a millisecond of an input. -/
def AlarmInput.millisecond (x : AlarmInput) : AlarmInput := { x with timer := countDown x.timer }

/-- The same for each of the four lines. -/
def PerLine.map {α : Type} (f : α → α) (p : PerLine α) : PerLine α := ⟨f p.a, f p.b, f p.c, f p.d⟩

/-- A millisecond in every block; each hundredth of the clock is a tenth of a second of the time base (log 3). -/
def State.millisecond (s : State) : State :=
  { s with
    elapsed := s.elapsed + 1
    reports := { s.reports with
      timeBase := if s.endsTenth then min lastTime (s.reports.timeBase + 1) else s.reports.timeBase }
    engine := { s.engine with consentLeft := countDown s.engine.consentLeft }
    drive := { s.drive with valves := s.drive.valves.map fun e => (e.1, e.2.millisecond) }
    control := s.control.map LineControl.millisecond
    supply := s.supply.map fun u => u.millisecond s.store.mode
    alarms := allInputs.foldl (fun (a : Vector AlarmInput 8) (i : Fin 8) => a.set i s.alarms[i].millisecond) s.alarms }

/-- Puts events into the queue of commands. -/
def enqueue (events : List Instr) (s : State) : State := { s with pending := s.pending ++ events }

/-- One millisecond: the counters count, and what they reach waits (log 3). -/
def tick (s : State) : State := enqueue s.marks s.millisecond

end Sys2Proof.Machine
end

