-- ==== Sys2Proof/Machine/Operands.lean ====
section
/-! DEFINITION. How the fields of a request are read and judged (01 R13), how the fields of a reply are laid out in bytes
(09 R190, R193, R194), and how a request is answered (09 R185, R187). -/

namespace Sys2Proof.Machine

open Sys2Proof

/-! ### Bytes (09 R190: an integer is sent high byte first) -/

/-- One byte. -/
def be1 (n : Nat) : List Byte := [BitVec.ofNat 8 n]

/-- Two bytes, the high one first. -/
def be2 (n : Nat) : List Byte := [BitVec.ofNat 8 (n / 256), BitVec.ofNat 8 n]

/-- Four bytes, the highest first. -/
def be4 (n : Nat) : List Byte :=
  [BitVec.ofNat 8 (n / 16777216), BitVec.ofNat 8 (n / 65536), BitVec.ofNat 8 (n / 256), BitVec.ofNat 8 n]

/-- A flag in one byte. -/
def beFlag (b : Bool) : List Byte := be1 (flagCode b)

/-- 09 R190: a position or pressure in two bytes; UNKNOWN has every bit set. -/
def beReading : Reading → List Byte
  | some n => be2 n
  | none => [0xFF#8, 0xFF#8]

/-- 09 R190: a report value in four bytes; UNKNOWN has every bit set. -/
def beValue : Option Nat → List Byte
  | some n => be4 n
  | none => [0xFF#8, 0xFF#8, 0xFF#8, 0xFF#8]

/-- The number that bytes spell, the high byte first. -/
def bigEndian (bytes : List Byte) : Nat := bytes.foldl (fun n b => n * 256 + b.toNat) 0

/-- The field of some bytes at an offset of a payload. -/
def field (payload : List Byte) (offset size : Nat) : Nat := bigEndian ((payload.drop offset).take size)

/-! ### Judging fields (01 R13) -/

/-- The first field, in payload order and counting from 1, whose check fails. -/
def firstBad (checks : List Bool) : Option Nat :=
  (checks.findIdx? (· = false)).map (· + 1)

/-- Within a range. -/
def inRange (low high n : Nat) : Bool := low ≤ n && n ≤ high

/-- A code of a set of two. -/
def isFlag (n : Nat) : Bool := n ≤ 1

/-! ### Answers -/

/-- What an owner answers: the state after the request, the status and the bytes after the status. -/
structure Answer where
  state : State
  status : Status
  data : List Byte
deriving DecidableEq, Repr

/-- A request that is refused with a status changes nothing (09 R185). -/
def refuse (status : Status) (s : State) : Answer := ⟨s, status, []⟩

/-- 09 R187: refused with BAD_FIELD naming a field of the request. -/
def badField (index : Nat) (s : State) : Answer := ⟨s, .badField, be1 index ++ be1 0 ++ be2 0⟩

/-- 09 R187: refused with BAD_FIELD naming a record of the map. -/
def badRecord (kind identifier : Nat) (s : State) : Answer := ⟨s, .badField, be1 0 ++ be1 kind ++ be2 identifier⟩

/-- 09 R185: the reply is formed in the reply buffer and the receiver enters REPLYING. -/
def answered (request : Byte) (a : Answer) : State :=
  { a.state with link := { a.state.link with
      reply := some { request := request, status := a.status, data := a.data },
      receiver := .replying false false } }

/-- 09 R187: the code of a status. -/
def Status.code : Status → Nat
  | .done => 0
  | .accepted => 1
  | .busy => 2
  | .wrongMode => 3
  | .wrongState => 4
  | .badField => 5
  | .unknownId => 6
  | .noRoom => 7
  | .absorbed => 8
  | .unknownKind => 9

/-! ### Requests with gates -/

/-- 10 R199, 01 section 1.7: the gate of a map edit: WRONG_MODE outside CONFIG, BUSY while a save is in progress, then
the fields in payload order, then the edit. -/
def mapEdit (checks : List Bool) (edit : State → Answer) (s : State) : Answer :=
  if s.store.mode ≠ .config then refuse .wrongMode s
  else if s.store.busy then refuse .busy s
  else
    match firstBad checks with
    | some i => badField i s
    | none => edit s

/-- The gate of a request that a mode permits or not, then the fields in payload order, then the request. -/
def gated (permitted : Mode → Bool) (checks : List Bool) (act : State → Answer) (s : State) : Answer :=
  if permitted s.store.mode then
    match firstBad checks with
    | some i => badField i s
    | none => act s
  else refuse .wrongMode s

/-- Taken in RUN. -/
def inRun : Mode → Bool
  | .run => true
  | _ => false

/-- Taken in RUN, QUIESCING and CONFIG. -/
def afterStart : Mode → Bool
  | .starting => false
  | _ => true

/-- Taken in RUN and CONFIG. -/
def inRunOrConfig : Mode → Bool
  | .run => true
  | .config => true
  | _ => false

/-- Taken in every mode. -/
def anyMode : Mode → Bool := fun _ => true

/-! ### Records in bytes -/

/-- 09 R193: the subject of a report, its type and its two bytes. -/
def Subject.bytes : Subject → List Byte
  | .part => be1 0 ++ be2 0
  | .incident n => be1 1 ++ be2 n
  | .valve v => be1 2 ++ be2 v
  | .station l a => be1 3 ++ be2 (stationKey l a)
  | .line l => be1 4 ++ be2 (Line.code l)
  | .input i => be1 5 ++ be2 i

/-- 09 R193: a report record. -/
def Report.bytes (r : Report) : List Byte :=
  be1 r.kind.code ++ be4 r.time ++ r.subject.bytes ++ be1 r.detail ++ be1 r.values.length
    ++ r.values.flatMap beValue

/-- 09 R194: bytes 9 to 26 of the valve read-back record for an actuated part. -/
def ActuatedPart.bytes (p : ActuatedPart) : List Byte :=
  be1 (Line.code p.line) ++ be1 p.address ++ be1 p.channel ++ be2 p.strokeTime ++ be2 p.throttlePoint
    ++ be1 p.slowRatio ++ be2 p.surgeCeiling ++ be2 p.surgeHysteresis ++ be2 p.maximumHold ++ be1 p.torqueRetries
    ++ be1 p.chargeOpening ++ be2 p.chargeDwell

/-- 04 R111: in DWELL a move has no move timer. -/
def Motion.hasTimer : Motion → Bool
  | .dwell => false
  | _ => true

/-- 09 R194: the move's part of the read-back record, in a motion state; a field with no value is sent as 0 (R190). After a
hold the hold elapsed is still the last hold's (the model's choice, log 66). -/
def Move.bytes (m : Move) (motion : Motion) : List Byte :=
  be1 m.direction.code ++ be2 m.phaseTarget ++ be1 m.rate ++ be2 (if motion.hasTimer then tenthsLeft m.timerLeft else 0)
    ++ be1 (if motion.hasTimer then m.standing.code else 0) ++ be1 m.expiries
    ++ be1 m.retriesUsed ++ be4 m.holdStart ++ be4 (tenthsPassed m.holdElapsed)
    ++ be2 (tenthsLeft m.dwellLeft) ++ be1 (m.starter.getD 0)
    ++ beFlag (m.command.any fun c => !c.acked)

/-- The code of a valve's kind. -/
def ValveKind.code : ValveKind → Nat
  | .actuated _ => 0
  | .manual => 1

/-- 09 R194: the valve read-back record, 65 bytes. -/
def readBack (v : Nat) (r : ValveRec) (d : ValveDyn) (reachable : Bool) : List Byte :=
  be2 v ++ be2 r.endA ++ be2 r.endB ++ be1 r.kind.code ++ be1 r.normal.code ++ be1 r.closingRank
    ++ (match r.kind with
        | .actuated p => p.bytes
        | .manual => List.replicate 18 0#8)
    ++ beReading d.position ++ beFlag d.confirmed ++ be1 d.motion.code ++ be1 d.operability.code ++ beFlag reachable
    ++ be1 d.holders.length ++ ((d.holders.map (BitVec.ofNat 8)) ++ List.replicate 4 0#8).take 4
    ++ beFlag d.move.isSome
    ++ (match d.move with
        | some m => m.bytes d.motion
        | none => List.replicate 21 0#8)
    ++ beFlag d.crewLeft.isSome ++ be4 (tenthsLeft (d.crewLeft.getD 0))

/-- A page of at most 100 items from a start index (01 R23, 09 R188). -/
def page (items : List Nat) (start : Nat) : List Nat := (items.drop start).take 100

/-- 06 R158: an interval of milliseconds in tenths of a second; the spec does not say how one that is no whole number
of tenths is rounded (log 11). -/
def tenthsOf (ms : Nat) : Nat :=
  if ms % 100 = 0 then ms / 100 else if Config.roundsUp ms then ms / 100 + 1 else ms / 100

end Sys2Proof.Machine
end

