-- ==== Sys2Proof/Machine/Urgent.lean ====
section
/-! DEFINITION. The urgent queue of a line (05, section 5.3) and how the valve drive issues, offers again and withdraws
the commands of its moves (04, section 4.4). -/

namespace Sys2Proof.Machine

open Sys2Proof

/-- 05 R121: the capacity of an urgent queue. -/
def urgentCapacity : Nat := 16

/-- Whether an entry is for a station's channel. -/
def QueueEntry.forChannel (e : QueueEntry) (address channel : Nat) : Bool :=
  e.address = address && e.channel = channel

/-- 05 R130: an offer to an urgent queue: the queue after it, or none when it is refused as full. -/
def offered (queue : List QueueEntry) (e : QueueEntry) : Option (List QueueEntry) :=
  if queue.any fun x => x.forChannel e.address e.channel then
    some (queue.map fun x => if x.forChannel e.address e.channel then e else x)
  else if urgentCapacity ≤ queue.length then none
  else some (queue ++ [e])

/-- The urgent-queue entry of a valve's command. -/
def entryFor (v : Nat) (p : ActuatedPart) (kind : CommandKind) (serial : Nat) : QueueEntry :=
  { address := p.address, channel := p.channel, kind := kind, valve := v, serial := serial }

/-- 04 R94, 05 R130: offers a command; one that is refused as full stays pending at the end of the refused valves, or at
the place the valve has there already. -/
def offer (l : Line) (e : QueueEntry) (s : State) : State :=
  onControl l (fun c =>
    match offered c.queue e with
    | some q => { c with queue := q, refused := c.refused.filter (· != e.valve) }
    | none => { c with refused := if c.refused.contains e.valve then c.refused else c.refused ++ [e.valve] }) s

/-- 04 R108: offers a command once: a refusal as full leaves nothing pending. -/
def offerOnce (l : Line) (e : QueueEntry) (s : State) : State :=
  onControl l (fun c =>
    match offered c.queue e with
    | some q => { c with queue := q, refused := c.refused.filter (· != e.valve) }
    | none => { c with refused := c.refused.filter (· != e.valve) }) s

/-- 05 R131: withdraws the command of a valve: its channel's entry leaves the queue, and nothing of it stays pending. -/
def withdraw (v : Nat) (p : ActuatedPart) (s : State) : State :=
  onControl p.line (fun c =>
    { c with queue := c.queue.filter (fun x => !x.forChannel p.address p.channel),
             refused := c.refused.filter (· != v) }) s

/-- Takes the next serial of a command (log 17). -/
def takeSerial (s : State) : State := { s with drive := { s.drive with serial := s.drive.serial + 1 } }

/-- 04 R94: issues a command of a valve's move: it becomes the move's last command, unacknowledged, and is offered. -/
def issue (v : Nat) (p : ActuatedPart) (kind : CommandKind) (s : State) : State :=
  let n := s.drive.serial
  offer p.line (entryFor v p kind n)
    (onMove v (fun m => { m with command := some { kind := kind, serial := n, acked := false } }) (takeSerial s))

/-- 04 R101: issues a DRIVE of the current phase that sets the move timer: the timer is STOPPED at the issue and set to
the preset (in milliseconds) when this DRIVE is acknowledged. -/
def issueTimed (v : Nat) (p : ActuatedPart) (target rate preset : Nat) (s : State) : State :=
  let n := s.drive.serial
  issue v p (.drive target rate)
    (onMove v (fun m => { m with phaseTarget := target, rate := rate, standing := .stopped,
                                 setsTimer := some (n, preset) }) s)

/-- 04 R99, R106: issues a DRIVE of a new phase under the timer that runs. -/
def issueUntimed (v : Nat) (p : ActuatedPart) (target rate : Nat) (s : State) : State :=
  issue v p (.drive target rate) (onMove v (fun m => { m with phaseTarget := target, rate := rate }) s)

/-- 04 R94: the command a valve's move is waiting to have acknowledged. -/
def State.waitingCommand (s : State) (v : Nat) : Option Command :=
  match (s.dyn v).move with
  | some m =>
    match m.command with
    | some c => if c.acked then none else some c
    | none => none
  | none => none

/-- 04 R94: offers again the commands that were refused as full, in the order of their first refusal; the offers stop at
the first that is refused again. -/
def reoffer : List Nat → Line → State → State
  | [], _, s => s
  | v :: rest, l, s =>
    match s.waitingCommand v, s.actuated v with
    | some c, some p =>
      let s' := offer l (entryFor v p c.kind c.serial) s
      if (s'.control.get l).refused.contains v then s' else reoffer rest l s'
    | _, _ => reoffer rest l (onControl l (fun c => { c with refused := c.refused.filter (· != v) }) s)

/-- 04 R94: after an exchange completion on a line. -/
def reofferRefused (l : Line) (s : State) : State := reoffer (s.control.get l).refused l s

/-- 05 R132: empties the urgent queue whole, with what was pending of it in the valve drive. -/
def emptyUrgent (l : Line) (s : State) : State := onControl l (fun c => { c with queue := [], refused := [] }) s

/-- 05 R132: removes the entries of a station that has become OFFLINE. -/
def dropStationCommands (l : Line) (address : Nat) (s : State) : State :=
  onControl l (fun c => { c with queue := c.queue.filter fun e => e.address != address }) s

end Sys2Proof.Machine
end

