-- ==== Sys2Proof/Machine/Notices.lean ====
section
/-! DEFINITION. What the valve drive hands to the incident engine and the planner: the request to replan (03 R63), the
change of a closed-confirmed flag (03 R70, R72; 04 R86, R116), the change of an operability (04 R109), and a failed
valve (04 R110). -/

namespace Sys2Proof.Machine

open Sys2Proof

/-- 09 R190: the details of VALVE_FAILED. -/
def failedTorque : Nat := 0
/-- 09 R190. -/
def failedTimeout : Nat := 1
/-- 09 R190. -/
def failedUnreachable : Nat := 2
/-- 09 R190. -/
def failedCrew : Nat := 3

/-- 09 R190: the details of OFF_NORMAL. -/
def reopened : Nat := 0
/-- 09 R190. -/
def notReopened : Nat := 1

/-- 03 R63: whether an incident relies on a valve with these holders. -/
def Incident.reliesOn (inc : Incident) (v : Nat) (holders : List Nat) : Bool :=
  (holders.contains inc.number && inc.state != .restoring)
    || ((inc.state = .armed || inc.state = .awaitConsent) && inc.boundary.contains v)

/-- 03 R63: asks for the replanning of the incidents that rely on a valve, in ascending slot order. -/
def replanRequest (v : Nat) (s : State) : State :=
  forSlots (fun slot inc s => if inc.reliesOn v (s.dyn v).holders then requestReplan slot inc s else s) s

/-- 04 R110: raises VALVE_FAILED with the position, the number of holders and the starter of the failed move or 0. -/
def raiseFailed (v detail starter : Nat) (s : State) : State :=
  raise .valveFailed (.valve v) detail [(s.dyn v).position, some (s.dyn v).holders.length, some starter] s

/-- 04 R91, R116: raises OFF_NORMAL with the position and the number of holders. -/
def raiseOffNormal (v detail : Nat) (s : State) : State :=
  raise .offNormal (.valve v) detail [(s.dyn v).position, some (s.dyn v).holders.length] s

/-- 03 R54: puts an incident into a state and raises INCIDENT_STATE; a state that does not change raises nothing. -/
def enterState (slot : Nat) (new : IncidentState) (s : State) : State :=
  match s.slot slot with
  | some inc =>
    if inc.state = new then s
    else raiseState inc new.code inc.state.code (putSlot slot { inc with state := new } s)
  | none => s

/-- 03 R70: the isolation test of an incident in CLOSING. -/
def isolationTest (slot : Nat) (s : State) : State :=
  match s.slot slot with
  | some inc => if inc.state = .closing ∧ s.allConfirmed inc then enterState slot .isolated s else s
  | none => s

/-- 03 R72: the engine takes the change of a valve's closed-confirmed flag, which `set` gives as it now stands. Several
incidents that one change moves are moved in ascending slot order (the model's choice, log 39). -/
def confirmedNotice (v : Nat) (set : Bool) (s : State) : State :=
  forSlots (fun slot inc s =>
    if !inc.boundary.contains v then s
    else if set then isolationTest slot s
    else if inc.state = .isolated then enterState slot .closing s
    else s) s

/-- 06 R149: whether an ACTUATED valve's channel is in local control. -/
def State.inLocalControl (s : State) (v : Nat) : Bool :=
  match s.actuated v with
  | some p => (s.station p.line p.address).localControl.get p.channel
  | none => false

/-- 04 R89: notes whether VALVE_FAILED has been raised for a valve's present loss of reachability. -/
def tellUnreachable (v : Nat) (told : Bool) (s : State) : State := onDyn v (fun d => { d with toldUnreachable := told }) s

/-- 04 R89, R110: a valve without a move fails as unreachable: VALVE_FAILED, then the request to replan. -/
def failUnreachable (v : Nat) (s : State) : State :=
  replanRequest v (raiseFailed v failedUnreachable 0 (tellUnreachable v true s))

/-- 04 R86, R116: a closed-confirmed flag takes its new value. Set while the valve is unreachable, it makes a later loss one
to be reported anew (log 37). -/
def writeConfirmed (v : Nat) (value : Bool) (s : State) : State :=
  let anew := value && !s.reachable v
  onDyn v (fun d => { d with confirmed := value, toldUnreachable := d.toldUnreachable && !anew }) s

/-- 04 R86, R116: gives a valve's closed-confirmed flag its value. A change makes a plan in progress stale (02 R27); a
held valve without a move that loses the flag raises OFF_NORMAL REOPENED; the engine then takes the change. In local control
such a valve was opened from its chamber and fails as unreachable too, with R89's request to replan, unless that was raised
when it became unreachable (log 37). That the planner is told of the change before this request, so that a plan that the
request starts is not stale, is the model's choice (log 58). -/
def setConfirmed (v : Nat) (value : Bool) (s : State) : State :=
  if (s.dyn v).confirmed = value then s
  else
    let s := markStale (writeConfirmed v value s)
    let lost := !value && (s.dyn v).move.isNone && !(s.dyn v).holders.isEmpty
    let s := confirmedNotice v value (if lost then raiseOffNormal v reopened s else s)
    if lost && s.inLocalControl v && !(s.dyn v).toldUnreachable then failUnreachable v s else s

/-- 04 R109: gives a valve its operability. A change makes a plan in progress stale (02 R27). -/
def setOperability (v : Nat) (value : Operability) (s : State) : State :=
  if (s.dyn v).operability = value then s
  else markStale (onDyn v (fun d => { d with operability := value }) s)

/-- 04 R109: a SUSPECT valve whose move completes, or that a crew has worked, becomes OPERABLE. -/
def redeem (v : Nat) (s : State) : State :=
  if (s.dyn v).operability = .suspect then setOperability v .operable s else s

/-- 04 R108: a valve's move becomes absent and its motion state IDLE, with its last command left where it is. -/
def clearMove (v : Nat) (s : State) : State :=
  onDyn v (fun d => { d with move := none, motion := .idle }) s

/-- 04 R94: ends a valve's move and withdraws its command if it has not been sent. -/
def endMove (v : Nat) (p : ActuatedPart) (s : State) : State := clearMove v (withdraw v p s)

/-- 04 R89, R107, R108, R110: what follows the failure of a move that has just ended: VALVE_FAILED, and for a closing
move with a starter the request to replan. -/
def failedMove (v : Nat) (m : Move) (detail : Nat) (s : State) : State :=
  let s := raiseFailed v detail (m.starter.getD 0) s
  if m.direction = .close && m.starter.isSome then replanRequest v s else s

end Sys2Proof.Machine
end

