-- ==== Sys2Proof/Machine/Moves.lean ====
section
/-! DEFINITION. The closure profile, the surge guard, the torque back-off and the opening profile (04, sections 4.6 to
4.10): how a move starts, passes from phase to phase on a good reply, completes and fails. -/

namespace Sys2Proof.Machine

open Sys2Proof

/-! ### Rates and timers -/

/-- 04 R98: the fast rate. -/
def ActuatedPart.fast (p : ActuatedPart) : Nat := ceilDiv 1000 p.strokeTime

/-- 04 R98: the slow rate. -/
def ActuatedPart.slow (p : ActuatedPart) : Nat := max 1 (p.fast / p.slowRatio)

/-- 04 R101, R111: the timer of an expected time in seconds, in milliseconds. -/
def timerOf (expected : Nat) : Nat := (expected + expected / 4 + 10) * 1000

/-- 04 R101: the expected time of a close from a position. -/
def ActuatedPart.closeTime (p : ActuatedPart) (position : Nat) : Nat :=
  ceilDiv (p.throttlePoint - position) p.fast + ceilDiv (1000 - max position p.throttlePoint) p.slow

/-- 04 R111: the charge target. -/
def ActuatedPart.chargeTarget (p : ActuatedPart) : Nat := 1000 - p.chargeOpening

/-- 04 R111: the phase time of CHARGING from a position. -/
def ActuatedPart.chargeTime (p : ActuatedPart) (position : Nat) : Nat := ceilDiv (position - p.chargeTarget) p.slow

/-- 04 R111: the phase time of OPENING from a position. -/
def ActuatedPart.openTime (p : ActuatedPart) (position : Nat) : Nat := ceilDiv position p.fast

/-- 04 R106: the expected time of a back-off DRIVE that is issued again. -/
def ActuatedPart.backoffTime (p : ActuatedPart) : Nat := ceilDiv 20 p.fast

/-- 04 R88, R98, R111: the record of a move that starts, its commands being those from a serial on. -/
def newMove (direction : Direction) (starter since : Nat) : Move :=
  { direction := direction, phaseTarget := 0, rate := 0, command := none, timerLeft := 0, standing := .stopped,
    setsTimer := none, expiries := 0, retriesUsed := 0, resume := none, tripNoted := false, since := since,
    driveAcked := false, notesTrips := false,
    holdStart := 0, holdElapsed := 0, stallReported := false, dwellLeft := 0, starter := some starter }

/-- Gives a valve its motion state. -/
def setMotion (v : Nat) (motion : Motion) (s : State) : State := onDyn v (fun d => { d with motion := motion }) s

/-! ### Closing -/

/-- 04 R98, R103: the DRIVE of the closing band of a position below closed, with a timer of its own. -/
def driveBand (v : Nat) (p : ActuatedPart) (s : State) : State :=
  let p0 := (s.dyn v).position.getD 0
  if p0 < p.throttlePoint then
    issueTimed v p p.throttlePoint p.fast (timerOf (p.closeTime p0)) (setMotion v .closingFast s)
  else
    issueTimed v p 1000 p.slow (timerOf (p.closeTime p0)) (setMotion v .closingSlow s)

/-- 04 R98: starts a closing move for an incident from the valve's position; a closed-confirmed valve is held as it
is. -/
def startClosing (v : Nat) (p : ActuatedPart) (starter : Nat) (s : State) : State :=
  if (s.dyn v).confirmed then s
  else driveBand v p (onDyn v (fun d => { d with move := some (newMove .close starter s.drive.serial) }) s)

/-- 04 R100: a closing move completes. -/
def completeClosing (v : Nat) (p : ActuatedPart) (m : Move) (s : State) : State :=
  let s := redeem v (endMove v p s)
  raise .valveClosed (.valve v) 0 [(s.dyn v).position, some (m.starter.getD 0), some m.retriesUsed] s

/-- 04 R103: takes a closing move up again by its band from the position as it stands: at closed the move completes
and no DRIVE is issued. -/
def resumeClosing (v : Nat) (p : ActuatedPart) (m : Move) (s : State) : State :=
  if (s.dyn v).position.atLeast closedFrom then completeClosing v p m s else driveBand v p s

/-- 04 R99: a CLOSING_FAST valve passes to its slow band; the timer goes on. -/
def changeBand (v : Nat) (p : ActuatedPart) (s : State) : State :=
  issueUntimed v p 1000 p.slow (setMotion v .closingSlow s)

/-- 04 R102: a surge hold at a pressure. It notes a trip when a DRIVE of the move was acknowledged before it (R105). The timer
is FROZEN as it stands: the setting by a DRIVE whose acknowledgement is this very reply is dropped (the model's choice, log
50). In HOLDING phase target and rate stay those of the stroke's last DRIVE (the model's choice, log 56). -/
def holdMove (v : Nat) (p : ActuatedPart) (m : Move) (pressure : Nat) (s : State) : State :=
  let t := s.reports.timeBase
  let s := onMove v (fun m => { m with standing := .frozen, setsTimer := none, holdStart := t, holdElapsed := 0,
                                       stallReported := false, tripNoted := false, notesTrips := m.driveAcked })
             (setMotion v .holding s)
  let s := issue v p .stop s
  raise .surgeHold (.valve v) 0
    [some pressure, some p.surgeCeiling, (s.dyn v).position, some (m.starter.getD 0)] s

/-! ### Opening -/

/-- 04 R111: the DRIVE of the CHARGING phase from the position as it stands. -/
def driveCharge (v : Nat) (p : ActuatedPart) (s : State) : State :=
  let p0 := (s.dyn v).position.getD 1000
  issueTimed v p p.chargeTarget p.slow (timerOf (p.chargeTime p0)) (setMotion v .charging s)

/-- 04 R111: the DRIVE of the OPENING phase from a position. -/
def driveOpen (v : Nat) (p : ActuatedPart) (position : Nat) (s : State) : State :=
  issueTimed v p 0 p.fast (timerOf (p.openTime position)) (setMotion v .opening s)

/-- 04 R111: the choice of the opening phase from the position as it stands, UNKNOWN counting as 1000. -/
def driveOpening (v : Nat) (p : ActuatedPart) (s : State) : State :=
  let p0 := (s.dyn v).position.getD 1000
  if p.chargeTarget < p0 then driveCharge v p s else driveOpen v p p0 s

/-- 04 R111: starts an opening move for the releasing incident. -/
def startOpening (v : Nat) (p : ActuatedPart) (starter : Nat) (s : State) : State :=
  driveOpening v p (onDyn v (fun d => { d with move := some (newMove .openUp starter s.drive.serial) }) s)

/-- 04 R111: the dwell is over: the valve is driven fully open, its phase time reckoned from the smaller of the position
and the charge target. -/
def endDwell (v : Nat) (p : ActuatedPart) (s : State) : State :=
  driveOpen v p (min ((s.dyn v).position.getD 1000) p.chargeTarget)
    (onMove v (fun m => { m with dwellLeft := 0 }) s)

/-- 04 R111: DWELL begins, with no timer and no DRIVE: the charge's DRIVE, if it still waits, is withdrawn (log 23). Phase
target and rate stay those of the charge's last DRIVE (the model's choice, log 56). -/
def beginDwell (v : Nat) (p : ActuatedPart) (s : State) : State :=
  onMove v (fun m => { m with command := none, timerLeft := 0, standing := .stopped, setsTimer := none,
                              dwellLeft := p.chargeDwell * 1000 })
    (setMotion v .dwell (withdraw v p s))

/-- 04 R111: the charge is complete: DWELL, or OPENING at once for a dwell of 0, whose DRIVE takes the place of a charge's
DRIVE that still waits (R94). -/
def completeCharge (v : Nat) (p : ActuatedPart) (s : State) : State :=
  if p.chargeDwell = 0 then endDwell v p (onMove v (fun m => { m with timerLeft := 0 }) s) else beginDwell v p s

/-- 04 R112: an opening move completes. -/
def completeOpening (v : Nat) (p : ActuatedPart) (m : Move) (s : State) : State :=
  let s := redeem v (endMove v p s)
  raise .valveOpened (.valve v) 0 [(s.dyn v).position, some (m.starter.getD 0), some m.retriesUsed] s

/-! ### Torque trips (04 R106, R107) -/

/-- 04 R106: the target of a back-off from a position. -/
def backoffTarget (direction : Direction) (position : Reading) : Nat :=
  match direction with
  | .close => position.getD 0 - 20
  | .openUp => min 1000 (position.getD 1000 + 20)

/-- 04 R106: a back-off DRIVE issued again, with its target kept and a timer of its own. -/
def reissueBackoff (v : Nat) (p : ActuatedPart) (m : Move) (s : State) : State :=
  issueTimed v p m.phaseTarget p.fast (timerOf p.backoffTime) s

/-- 04 R106, R107: a torque trip is seen on a move: a back-off while retries are left, else the valve is INOPERABLE and
the move fails. A timer frozen by a hold runs on (log 20); one that a line reset STOPPED during the hold stays STOPPED until a
DRIVE's acknowledgement sets it (the model's choice, log 48). -/
def torqueTrip (v : Nat) (p : ActuatedPart) (m : Move) (s : State) : State :=
  if m.retriesUsed < p.torqueRetries then
    let motion := (s.dyn v).motion
    let s := onMove v (fun m => { m with
                retriesUsed := m.retriesUsed + 1
                resume := if motion = .backoff then m.resume else some motion
                standing := if m.standing = .frozen then .running else m.standing })
              (setMotion v .backoff s)
    issueUntimed v p (backoffTarget m.direction (s.dyn v).position) p.fast s
  else failedMove v m failedTorque (endMove v p (setOperability v .inoperable s))

/-- 04 R106: the back-off has ended: a fresh DRIVE in the move's direction from the position as it stands. -/
def endBackoff (v : Nat) (p : ActuatedPart) (m : Move) (s : State) : State :=
  let s := onMove v (fun m => { m with resume := none }) s
  match m.direction with
  | .close => resumeClosing v p m s
  | .openUp => driveOpening v p s

/-! ### A good reply (04 R98) -/

/-- 05 R124: what a reply reports of a channel. -/
structure ChannelReport where
  position : Reading
  moving : Bool
  trip : Bool
  localControl : Bool
deriving DecidableEq, Repr

/-- 04 R106: a torque trip is seen when the move's current command is a DRIVE that was acknowledged before. -/
def Move.seesTrip (m : Move) (r : ChannelReport) : Bool :=
  r.trip && m.command.any fun c => c.acked && c.kind != CommandKind.stop

/-- 04 R117: the DRIVE of a driving phase was discarded by a line reset and is to be issued again. -/
def Move.lostDrive (m : Move) : Bool := m.command.isNone

/-- 04 R102: a reading above a valve's ceiling. -/
def surging (p : ActuatedPart) (pressure : Reading) : Bool := pressure.atLeast (p.surgeCeiling + 1)

/-- 04 R103: a reading at or below a valve's resume level. -/
def settled (p : ActuatedPart) (pressure : Reading) : Bool :=
  pressure.below (p.surgeCeiling - p.surgeHysteresis + 1)

/-- 04 R103: the hold ends by resumption at a pressure. -/
def endHold (v : Nat) (p : ActuatedPart) (m : Move) (pressure : Reading) (s : State) : State :=
  resumeClosing v p m
    (raise .surgeResume (.valve v) 0 [pressure, some (tenthsPassed m.holdElapsed), (s.dyn v).position] s)

/-- 04 R103, R105: a good reply for a HOLDING valve: a trip is noted in a hold that notes trips; at the resume level the move resumes, or a noted
trip is handled as a torque trip. -/
def judgeHolding (v : Nat) (p : ActuatedPart) (m : Move) (r : ChannelReport) (pressure : Reading) (s : State) : State :=
  let noted := m.tripNoted || (r.trip && m.notesTrips)
  if settled p pressure then
    let s := onMove v (fun m => { m with tripNoted := false }) s
    if noted then torqueTrip v p m s else endHold v p m pressure s
  else onMove v (fun m => { m with tripNoted := noted }) s

/-- 04 R98: a good reply for a valve in CLOSING_FAST or CLOSING_SLOW: torque trip, completion, surge hold, then the DRIVE
lost at a line reset (R117), then the band change. -/
def judgeClosing (v : Nat) (p : ActuatedPart) (m : Move) (r : ChannelReport) (pressure : Reading) (s : State) : State :=
  if m.seesTrip r then torqueTrip v p m s
  else if r.position.atLeast closedFrom && !r.moving then completeClosing v p m s
  else if s.guarded p && surging p pressure then holdMove v p m (pressure.getD 0) s
  else if m.lostDrive then resumeClosing v p m s
  else if (s.dyn v).motion = .closingFast && r.position.atLeast (p.throttlePoint - tolerance) then changeBand v p s
  else s

/-- 04 R106: a good reply for a valve in BACKOFF. -/
def judgeBackoff (v : Nat) (p : ActuatedPart) (m : Move) (r : ChannelReport) (s : State) : State :=
  if m.seesTrip r then torqueTrip v p m s
  else if r.position.near m.phaseTarget && !r.moving then endBackoff v p m s
  else if m.lostDrive then reissueBackoff v p m s
  else s

/-- 04 R106, R111: a good reply for a valve in CHARGING. A DRIVE lost at a line reset (R117) is issued by the phase that R111
chooses afresh (log 51). -/
def judgeCharging (v : Nat) (p : ActuatedPart) (m : Move) (r : ChannelReport) (s : State) : State :=
  if m.seesTrip r then torqueTrip v p m s
  else if r.position.near p.chargeTarget && !r.moving then completeCharge v p s
  else if m.lostDrive then driveOpening v p s
  else s

/-- 04 R106, R112: a good reply for a valve in OPENING. A DRIVE lost at a line reset (R117) is issued by the phase that R111
chooses afresh, so that a move past its dwell goes back to CHARGING from a position above the charge target (log 51). -/
def judgeOpening (v : Nat) (p : ActuatedPart) (m : Move) (r : ChannelReport) (s : State) : State :=
  if m.seesTrip r then torqueTrip v p m s
  else if r.position.below (openUpTo + 1) && !r.moving then completeOpening v p m s
  else if m.lostDrive then driveOpening v p s
  else s

/-- 04 R98 to R112: judges a valve's move, when there is one, by a good reply. -/
def judgeMove (v : Nat) (p : ActuatedPart) (r : ChannelReport) (pressure : Reading) (s : State) : State :=
  match (s.dyn v).move with
  | none => s
  | some m =>
    match (s.dyn v).motion with
    | .closingFast => judgeClosing v p m r pressure s
    | .closingSlow => judgeClosing v p m r pressure s
    | .holding => judgeHolding v p m r pressure s
    | .backoff => judgeBackoff v p m r s
    | .charging => judgeCharging v p m r s
    | .opening => judgeOpening v p m r s
    | .dwell => s
    | .idle => s
    | .crewClose => s
    | .crewOpen => s

/-- 04 R85, R86, R98: the valve drive takes a channel's report of a good reply: the position, the closed-confirmed flag,
then the move. -/
def takeReport (v : Nat) (p : ActuatedPart) (r : ChannelReport) (pressure : Reading) (s : State) : State :=
  let s := onDyn v (fun d => { d with position := r.position }) s
  let s :=
    match r.position with
    | some n => setConfirmed v (decide (closedFrom ≤ n)) s
    | none => s
  judgeMove v p r pressure s

/-- 05 R123: whether a command is a DRIVE. -/
def CommandKind.isDrive : CommandKind → Bool
  | .drive _ _ => true
  | .stop => false

/-- 04 R94, R101, R105: a move after a command with a serial has been acknowledged: the serial tells
whether the command is still the move's last, whether it is the DRIVE that sets the move timer, and whether it is of this
move; a DRIVE of the move that is acknowledged counts for R105, though a newer command has taken its place. -/
def Move.acknowledged (m : Move) (kind : CommandKind) (serial : Nat) : Move :=
  { m with
    command := m.command.map fun c => if c.serial = serial then { c with acked := true } else c
    driveAcked := m.driveAcked || (kind.isDrive && decide (m.since ≤ serial))
    timerLeft := match m.setsTimer with
                 | some (n, preset) => if n = serial then preset else m.timerLeft
                 | none => m.timerLeft
    standing := match m.setsTimer with
                | some (n, _) => if n = serial then .running else m.standing
                | none => m.standing
    setsTimer := match m.setsTimer with
                 | some (n, preset) => if n = serial then none else some (n, preset)
                 | none => none }

/-- 04 R94: a command of a valve is acknowledged by the good reply of its exchange. -/
def acknowledge (e : QueueEntry) (s : State) : State :=
  onMove e.valve (fun m => m.acknowledged e.kind e.serial) s

/-- 04 R94: the exchange that carried a command completed with an error: a command still waiting is offered again at once
while the station is not OFFLINE. -/
def commandFailed (l : Line) (e : QueueEntry) (s : State) : State :=
  match s.waitingCommand e.valve, s.actuated e.valve with
  | some c, some p =>
    if c.serial = e.serial && (s.station l e.address).state != .offline then
      offer l (entryFor e.valve p c.kind c.serial) s
    else s
  | _, _ => s

/-! ### The move timer (04 R108) -/

/-- 04 R108: the DRIVE of the current phase is issued again from the position as it stands. -/
def reissuePhase (v : Nat) (p : ActuatedPart) (m : Move) (s : State) : State :=
  match (s.dyn v).motion with
  | .backoff => reissueBackoff v p m s
  | .closingFast => resumeClosing v p m s
  | .closingSlow => resumeClosing v p m s
  | .charging => driveCharge v p s
  | .opening => driveOpen v p ((s.dyn v).position.getD 1000) s
  | _ => s

/-- 04 R108: the first expiry of a move: an OPERABLE valve becomes SUSPECT and the DRIVE is issued again. -/
def firstExpiry (v : Nat) (p : ActuatedPart) (m : Move) (s : State) : State :=
  let s := if (s.dyn v).operability = .operable then setOperability v .suspect s else s
  reissuePhase v p m (onMove v (fun m => { m with timerLeft := 0, expiries := 1 }) s)

/-- 04 R108: the second expiry of a move: INOPERABLE, a STOP offered once, and the move fails. -/
def secondExpiry (v : Nat) (p : ActuatedPart) (m : Move) (s : State) : State :=
  let n := s.drive.serial
  failedMove v m failedTimeout
    (clearMove v (offerOnce p.line (entryFor v p .stop n) (takeSerial (setOperability v .inoperable s))))

end Sys2Proof.Machine
end

