-- ==== Sys2Proof/Machine/Holders.lean ====
section
/-! DEFINITION. Holder sets and targets (04, section 4.3), crew requests (04, section 4.11) and the change of a valve's
reachability (04 R89, 06 R150). -/

namespace Sys2Proof.Machine

open Sys2Proof

/-- Puts a number into a list in ascending order. -/
def insertAscending : Nat → List Nat → List Nat
  | n, [] => [n]
  | n, m :: rest => if n < m then n :: m :: rest else if n = m then m :: rest else m :: insertAscending n rest

/-- 04 R113: the crew timer that a request starts, in milliseconds; none for a crew timeout of 0. -/
def crewTimer (minutes : Nat) : Option Nat := if minutes = 0 then none else some (minutes * 60000)

/-- The closing rank of a valve. -/
def State.rankOf (s : State) (v : Nat) : Nat :=
  match Table.get s.map.valves v with
  | some r => r.closingRank
  | none => 0

/-- 04 R113: raises CREW_REQUEST for a valve on behalf of an incident and starts the crew timer. -/
def requestCrew (v : Nat) (direction : Direction) (incident : Nat) (s : State) : State :=
  let s := raise .crewRequest (.valve v) direction.code
             [some incident, some (s.rankOf v), some s.map.policy.crewTimeout] s
  onDyn v (fun d => { d with
    motion := match direction with
      | .close => .crewClose
      | .openUp => .crewOpen
    crewLeft := crewTimer s.map.policy.crewTimeout }) s

/-- Gives a valve's move its starter. -/
def setStarter (v : Nat) (starter : Option Nat) (s : State) : State := onMove v (fun m => { m with starter := starter }) s

/-- Ends a valve's move, when there is one, without a report. -/
def endAnyMove (v : Nat) (p : ActuatedPart) (s : State) : State :=
  if (s.dyn v).move.isSome then endMove v p s else s

/-- 04 R91: the incident in the lowest slot among some holders. -/
def State.lowestHolder (s : State) (holders : List Nat) : Option Nat :=
  (s.engine.slots.find? fun e => holders.contains e.2.number).map (·.2.number)

/-- 04 R91: the release that leaves the holder set of an ACTUATED, normally OPEN valve empty. -/
def releaseActuated (v : Nat) (p : ActuatedPart) (incident : Nat) (s : State) : State :=
  if s.partReachable p && (s.dyn v).operability != .inoperable then
    if (s.dyn v).position.below (openUpTo + 1) then endAnyMove v p s
    else startOpening v p incident (endAnyMove v p s)
  else raiseOffNormal v notReopened s

/-- 04 R91: the release that leaves the holder set of a valve empty. -/
def releaseLast (v incident : Nat) (s : State) : State :=
  match Table.get s.map.valves v with
  | none => s
  | some r =>
    match r.normal, r.kind with
    | .normallyClosed, _ => setStarter v none s
    | .normallyOpen, .actuated p => releaseActuated v p incident s
    | .normallyOpen, .manual =>
      if (s.dyn v).confirmed || (s.dyn v).position.atLeast (openUpTo + 1) || (s.dyn v).motion = .crewClose then
        requestCrew v .openUp incident s
      else s

/-- 04 R91: a release that leaves other holders hands a closing move of the releasing incident to the remaining holder in
the lowest slot. -/
def handMove (v incident : Nat) (s : State) : State :=
  if (s.dyn v).movesFor .close incident then setStarter v (s.lowestHolder (s.dyn v).holders) s else s

/-- 04 R90, R91: a release order. A change of the holder set makes a plan of another incident stale (02 R27). -/
def releaseOrder (v incident : Nat) (s : State) : State :=
  if (s.dyn v).holders.contains incident then
    let s := markStaleForOthers incident
               (onDyn v (fun d => { d with holders := d.holders.filter (· != incident) }) s)
    if (s.dyn v).holders.isEmpty then releaseLast v incident s else handMove v incident s
  else s

/-- 04 R92: what the hold order that makes a holder set non-empty does to a move or a crew request: an opening move is
reversed, an ownerless closing move takes the incident as its starter, a wait for a crew to open ends. -/
def firstHold (v incident : Nat) (s : State) : State :=
  match (s.dyn v).move, s.actuated v with
  | some m, some p =>
    match m.direction, m.starter with
    | .openUp, _ => startClosing v p incident (endMove v p s)
    | .close, none => setStarter v (some incident) s
    | .close, some _ => s
  | _, _ =>
    if (s.dyn v).motion = .crewOpen then onDyn v (fun d => { d with motion := .idle, crewLeft := none }) s else s

/-- 04 R90, R92: a hold order. A change of the holder set makes a plan of another incident stale (02 R27). -/
def holdOrder (incident : Nat) (s : State) (v : Nat) : State :=
  if (s.dyn v).holders.contains incident then s
  else
    let first := (s.dyn v).holders.isEmpty
    let s := markStaleForOthers incident
               (onDyn v (fun d => { d with holders := insertAscending incident d.holders }) s)
    if first then firstHold v incident s else s

/-- 03 R55: hold orders for an incident's boundary set, in closing sequence order. -/
def holdBoundary (inc : Incident) (s : State) : State := inc.boundary.foldl (holdOrder inc.number) s

/-- 04 R89: whether an incident in ARMED or AWAIT_CONSENT has a valve in its boundary set. -/
def State.awaited (s : State) (v : Nat) : Bool :=
  s.engine.slots.any fun e => (e.2.state = .armed || e.2.state = .awaitConsent) && e.2.boundary.contains v

/-- 04 R89: a valve has become unreachable. Whether VALVE_FAILED is raised for it is noted (log 37). -/
def becomeUnreachable (v : Nat) (p : ActuatedPart) (s : State) : State :=
  match (s.dyn v).move with
  | some m => failedMove v m failedUnreachable (endMove v p (tellUnreachable v true s))
  | none =>
    if !(s.dyn v).confirmed && (!(s.dyn v).holders.isEmpty || s.awaited v) then
      failUnreachable v s
    else tellUnreachable v false s

/-- 06 R150: hands on, in ascending id, each valve of a line whose reachability differs from what it was before: to the
planner (02 R27), and to the valve drive when it has become unreachable. That the planner comes first, so that a plan which
this very change starts is not stale, is the model's choice (log 58). A valve become reachable is started in its turn by
R96. -/
def handReach (l : Line) (before s : State) : State :=
  (s.valvesOfLine l).foldl (fun s e =>
    if before.reachable e.1 = s.reachable e.1 then s
    else if s.reachable e.1 then markStale s
    else becomeUnreachable e.1 e.2 (markStale s)) s

end Sys2Proof.Machine
end

