-- ==== Sys2Proof/Machine/Settle.lean ====
section
/-! DEFINITION. What follows in every step from conditions as they come to hold: the consent queue's timer (03 R65 to
R67), the entry into CLOSING (03 R55, R70), the release orders and the end of a restore (03 R80, R81), the starts of
closing moves and crew requests (04 R96, R97), and the due times of stations whose interval in effect changes (05
R135). -/

namespace Sys2Proof.Machine

open Sys2Proof

/-! ### Consent queue -/

/-- 03 R67: the count that the consent timer starts from, in milliseconds; none when the consent timeout is 0. -/
def consentPreset (policy : Policy) : Option Nat :=
  if policy.consentTimeout = 0 then none else some (policy.consentTimeout * 1000)

/-- 03 R65, R67: an incident joins the tail of the consent queue; on an empty queue the timer starts. -/
def joinConsent (number : Nat) (s : State) : State :=
  { s with engine := { s.engine with
      consentQueue := s.engine.consentQueue ++ [number]
      consentLeft := if s.engine.consentQueue.isEmpty then consentPreset s.map.policy else s.engine.consentLeft } }

/-- 03 R68: the oldest entry has left the consent queue: an expiry of its time that waits in the queue of commands does not
happen. When the expiry itself took the entry out there is none to call off (log 68). -/
def callOffExpiry (byTimer : Bool) (s : State) : State :=
  if byTimer then s
  else { s with engine := { s.engine with voidExpiries := s.pending.count .consentTimeout } }

/-- 03 R66, R68: an entry leaves the consent queue, by the timer's expiry or not: the timer is started anew for the next
oldest, or is idle, when the oldest left, and is untouched otherwise. -/
def leaveConsent (number : Nat) (byTimer : Bool) (s : State) : State :=
  if s.engine.consentQueue.contains number then
    let rest := s.engine.consentQueue.filter (· != number)
    if s.engine.consentQueue.head? = some number then
      callOffExpiry byTimer
        { s with engine := { s.engine with
            consentQueue := rest
            consentLeft := if rest.isEmpty then none else consentPreset s.map.policy } }
    else { s with engine := { s.engine with consentQueue := rest } }
  else s

/-- 03 R66: the consent state of an incident that leaves the queue without an answer. -/
def ConsentState.unanswered : ConsentState → ConsentState
  | .pending => .notNeeded
  | c => c

/-! ### Starts (04 R96, R97) -/

/-- 04 R96: the first startable valve in an incident's start order. -/
def State.firstStartable (s : State) (inc : Incident) : Option Nat :=
  (s.startOrder inc).find? fun v => s.startable inc.number v

/-- 04 R96: the incidents that may start a move now, lowest slot first, each with the valve it would start. -/
def State.starters (s : State) : List (Nat × Nat) :=
  s.engine.slots.filterMap fun e =>
    if e.2.state.permitted && decide (s.closingCount e.2.number < s.map.policy.parallel) then
      (s.firstStartable e.2).map fun v => (e.2.number, v)
    else none

/-- 04 R96: which of the incidents that reach a valve at once starts it: the free value chooses among two or more. -/
def chooseStarter (first : Nat × Nat) (rivals : List (Nat × Nat)) (free : Nat) : Nat × Nat :=
  match rivals with
  | [] => first
  | _ => ((first :: rivals)[Config.startTie free % (rivals.length + 1)]?).getD first

/-- 04 R96: one round: the lowest-slot incident that may start a move, or a rival for the same valve, starts it. That
the lowest slot starts all it may before the next is the model's choice (log 52). -/
def startOne (s : State) : Option State :=
  match s.starters with
  | [] => none
  | first :: rest =>
    let rivals := rest.filter fun x => x.2 = first.2
    let chosen := chooseStarter first rivals s.freeCount
    match s.actuated chosen.2 with
    | some p =>
      some (startClosing chosen.2 p chosen.1 (if rivals.isEmpty then s else nextFree s))
    | none => none

/-- 04 R96: repeats while an incident may start a move. -/
def startRounds : Nat → State → State
  | 0, s => s
  | n + 1, s =>
    match startOne s with
    | some s' => startRounds n s'
    | none => s

/-- 04 R96: the starts of closing moves, in RUN. Each start uses up one place of the allowance of one of at most four
incidents. -/
def startMoves (s : State) : State :=
  if s.store.mode = .run then startRounds (4 * s.map.policy.parallel) s else s

/-- 04 R97: the crew requests, in RUN: slot by slot, each in its incident's start order (the order among several is the
model's choice, log 53). -/
def crewRequests (s : State) : State :=
  if s.store.mode = .run then
    forSlots (fun _ inc s =>
      if inc.state.permitted then
        (s.startOrder inc).foldl (fun s v =>
          if s.crewWanted inc v then requestCrew v .close inc.number s else s) s
      else s) s
  else s

/-! ### Entry into CLOSING -/

/-- 03 R55, R59, R60, R70, R71: an incident enters CLOSING: released, with start permission; hold orders go to its
boundary set; INCIDENT_STATE is raised; the isolation test follows; the valve drive starts what may start. It does so at
once, before a next released incident's hold orders and before restores go on (the model's choice, log 41). -/
def enterClosing (slot : Nat) (s : State) : State :=
  match s.slot slot with
  | some inc =>
    let former := inc.state
    let inc := { inc with state := .closing, released := true }
    let s := holdBoundary inc (putSlot slot inc s)
    let s := if former = .closing then s else raiseState inc IncidentState.closing.code former.code s
    crewRequests (startMoves (isolationTest slot s))
  | none => s

/-! ### Restore (03 R80, R81) -/

/-- 03 R80: release orders from the head of an incident's restore list while its opening moves in flight are below the
allowance. -/
def releaseOrders : Nat → Nat → State → State
  | 0, _, s => s
  | n + 1, slot, s =>
    match s.slot slot with
    | some inc =>
      match inc.restoreList with
      | v :: rest =>
        if s.openingCount inc.number < s.map.policy.parallel then
          releaseOrders n slot (releaseOrder v inc.number (putSlot slot { inc with restoreList := rest } s))
        else s
      | [] => s
    | none => s

/-- 03 R81: a restore completes: the slot becomes FREE and INCIDENT_STATE is raised. The removal of its region makes a
plan of another incident stale (02 R27). -/
def completeRestore (slot : Nat) (inc : Incident) (s : State) : State :=
  if inc.restoreList.isEmpty && s.openingCount inc.number = 0 then
    markStaleForOthers inc.number (raiseState inc freeCode inc.state.code (freeSlot slot s))
  else s

/-- 03 R80, R81: takes the restore of a slot as far as it goes. -/
def progressRestore (slot : Nat) (inc : Incident) (s : State) : State :=
  let s := releaseOrders inc.restoreList.length slot s
  match s.slot slot with
  | some inc => completeRestore slot inc s
  | none => s

/-- 03 R80, R81: every restore. That several go on in the order of their slots, lowest first, is the model's choice (log
49). -/
def progressRestores (s : State) : State :=
  forSlots (fun slot inc s => if inc.state = .restoring then progressRestore slot inc s else s) s

/-! ### Poll intervals (05 R135) -/

/-- 05 R133, R135: an entry whose interval in effect has changed without a completion. -/
def PollEntry.retime (e : PollEntry) (interval : Nat) : PollEntry :=
  if e.probe || e.interval = interval then e
  else { e with interval := interval, due := match e.last with
                                             | some t => t + interval
                                             | none => e.due }

/-- 05 R135: every line, while lines carry traffic or fall silent. -/
def retimePolls (s : State) : State :=
  if s.store.mode = .run ∨ s.store.mode = .quiescing then
    allLines.foldl (fun s l =>
      onControl l (fun c => { c with schedule := c.schedule.map fun e => e.retime (s.interval l e.address) }) s) s
  else s

/-- What comes to hold at the end of a step that may have changed holders, moves, reachability or operability (log
29). -/
def settle (s : State) : State := retimePolls (crewRequests (startMoves (progressRestores s)))

end Sys2Proof.Machine
end

