-- ==== Sys2Proof/Machine/Alarms.lean ====
section
/-! DEFINITION. Declarations (03 R49, R50, R56, R57) and the alarm input unit (07). -/

namespace Sys2Proof.Machine

open Sys2Proof

/-! ### Declarations -/

/-- 03 R56: the outcome of a declaration from the absorption test on. -/
inductive Declared where
  | created (number slot : Nat)
  | absorbed (number : Nat)
  | noRoom
deriving DecidableEq, Repr

/-- 03 R50: the number after a number. -/
def succNumber (n : Nat) : Nat := if 255 ≤ n then 1 else n + 1

/-- 03 R50: advances past numbers in use; at most as many as are in use. -/
def skipNumbers (used : List Nat) : Nat → Nat → Nat
  | 0, n => n
  | k + 1, n => if used.contains n then skipNumbers used k (succNumber n) else n

/-- The numbers of the incidents that are not FREE. -/
def State.numbers (s : State) : List Nat := s.engine.slots.map (·.2.number)

/-- 03 R50: advances the incident number counter. -/
def advanceCounter (s : State) : State :=
  { s with engine := { s.engine with
      counter := skipNumbers s.numbers s.numbers.length (succNumber s.engine.counter) } }

/-- 03 R51: the record of an incident at its declaration. -/
def newIncident (number segment group : Nat) (always : Bool) (origin : Origin) (time : Nat) : Incident :=
  { number := number, state := .planning, burst := segment, origin := origin, declaredAt := time, group := group,
    always := always, released := false, region := [segment], boundary := [], outage := [], excluded := [],
    customersInRegion := 0, customersInOutage := 0, priorityHit := false, consent := .notNeeded,
    replanPending := false, planCount := 0, cause := none, restoreList := [] }

/-- 03 R57: creates an incident in a slot: its region makes a plan of another incident stale (02 R27), a plan request is
sent for it, and INCIDENT_STATE is raised with former state FREE. -/
def createIncident (slot segment group : Nat) (always : Bool) (origin : Origin) (s : State) : State :=
  let inc := newIncident s.engine.counter segment group always origin s.reports.timeBase
  raiseState inc IncidentState.planning.code freeCode
    (planRequest inc.number (markStaleForOthers inc.number (advanceCounter (putSlot slot inc s))))

/-- 03 R56: takes a declaration from the absorption test on. -/
def declareBurst (segment group : Nat) (always : Bool) (origin : Origin) (s : State) : State × Declared :=
  match s.absorber segment with
  | some y => (s, .absorbed y.number)
  | none =>
    match s.freeSlot? with
    | none => (s, .noRoom)
    | some slot => (createIncident slot segment group always origin s, .created s.engine.counter slot)

/-! ### Assertions -/

/-- 09 R190: the details of ALARM_INPUT. -/
def alarmAsserted : Nat := 0
/-- 09 R190. -/
def alarmDeclared : Nat := 1
/-- 09 R190. -/
def alarmAbsorbed : Nat := 2
/-- 09 R190. -/
def alarmNoRoom : Nat := 3
/-- 09 R190. -/
def alarmDeferred : Nat := 4
/-- 09 R190. -/
def alarmCancelled : Nat := 5
/-- 09 R190. -/
def alarmDeasserted : Nat := 6

/-- Changes the state of an input. -/
def onAlarm (i : Fin 8) (f : AlarmInput → AlarmInput) (s : State) : State :=
  { s with alarms := s.alarms.set i (f s.alarms[i]) }

/-- 07 R163: raises ALARM_INPUT. -/
def raiseAlarm (i : Fin 8) (detail segment incident : Nat) (deferred : Bool) (s : State) : State :=
  raise .alarmInput (.input (i.val + 1)) detail
    [some segment, some incident, some (levelCode s.alarms[i].debounced), some (flagCode deferred)] s

/-- 07 R164: a declaration from an input, for the segment set, and its ALARM_INPUT. -/
def alarmDeclaration (i : Fin 8) (deferred : Bool) (s : State) : State :=
  let segment := s.map.alarms[i].segment
  match declareBurst segment 0 false (.alarm (i.val + 1)) s with
  | (s', .created n _) => raiseAlarm i alarmDeclared segment n deferred s'
  | (s', .absorbed n) => raiseAlarm i alarmAbsorbed segment n deferred s'
  | (s', .noRoom) => raiseAlarm i alarmNoRoom segment 0 deferred s'

/-- 07 R163, R165: an assertion. -/
def assertAlarm (i : Fin 8) (s : State) : State :=
  let s := onAlarm i (fun x => { x with latched := true }) s
  match s.map.alarms[i].action with
  | .reportOnly => raiseAlarm i alarmAsserted s.map.alarms[i].segment 0 false s
  | .declare =>
    if s.store.mode = .run then alarmDeclaration i false s
    else raiseAlarm i alarmDeferred s.map.alarms[i].segment 0 false (onAlarm i (fun x => { x with deferred := true }) s)

/-- 07 R167: a deassertion; the segment is the one before the change when the change set it to 0. -/
def deassertAlarm (i : Fin 8) (formerSegment : Nat) (s : State) : State :=
  let segment := s.map.alarms[i].segment
  raiseAlarm i alarmDeasserted (if segment = 0 then formerSegment else segment) 0 false s

/-- 07 R162: judges an input after an event, by what it was before: asserted or not, and its segment. -/
def judgeAlarm (i : Fin 8) (before : State) (s : State) : State :=
  if before.asserted i = s.asserted i then s
  else if s.asserted i then assertAlarm i s
  else deassertAlarm i before.map.alarms[i].segment s

/-- 07 R162: judges every input. That several are judged and reported in ascending input number is the model's choice (log
45). -/
def judgeAlarms (before : State) (s : State) : State := allInputs.foldl (fun s i => judgeAlarm i before s) s

/-! ### Debounce (07 R161) -/

/-- 07 R161: the debounce time that a change of level starts, in milliseconds: the settings' time, or 1.0 s in the first
period. That it is 1.0 s also after a PUT_ALARM or CLEAR_MAP has started the first period's timer from a new debounce time
is the model's choice (log 61). -/
def debounceTime (x : AlarmInput) (settings : AlarmSettings) : Nat :=
  match x.debounced with
  | none => 1000
  | some _ => settings.debounce * 100

/-- 07 R161: an input after its electrical level has changed. -/
def AlarmInput.levelChanged (x : AlarmInput) (level : Level) (settings : AlarmSettings) : AlarmInput :=
  if x.level = level then x
  else { x with level := level,
                timer := if x.debounced = some level then none else some (debounceTime x settings) }

/-- 07 R161: an input after the debounce time of its settings has changed: a running timer starts again. -/
def AlarmInput.settingsChanged (x : AlarmInput) (former new : AlarmSettings) : AlarmInput :=
  if former.debounce = new.debounce then x else { x with timer := x.timer.map fun _ => new.debounce * 100 }

/-- 07 R161: the debounce timer has reached 0: the level is taken. -/
def AlarmInput.taken (x : AlarmInput) : AlarmInput := { x with debounced := some x.level, timer := none }

/-! ### Deferred declarations (07 R166) -/

/-- 07 R166: one input at the entry to RUN. -/
def takeDeferred (s : State) (i : Fin 8) : State :=
  if s.alarms[i].deferred then
    let s := onAlarm i (fun x => { x with deferred := false }) s
    if s.map.alarms[i].action = .declare ∧ s.map.alarms[i].segment ≠ 0 then alarmDeclaration i true s
    else raiseAlarm i alarmCancelled s.map.alarms[i].segment 0 true s
  else s

/-- 07 R166: the inputs with the deferred-declare flag set, in ascending input number. -/
def takeDeferreds (s : State) : State := allInputs.foldl takeDeferred s

end Sys2Proof.Machine
end

