-- ==== Sys2Proof/Machine/AlarmEvents.lean ====
section
/-! DEFINITION. The events of the alarm inputs (07 R161): ALARM_LEVEL_CHANGE and DEBOUNCE_EXPIRY. -/

namespace Sys2Proof.Machine

open Sys2Proof

/-- Does something for the input of a number; a number that names no input names nothing that could happen. -/
def forInput (number : Nat) (f : Fin 8 → State → State) (s : State) : State :=
  match inputIndex number with
  | some i => f i s
  | none => s

/-- 07 R161: the electrical level of an input changes. -/
def levelChange (level : Level) (i : Fin 8) (s : State) : State :=
  onAlarm i (fun x => x.levelChanged level s.map.alarms[i]) s

/-- ALARM_LEVEL_CHANGE. -/
def execAlarmLevelChange (input : Nat) (level : Level) (s : State) : Host.Outcome State Fault Refusal :=
  .next (forInput input (levelChange level) s)

/-- 07 R161: a debounce timer reaches 0 with the electrical level still differing. -/
def debounceExpiry (i : Fin 8) (s : State) : State :=
  if s.alarms[i].timer.isSome ∧ s.alarms[i].debounced ≠ some s.alarms[i].level then
    judgeAlarm i s (onAlarm i AlarmInput.taken s)
  else s

/-- DEBOUNCE_EXPIRY. -/
def execDebounceExpiry (input : Nat) (s : State) : Host.Outcome State Fault Refusal :=
  .next (forInput input debounceExpiry s)

end Sys2Proof.Machine
end

