-- ==== Sys2Proof/Machine/Frames.lean ====
section
/-! DEFINITION. The check word (09 R183), the reply frame (09 R186, R191) and the judging of a station's reply (05 R124,
R127, 09 R192). -/

namespace Sys2Proof.Machine

open Sys2Proof

/-- 09 R183: one bit through the register, generator x^16 + x^12 + x^5 + 1. -/
def crcBit (r : BitVec 16) : BitVec 16 := if r.msb then (r <<< 1) ^^^ 0x1021#16 else r <<< 1

/-- 09 R183: one byte through the register, most significant bit first. -/
def crcByte (r : BitVec 16) (b : Byte) : BitVec 16 :=
  let r := r ^^^ (b.setWidth 16 <<< 8)
  crcBit (crcBit (crcBit (crcBit (crcBit (crcBit (crcBit (crcBit r)))))))

/-- 09 R183: the check word of some bytes, from a register of all ones. -/
def checkWord (bytes : List Byte) : BitVec 16 := bytes.foldl crcByte 0xFFFF#16

/-- 09 R183: a check word as sent, high byte first. -/
def checkBytes (bytes : List Byte) : List Byte := be2 (checkWord bytes).toNat

/-- 09 R191, R192: a frame with a start marker. -/
def frameOf (marker : Byte) (address : Nat) (kind : Byte) (payload : List Byte) : List Byte :=
  let body := be1 address ++ [kind] ++ be1 payload.length ++ payload
  marker :: (body ++ checkBytes body)

/-- 09 R191: the host link's start marker. -/
def hostMarker : Byte := 0xA5#8

/-- 09 R192: the field lines' start marker. -/
def fieldMarker : Byte := 0xC3#8

/-- 09 R186: the reply frame of the part at an address: the request's kind with 80 hexadecimal added, and a payload whose
first byte is the status. -/
def Reply.frame (address : Nat) (r : Reply) : List Byte :=
  frameOf hostMarker address (r.request + 0x80#8) (be1 r.status.code ++ r.data)

/-- The bytes of a frame that its check word covers: all but the start marker and the check word. -/
def covered (frame : List Byte) : List Byte := (frame.drop 1).take (frame.length - 3)

/-- The envelope is sound: marker, length and check word (05 R127, 09 R182). -/
def soundFrame (marker : Byte) (frame : List Byte) : Bool :=
  frame.head? = some marker && decide (6 ≤ frame.length) && field frame 3 1 + 6 = frame.length
    && frame.drop (frame.length - 2) = checkBytes (covered frame)

/-! ### Station requests -/

/-- 05 R123, 09 R192: the kind and payload of the request frame of an exchange: STATUS_ASK for a poll and for a probe,
DRIVE or STOP for a command. -/
def ExchangeKind.request : ExchangeKind → Byte × List Byte
  | .poll => (0x01#8, [])
  | .probe => (0x01#8, [])
  | .command e =>
    match e.kind with
    | .drive target rate => (0x02#8, be1 e.channel ++ be2 target ++ be1 rate)
    | .stop => (0x03#8, be1 e.channel)

/-- 09 R192: the request frame that the part sends for an exchange. -/
def Exchange.requestFrame (x : Exchange) : List Byte :=
  frameOf fieldMarker x.address x.kind.request.1 x.kind.request.2

/-! ### Station replies -/

/-- 05 R124: a reply's position, clamped. -/
def readPosition (n : Nat) : Reading := if n = 65535 then none else some (min n 1000)

/-- 05 R124: a reply's pressure, clamped. -/
def readPressure (n : Nat) : Reading := if n = 65535 then none else some (min n 4000)

/-- 05 R124: a STATION_STATE as read. -/
structure StationReply where
  channels : PerChannel ChannelReport
  pressure : Reading
deriving DecidableEq, Repr

/-- 09 R192: the condition byte of a channel 1 to 4 of a payload. -/
def conditionByte (payload : List Byte) (channel : Nat) : Byte := (payload[3 * channel - 1]?).getD 0#8

/-- 09 R192: the report of a channel 1 to 4 of a payload. -/
def readChannel (payload : List Byte) (channel : Nat) : ChannelReport :=
  let c := conditionByte payload channel
  { position := readPosition (field payload (3 * channel - 3) 2), moving := c.getLsbD 0, trip := c.getLsbD 1,
    localControl := c.getLsbD 2 }

/-- 09 R192: a payload read as STATION_STATE. -/
def readReply (payload : List Byte) : StationReply :=
  { channels := ⟨readChannel payload 1, readChannel payload 2, readChannel payload 3, readChannel payload 4⟩,
    pressure := readPressure (field payload 12 2) }

/-- 05 R128: how an exchange completes: with a good reply, or with an error. -/
inductive Completion where
  | good (reply : StationReply)
  | error (code : LineError)
deriving DecidableEq, Repr

/-- 05 R128: the outcome's code, which is also the cause of 06 R145; GOOD is 0. -/
def Completion.outcome : Completion → LineError
  | .good _ => .none
  | .error e => e

/-- 09 R192: the longest field frame. -/
def longestFieldFrame : Nat := 20

/-- 05 R127: judges a reply that has ended, by the first test that it fails. -/
def judgeReply (address : Nat) (characters : List Character) : Completion :=
  let frame := characters.map (·.byte)
  let payload := (frame.drop 4).take (frame.length - 6)
  if !(characters.all (·.stopBit)) || !soundFrame fieldMarker frame || decide (longestFieldFrame < frame.length) then
    .error .corrupt
  else if field frame 1 1 ≠ address then .error .wrongAddress
  else if field frame 2 1 ≠ 0x80 || payload.length ≠ 14
      || [1, 2, 3, 4].any (fun c => decide (7 < (conditionByte payload c).toNat)) then
    .error .malformed
  else .good (readReply payload)

end Sys2Proof.Machine
end

