-- ==== Sys2Proof/Machine/Exchanges.lean ====
section
/-! DEFINITION. The completion of an exchange (05 R128): what the station supervisor (06 R144 to R149), the valve drive
(04 R85, R94) and the line controller (05 R135, R139, R140) make of it; the line supply (06 R153, R154) and the line
reset (05 R142, 06 R157); the end of QUIESCING (10 R198). -/

namespace Sys2Proof.Machine

open Sys2Proof

/-! ### Poll schedule -/

/-- Changes the poll entry of a station. -/
def onPollEntry (l : Line) (address : Nat) (f : PollEntry → PollEntry) (s : State) : State :=
  onControl l (fun c =>
    { c with schedule := c.schedule.map fun e => if e.address = address then f e else e }) s

/-- 05 R136: the time between probes in milliseconds. -/
def probeInterval : Nat := 5000

/-- 05 R136: the entry of a station that has become OFFLINE: a probe entry due 5 s after the completion. -/
def becomeProbe (l : Line) (address : Nat) (s : State) : State :=
  onPollEntry l address (fun e => { e with probe := true, due := s.elapsed + probeInterval }) s

/-- 05 R136: the entry of a station that has recovered: a poll entry, due at once. -/
def becomePoll (l : Line) (address : Nat) (s : State) : State :=
  onPollEntry l address (fun e => { e with probe := false, due := s.elapsed }) s

/-- 05 R133: every entry of a line is due at once and has no last time. -/
def allDue (l : Line) (s : State) : State :=
  onControl l (fun c => { c with schedule := c.schedule.map fun e => { e with last := none, due := s.elapsed } }) s

/-- 05 R135, R136: the entry of the station of an exchange that has completed. An erring command leaves it; the probe
that recovered the station leaves its due time. -/
def reschedule (l : Line) (x : Exchange) (good : Bool) (s : State) : State :=
  let interval := s.interval l x.address
  let completed (e : PollEntry) : PollEntry :=
    if e.probe then { e with last := some s.elapsed, due := s.elapsed + probeInterval }
    else { e with last := some s.elapsed, due := s.elapsed + interval, interval := interval }
  match x.kind with
  | .poll => onPollEntry l x.address completed s
  | .probe =>
    onPollEntry l x.address (fun e =>
      if e.probe then completed e else { e with last := some s.elapsed, interval := interval }) s
  | .command _ => if good then onPollEntry l x.address completed s else s

/-! ### Station supervisor -/

/-- 06 R144: the highest fault score. -/
def scoreLimit : Nat := 160

/-- 06 R144: the fault score after an outcome. -/
def scoreAfter (score : Nat) : LineError → Nat
  | .none => score - 1
  | .noReply => min scoreLimit (score + 16)
  | _ => min scoreLimit (score + 8)

/-- 06 R144: the state that a score gives. -/
def stateOfScore (score : Nat) : StationState :=
  if scoreLimit ≤ score then .offline else if 64 ≤ score then .degraded else .online

/-- 09 R190: the cause PROBE_RUN. -/
def causeProbeRun : Nat := 5

/-- 09 R190: the cause LINE_RESET. -/
def causeLineReset : Nat := 6

/-- 06 R145: raises STATION_HEALTH. -/
def raiseHealth (l : Line) (address : Nat) (new former : StationState) (score cause : Nat) (s : State) : State :=
  raise .stationHealth (.station l address) new.code [some former.code, some score, some cause] s

/-- 06 R147: the outcome of a probe of an OFFLINE station. -/
def superviseProbe (l : Line) (address : Nat) (r : StationRec) (outcome : LineError) (s : State) : State :=
  if outcome = .none then
    if 8 ≤ r.probeRun + 1 then
      becomePoll l address
        (raiseHealth l address .online r.state 0 causeProbeRun
          (setStation l address { r with score := 0, state := .online, probeRun := 0 } s))
    else setStation l address { r with probeRun := r.probeRun + 1 } s
  else setStation l address { r with probeRun := 0 } s

/-- 06 R144 to R146: the outcome of an exchange with a station that is ONLINE or DEGRADED. -/
def superviseScore (l : Line) (address : Nat) (r : StationRec) (outcome : LineError) (s : State) : State :=
  let score := scoreAfter r.score outcome
  let state := stateOfScore score
  if state = r.state then setStation l address { r with score := score } s
  else
    let s := setStation l address
      { r with score := score, state := state, probeRun := if state = .offline then 0 else r.probeRun } s
    let s := raiseHealth l address state r.state score outcome.code s
    if state = .offline then becomeProbe l address (dropStationCommands l address s) else s

/-- 06 R144: the supervisor takes the outcome of a completed exchange. -/
def supervise (l : Line) (address : Nat) (outcome : LineError) (s : State) : State :=
  let r := s.station l address
  if r.state = .offline then superviseProbe l address r outcome s else superviseScore l address r outcome s

/-- 06 R149: raises LOCAL_CONTROL for a channel that a valve names, when its flag changes. Such a channel is sent no command:
one that still waits leaves the queue as the flag is set, the STOP of a second timer expiry (04 R108) too (log 64). -/
def raiseLocal (l : Line) (address : Nat) (former : PerChannel Bool) (reply : StationReply) (s : State)
    (channel : Nat) : State :=
  let r := reply.channels.get channel
  if former.get channel = r.localControl then s
  else
    match s.valveOfChannel l address channel with
    | some (v, p) =>
      raise .localControl (.valve v) (if r.localControl then 0 else 1)
        [some (Line.code l), some address, some channel, r.position]
        (if r.localControl then withdraw v p s else s)
    | none => s

/-- The four channels in order. -/
def allChannels : List Nat := [1, 2, 3, 4]

/-- 06 R149: the supervisor takes the local-control flags of a good reply. -/
def takeLocal (l : Line) (address : Nat) (reply : StationReply) (s : State) : State :=
  let r := s.station l address
  let flags : PerChannel Bool :=
    ⟨reply.channels.c1.localControl, reply.channels.c2.localControl, reply.channels.c3.localControl,
      reply.channels.c4.localControl⟩
  allChannels.foldl (raiseLocal l address r.localControl reply)
    (setStation l address { r with localControl := flags } s)

/-- 05 R124: the pressure of a reply as the part takes it: UNKNOWN for a station without a tap. -/
def State.pressureOf (s : State) (l : Line) (address : Nat) (reply : StationReply) : Reading :=
  match Table.get s.map.stations (stationKey l address) with
  | some e => if e.tap then reply.pressure else none
  | none => none

/-- 06 R148, 05 R134: the supervisor takes the pressure of a good reply, and whether a channel is MOVING. -/
def takePressure (l : Line) (address : Nat) (reply : StationReply) (s : State) : State :=
  let c := reply.channels
  setStation l address
    { s.station l address with
      pressure := s.pressureOf l address reply
      moving := c.c1.moving || c.c2.moving || c.c3.moving || c.c4.moving } s

/-! ### Line controller -/

/-- 05 R139, R140: an error is counted. -/
def countError (l : Line) (e : LineError) (s : State) : State :=
  let c := s.control.get l
  let full := decide (255 ≤ c.errorLog)
  let s := onControl l (fun c =>
    { c with lastError := e, errorLog := saturate 255 c.errorLog, overflowReported := c.overflowReported || full }) s
  if full && !c.overflowReported then raise .lineLogOverflow (.line l) 0 [some e.code] s else s

/-- 10 R198: in QUIESCING, when no line has an exchange in flight, the mode becomes CONFIG. -/
def quiesceDone (s : State) : State :=
  if s.store.mode = .quiescing ∧ allLines.all (fun l => (s.control.get l).exchange.isNone) then changeMode .config s
  else s

/-- 04 R85, R94: the valve drive takes a good reply: the reports of the channels that valves name, then the acknowledgement
of a command. That the channels are taken in channel order is the model's choice (log 59). -/
def driveTakes (l : Line) (x : Exchange) (reply : StationReply) (s : State) : State :=
  let pressure := s.pressureOf l x.address reply
  let s := allChannels.foldl (fun s channel =>
    match s.valveOfChannel l x.address channel with
    | some (v, p) => takeReport v p (reply.channels.get channel) pressure s
    | none => s) s
  match x.kind with
  | .command e => acknowledge e s
  | _ => s

/-- 04 R94: the valve drive takes the failure of an exchange. -/
def driveFails (l : Line) (x : Exchange) (s : State) : State :=
  match x.kind with
  | .command e => commandFailed l e s
  | _ => s

/-- 05 R128, 06 R144 to R150: the station supervisor takes a completion and hands on what it did to reachability. The
local-control flags come before the outcome, so that a recovery finds them as the reply gives them (log 13). That all the
flags of the reply, with their reports, come before the first valve is handed on, and that the valves of several channels then
come in ascending id, is the model's choice (log 65). -/
def superviseCompletion (l : Line) (address : Nat) (c : Completion) (s : State) : State :=
  handReach l s
    (match c with
     | .good reply => takePressure l address reply (supervise l address .none (takeLocal l address reply s))
     | .error e => supervise l address e s)

/-- 05 R128: the exchange in flight completes and is handed on, to the supervisor, the valve drive and the controller
(log 13); commands refused as full are offered again; what comes to hold follows. -/
def completeExchange (l : Line) (x : Exchange) (c : Completion) (s : State) : State :=
  let s := onControl l (fun k => { k with exchange := none }) s
  let s := superviseCompletion l x.address c s
  let s :=
    match c with
    | .good reply => reschedule l x true (driveTakes l x reply s)
    | .error e => reschedule l x false (countError l e (driveFails l x s))
  quiesceDone (settle (reofferRefused l s))

/-! ### Line supply -/

/-- 04 R85: the positions of a line's ACTUATED valves become UNKNOWN. -/
def forgetPositions (l : Line) (s : State) : State :=
  (s.valvesOfLine l).foldl (fun s e => onDyn e.1 (fun d => { d with position := none }) s) s

/-- 06 R154: a line's supply is switched on: positions UNKNOWN, every entry due at once, and the change of reachability
handed on. -/
def switchOn (l : Line) (s : State) : State :=
  handReach l s
    (allDue l
      (forgetPositions l (onSupply l (fun u => { u with state := .on, timeOn := some 0, retryLeft := none }) s)))

/-- 06 R153: the supply record after a trip in a mode, with the line's settings. Less than 30 s of time on raise the
trip count; at 30 s R154 sets it to 0, though its event may still wait. -/
def Supply.trip (u : Supply) (settings : LineSettings) (mode : Mode) : Supply :=
  let count :=
    match u.timeOn with
    | some n => if n < 30000 then saturate 15 u.tripCount else 0
    | none => u.tripCount
  let locked := decide (settings.tripLimit ≤ count)
  { u with
    state := if locked then .lockedOff else .tripped
    timeOn := none
    tripCount := count
    retryLeft := if !locked && mode = .run then some (settings.retryInterval * 1000) else none
    overcurrent := false
    overTime := 0
    trippedFlag := true }

/-- 06 R153: a trip: LINE_SUPPLY; the exchange in flight is abandoned, the urgent queue emptied, and the loss of
reachability handed on. A station that stops moving by it has its poll entry timed anew (05 R135), though R133 keeps the due
times while the supply is not ON: the model's choice (log 42). -/
def tripSupply (l : Line) (s : State) : State :=
  let u := s.supply.get l
  let settings := s.map.lines.get l
  let t := u.trip settings s.store.mode
  let s' := onSupply l (fun _ => t) s
  let s' := raise .lineSupply (.line l) t.state.code
    [some t.tripCount, some settings.tripLimit, some (tenthsPassed (u.timeOn.getD 30000))] s'
  let s' := emptyUrgent l (onControl l (fun c => { c with exchange := none }) s')
  quiesceDone (settle (handReach l s s'))

/-! ### Line reset -/

/-- 05 R142: what a line reset does to the controller; the settings in effect stay (01 R10). -/
def resetController (l : Line) (s : State) : State :=
  onControl l (fun c =>
    { resetControl with
      schedule := c.schedule.map fun e => { e with probe := false, last := none, due := s.elapsed }
      enabled := c.enabled, speed := c.speed }) s

/-- 06 R157: what a line reset does to a station's record; a change of state raises STATION_HEALTH. -/
def resetStation (s : State) (key : Nat) : State :=
  match Table.get s.stations key, lineOfKey key with
  | some r, some l =>
    let s := setStation l (key % 256) { freshStation with moving := r.moving } s
    if r.state = .online then s else raiseHealth l (key % 256) .online r.state 0 causeLineReset s
  | _, _ => s

/-- 06 R143: the keys of a line's stations that have a record, in ascending address. That a line reset takes them, and
raises their STATION_HEALTH reports, in this order is the model's choice (log 43). -/
def State.stationKeys (s : State) (l : Line) : List Nat :=
  (Table.keys s.stations).filter fun k => lineOfKey k = some l

/-- 06 R157: what a line reset does to the line supply. The overcurrent time is set to 0 (R151). -/
def Supply.reset (u : Supply) : Supply :=
  { u with state := .on, timeOn := some 0, tripCount := 0, retryLeft := none, overTime := 0 }

/-- 04 R117: a line reset discards a move's command and stops its timer. -/
def Move.lineReset (m : Move) : Move := { m with command := none, standing := .stopped, setsTimer := none }

/-- 04 R117: what a line reset does to the line's valves. -/
def resetValves (l : Line) (s : State) : State :=
  (s.valvesOfLine l).foldl (fun s e =>
    onDyn e.1 (fun d => { d with position := none, move := d.move.map Move.lineReset }) s) s

/-- 06 R157: a line reset, in every block that holds state of the line. -/
def resetLine (l : Line) (s : State) : State :=
  let s' := resetController l s
  let s' := (s'.stationKeys l).foldl resetStation s'
  let s' := resetValves l (onSupply l Supply.reset s')
  settle (handReach l s (markStale s'))

end Sys2Proof.Machine
end

