-- ==== Sys2Proof/Machine/Modes.lean ====
section
/-! DEFINITION. The changes of mode: the full reset (10 R196), the start-up load (R197), the entry to QUIESCING (R198),
the validation (R201) and the entry to RUN (R202). -/

namespace Sys2Proof.Machine

open Sys2Proof

/-! ### Full reset -/

/-- 10 R197: the 16-bit sum of a content: the sum of its 16-bit words modulo 65536. -/
def imageSum (content : NetworkMap) : BitVec 16 := (Config.imageWords content).foldl (· + ·) 0#16

/-- 10 R200: a sum that does not match a content, from any word. -/
def wrongSum (content : NetworkMap) (word : BitVec 16) : BitVec 16 :=
  if word = imageSum content then word + 1#16 else word

/-- 10 R200: the image after a full reset: a save under way leaves it BLANK or with a sum that does not match, which of
the two being open (log 9); any other image is not changed. -/
def Image.afterReset (image : Image) (free : Nat) : Image :=
  match image with
  | .saving content =>
    if Config.saveCutBeforeContent free then .blank else .written content (wrongSum content (Config.cutSum free))
  | .blank => .blank
  | .written content sum => .written content sum

/-- 10 R196: a full reset with these strap pins: every block takes its value after full reset. The image, the levels of
the alarm pins and the commands that wait are not the blocks' to reset. -/
def fullReset (addressPins speedPins : Nat) (s : State) : State :=
  { State.reset with
    store := { mode := .starting, busy := false, image := s.store.image.afterReset s.freeCount }
    alarms := allInputs.foldl (fun (a : Vector AlarmInput 8) (i : Fin 8) => a.set i (resetAlarm s.alarms[i].level)) s.alarms
    link := resetLink (addressPins % 64) (speedPins % 4)
    freeCount := s.freeCount + 1
    pending := s.pending }

/-! ### Map edits on the valve drive (01 R16) -/

/-- 01 R16: the position of a MANUAL valve by its normal state. -/
def manualPosition : NormalState → Nat
  | .normallyOpen => 0
  | .normallyClosed => 1000

/-- 01 R16: the dynamic record of a valve id after a PUT_VALVE of a record; its operability and its holder set, which is
then empty, are carried. -/
def dynAfterPut (d : ValveDyn) (r : ValveRec) : ValveDyn :=
  match r.kind with
  | .actuated _ => { blankDyn with operability := d.operability, holders := d.holders }
  | .manual => { blankDyn with operability := d.operability, holders := d.holders,
                               position := some (manualPosition r.normal),
                               confirmed := decide (r.normal = .normallyClosed) }

/-- 01 R16: the dynamic record of a valve id after DROP_VALVE or CLEAR_MAP. -/
def dynAfterDrop (d : ValveDyn) : ValveDyn :=
  { blankDyn with operability := d.operability, holders := d.holders }

/-- 01 R16: what CLEAR_MAP does to every valve id. -/
def dropAllDyn (s : State) : State :=
  (Table.keys s.drive.valves).foldl (fun s v => onDyn v dynAfterDrop s) s

/-! ### Entry to RUN -/

/-- 06 R155: a line's supply at the entry to RUN. -/
def Supply.enterRun (u : Supply) (enabled : Bool) : Supply :=
  if enabled then { u with state := .on, timeOn := some 0, tripCount := 0, retryLeft := none }
  else { u with state := .off, timeOn := none, tripCount := 0, retryLeft := none, overcurrent := false, overTime := 0 }

/-- 06 R143: a record for every present station. -/
def freshStations (s : State) : State :=
  { s with stations := s.map.stations.map fun e => (e.1, freshStation) }

/-- 05 R133: the poll schedule of a line at the entry to RUN. -/
def fillSchedule (l : Line) (s : State) : State :=
  let keys := (Table.keys s.map.stations).filter fun k => lineOfKey k = some l
  onControl l (fun c =>
    { c with
      schedule := keys.map fun k =>
        { address := k % 256, probe := false, last := none, due := s.elapsed, interval := s.interval l (k % 256) }
      urgentCount := 0 }) s

/-- 01 R10, 05 R121: a line's settings take effect: the controller reads them from the map. -/
def adoptSettings (l : Line) (s : State) : State :=
  onControl l (fun c => { c with enabled := (s.map.lines.get l).enabled, speed := (s.map.lines.get l).speed }) s

/-- 10 R202: the states set at the entry to RUN, before the deferred declarations. -/
def prepareRun (s : State) : State :=
  let s := allLines.foldl (fun s l => adoptSettings l s) s
  let s := allLines.foldl (fun s l => forgetPositions l s) s
  let s := freshStations s
  let s := allLines.foldl (fun s l => onSupply l (fun u => u.enterRun (s.map.lines.get l).enabled) s) s
  allLines.foldl (fun s l => fillSchedule l s) s

/-- 10 R195, R202, 07 R166: the mode becomes RUN, MODE_CHANGED is raised, and the entry to RUN follows. -/
def enterRun (s : State) : State := takeDeferreds (prepareRun (changeMode .run s))

/-! ### Start-up load (10 R197) -/

/-- 09 R190: the details of MAP_INVALID. -/
def mapBlank : Nat := 0
/-- 09 R190. -/
def mapBadSum : Nat := 1

/-- 10 R197, 01 R16: each present valve's dynamic state as for PUT_VALVE. -/
def placeValves (s : State) : State :=
  s.map.valves.foldl (fun s e => onDyn e.1 (fun d => dynAfterPut d e.2) s) s

/-- 10 R197: a valid image: its content becomes the map, the alarm settings take effect while the mode is still STARTING,
and the entry to RUN follows. -/
def loadValid (content : NetworkMap) (s : State) : State :=
  enterRun (judgeAlarms s (placeValves { s with map := content }))

/-- 10 R197: an invalid image: the empty map, MAP_INVALID, then CONFIG. -/
def loadInvalid (detail : Nat) (s : State) : State :=
  changeMode .config (raise .mapInvalid .part detail [] { s with map := emptyMap })

/-- 10 R197: the load completes and the image is judged: the sum computed over the content is compared with the stored one.
No load completes while a save is under way; such an image would have no sum yet. -/
def completeLoad (s : State) : State :=
  match s.store.image with
  | .blank => loadInvalid mapBlank s
  | .saving _ => loadInvalid mapBadSum s
  | .written content sum => if sum = imageSum content then loadValid content s else loadInvalid mapBadSum s

/-! ### Entry to QUIESCING (10 R198) -/

/-- 04 R118: a valve at the entry to QUIESCING: no move, no crew timer, IDLE. -/
def ValveDyn.quiesce (d : ValveDyn) : ValveDyn := { d with move := none, motion := .idle, crewLeft := none }

/-- 04 R118, 05 R132, 06 R155: what the entry to QUIESCING does to the valves and the lines. -/
def prepareQuiesce (s : State) : State :=
  let s := (Table.keys s.drive.valves).foldl (fun s v => onDyn v ValveDyn.quiesce s) s
  allLines.foldl (fun s l => onSupply l (fun u => { u with retryLeft := none }) (emptyUrgent l s)) s

/-! ### Validation (10 R201) -/

/-- 09 R187: the record kinds of BAD_FIELD. -/
def recordValve : Nat := 2
/-- 09 R187. -/
def recordStation : Nat := 3
/-- 09 R187. -/
def recordAlarm : Nat := 4

/-- 10 R201: a valve's checks. -/
def NetworkMap.valveOk (m : NetworkMap) (e : Nat × ValveRec) : Bool :=
  Table.has m.segments e.2.endA && (e.2.endB = 0 || Table.has m.segments e.2.endB) && e.2.endB != e.2.endA &&
    match e.2.kind with
    | .manual => true
    | .actuated p =>
      Table.has m.stations (stationKey p.line p.address) &&
        !m.valves.any fun x =>
          decide (x.1 < e.1) &&
            match x.2.kind with
            | .actuated q => q.line = p.line && q.address = p.address && q.channel = p.channel
            | .manual => false

/-- 10 R201: a station's check. -/
def NetworkMap.stationOk (m : NetworkMap) (key : Nat) : Bool :=
  match lineOfKey key with
  | some l => (m.lines.get l).enabled
  | none => false

/-- 10 R201: an alarm input's check. -/
def NetworkMap.alarmOk (m : NetworkMap) (i : Fin 8) : Bool :=
  m.alarms[i].segment = 0 || Table.has m.segments m.alarms[i].segment

/-- 10 R201: the record that fails first, as record kind and identifier; none when the map passes. -/
def NetworkMap.fault (m : NetworkMap) : Option (Nat × Nat) :=
  match m.valves.find? (fun e => !m.valveOk e), (Table.keys m.stations).find? (fun k => !m.stationOk k),
    allInputs.find? (fun i => !m.alarmOk i) with
  | some e, _, _ => some (recordValve, e.1)
  | none, some k, _ => some (recordStation, k)
  | none, none, some i => some (recordAlarm, i.val + 1)
  | none, none, none => none

end Sys2Proof.Machine
end

