-- ==== Sys2Proof/Machine/MapEdits.lean ====
section
/-! DEFINITION. The ten map requests (01, section 1.7). -/

namespace Sys2Proof.Machine

open Sys2Proof

/-- A request that is done, with no results. -/
def done (s : State) : Answer := ⟨s, .done, []⟩

/-- Changes the running map. -/
def onMap (f : NetworkMap → NetworkMap) (s : State) : State := { s with map := f s.map }

/-! ### PUT_SEGMENT (01 R14) -/

/-- 01 R14. -/
def putSegment (segment customers source priority : Nat) : State → Answer :=
  mapEdit [inRange 1 511 segment, inRange 0 65535 customers, isFlag source, isFlag priority] fun s =>
    done (onMap (fun m => { m with
      segments := Table.put m.segments segment
        { customers := customers, source := decide (source = 1), priority := decide (priority = 1) } }) s)

/-- PUT_SEGMENT. -/
def execPutSegment (segment customers source priority : Nat) (s : State) : Host.Outcome State Fault Refusal :=
  .next (answered 0x01#8 (putSegment segment customers source priority s))

/-! ### PUT_VALVE (01 R15) -/

/-- 01 R6, R7, R15: the checks of the fields, in payload order; the actuated fields of a MANUAL valve are not checked. -/
def valveChecks (f : ValveFields) : List Bool :=
  [inRange 1 1023 f.valve, inRange 1 511 f.endA, inRange 0 511 f.endB && f.endB != f.endA, isFlag f.kind,
    isFlag f.normalState, inRange 0 15 f.closingRank]
  ++ if f.kind = 1 then []
     else
      [inRange 0 3 f.stationLine, inRange 1 16 f.stationAddress, inRange 1 4 f.channel, inRange 10 1000 f.strokeTime,
        inRange 500 990 f.throttlePoint, inRange 1 8 f.slowRatio,
        f.surgeCeiling = 0 || inRange 50 2500 f.surgeCeiling,
        inRange 10 500 f.surgeHysteresis && (f.surgeCeiling = 0 || decide (f.surgeHysteresis < f.surgeCeiling)),
        inRange 0 3600 f.maximumHold, inRange 0 3 f.torqueRetries, inRange 10 200 f.chargeOpening,
        inRange 0 600 f.chargeDwell]

/-- 01 R7: the actuated part that the fields give. -/
def valvePart (f : ValveFields) : ActuatedPart :=
  { line := (lineOfCode f.stationLine).getD .a, address := f.stationAddress, channel := f.channel,
    strokeTime := f.strokeTime, throttlePoint := f.throttlePoint, slowRatio := f.slowRatio,
    surgeCeiling := f.surgeCeiling, surgeHysteresis := f.surgeHysteresis, maximumHold := f.maximumHold,
    torqueRetries := f.torqueRetries, chargeOpening := f.chargeOpening, chargeDwell := f.chargeDwell }

/-- 01 R6: the entry that the fields give. -/
def valveRecord (f : ValveFields) : ValveRec :=
  { endA := f.endA, endB := f.endB, kind := if f.kind = 1 then .manual else .actuated (valvePart f),
    normal := if f.normalState = 1 then .normallyClosed else .normallyOpen, closingRank := f.closingRank }

/-- 01 R15, R16. -/
def putValve (f : ValveFields) : State → Answer :=
  mapEdit (valveChecks f) fun s =>
    done (onDyn f.valve (fun d => dynAfterPut d (valveRecord f))
      (onMap (fun m => { m with valves := Table.put m.valves f.valve (valveRecord f) }) s))

/-- PUT_VALVE. -/
def execPutValve (f : ValveFields) (s : State) : Host.Outcome State Fault Refusal :=
  .next (answered 0x02#8 (putValve f s))

/-! ### PUT_STATION (01 R17) -/

/-- 01 R9: the class of a code. -/
def pollClassOfCode : Nat → PollClass
  | 0 => .a
  | 1 => .b
  | _ => .c

/-- 01 R9, R17. -/
def putStation (line address pollClass multiplier extraDelay tap : Nat) : State → Answer :=
  mapEdit
    [inRange 0 3 line, inRange 1 16 address, inRange 0 2 pollClass,
      inRange (if pollClass = 0 then 2 else 0) 63 multiplier, inRange 0 15 extraDelay, isFlag tap] fun s =>
    done (onMap (fun m => { m with
      stations := Table.put m.stations (stationKey ((lineOfCode line).getD .a) address)
        { pollClass := pollClassOfCode pollClass, multiplier := multiplier, extraDelay := extraDelay,
          tap := decide (tap = 1) } }) s)

/-- PUT_STATION. -/
def execPutStation (line address pollClass multiplier extraDelay tap : Nat) (s : State) :
    Host.Outcome State Fault Refusal :=
  .next (answered 0x03#8 (putStation line address pollClass multiplier extraDelay tap s))

/-! ### PUT_LINE (01 R18) -/

/-- 09 R190: the speed of a code. -/
def baudOfCode : Nat → Baud
  | 0 => .b9600
  | 1 => .b19200
  | _ => .b38400

/-- 01 R18. -/
def putLine (line enabled speed blanking retry tripLimit : Nat) : State → Answer :=
  mapEdit
    [inRange 0 3 line, isFlag enabled, inRange 0 2 speed, inRange 1 255 blanking, inRange 1 60 retry,
      inRange 1 15 tripLimit] fun s =>
    done (onMap (fun m => { m with
      lines := m.lines.set ((lineOfCode line).getD .a)
        { enabled := decide (enabled = 1), speed := baudOfCode speed, blanking := blanking, retryInterval := retry,
          tripLimit := tripLimit } }) s)

/-- PUT_LINE. -/
def execPutLine (line enabled speed blanking retry tripLimit : Nat) (s : State) : Host.Outcome State Fault Refusal :=
  .next (answered 0x04#8 (putLine line enabled speed blanking retry tripLimit s))

/-! ### PUT_ALARM (01 R19) -/

/-- 01 R19, 07 R161, R162: an input's settings take new values: a changed debounce time starts a running timer again, and
the input is judged. -/
def changeAlarm (i : Fin 8) (settings : AlarmSettings) (s : State) : State :=
  judgeAlarm i s
    (onAlarm i (fun x => x.settingsChanged s.map.alarms[i] settings)
      (onMap (fun m => { m with alarms := m.alarms.set i settings }) s))

/-- 01 R19. -/
def putAlarm (input segment activeLevel debounce action : Nat) : State → Answer :=
  mapEdit
    [inRange 1 8 input, inRange 0 511 segment, isFlag activeLevel, inRange 1 255 debounce, isFlag action] fun s =>
    match inputIndex input with
    | some i =>
      done (changeAlarm i
        { segment := segment, active := if activeLevel = 0 then .high else .low, debounce := debounce,
          action := if action = 0 then .reportOnly else .declare } s)
    | none => badField 1 s

/-- PUT_ALARM. -/
def execPutAlarm (input segment activeLevel debounce action : Nat) (s : State) : Host.Outcome State Fault Refusal :=
  .next (answered 0x05#8 (putAlarm input segment activeLevel debounce action s))

/-! ### PUT_POLICY (01 R20) -/

/-- 01 R20. The idle consent timer follows the policy (03 R67), being held as idle. -/
def putPolicy (threshold timeout timeoutAction crewTimeout crewAction parallel : Nat) : State → Answer :=
  mapEdit
    [inRange 0 1000000 threshold, inRange 0 3600 timeout, isFlag timeoutAction, inRange 0 480 crewTimeout,
      isFlag crewAction, inRange 1 4 parallel] fun s =>
    done (onMap (fun m => { m with
      policy :=
        { threshold := threshold, consentTimeout := timeout,
          timeoutAction := if timeoutAction = 0 then .proceed else .decline, crewTimeout := crewTimeout,
          overdueAction := if crewAction = 0 then .report else .planAround, parallel := parallel } }) s)

/-- PUT_POLICY. -/
def execPutPolicy (threshold timeout timeoutAction crewTimeout crewAction parallel : Nat) (s : State) :
    Host.Outcome State Fault Refusal :=
  .next (answered 0x06#8 (putPolicy threshold timeout timeoutAction crewTimeout crewAction parallel s))

/-! ### The DROP requests (01 R21) -/

/-- 01 R21. -/
def dropSegment (segment : Nat) : State → Answer :=
  mapEdit [inRange 1 511 segment] fun s =>
    if Table.has s.map.segments segment then
      done (onMap (fun m => { m with segments := Table.erase m.segments segment }) s)
    else refuse .unknownId s

/-- DROP_SEGMENT. -/
def execDropSegment (segment : Nat) (s : State) : Host.Outcome State Fault Refusal :=
  .next (answered 0x07#8 (dropSegment segment s))

/-- 01 R16, R21. -/
def dropValve (valve : Nat) : State → Answer :=
  mapEdit [inRange 1 1023 valve] fun s =>
    if Table.has s.map.valves valve then
      done (onDyn valve dynAfterDrop (onMap (fun m => { m with valves := Table.erase m.valves valve }) s))
    else refuse .unknownId s

/-- DROP_VALVE. -/
def execDropValve (valve : Nat) (s : State) : Host.Outcome State Fault Refusal :=
  .next (answered 0x08#8 (dropValve valve s))

/-- 01 R21, 06 R143, 05 R121: a station's entry becomes absent, and with it its record and its poll entry. -/
def removeStation (l : Line) (address : Nat) (s : State) : State :=
  onControl l (fun c => { c with schedule := c.schedule.filter fun e => e.address != address })
    { s with stations := Table.erase s.stations (stationKey l address)
             map := { s.map with stations := Table.erase s.map.stations (stationKey l address) } }

/-- 01 R21. -/
def dropStation (line address : Nat) : State → Answer :=
  mapEdit [inRange 0 3 line, inRange 1 16 address] fun s =>
    let l := (lineOfCode line).getD .a
    if Table.has s.map.stations (stationKey l address) then done (removeStation l address s)
    else refuse .unknownId s

/-- DROP_STATION. -/
def execDropStation (line address : Nat) (s : State) : Host.Outcome State Fault Refusal :=
  .next (answered 0x09#8 (dropStation line address s))

/-! ### CLEAR_MAP (01 R22) -/

/-- 07 R161: the inputs whose debounce time a cleared map changes. -/
def settleDebounce (before : State) (s : State) : State :=
  allInputs.foldl (fun s i =>
    onAlarm i (fun x => x.settingsChanged before.map.alarms[i] s.map.alarms[i]) s) s

/-- 01 R22, R16, 06 R143: the map becomes the empty map. -/
def emptyTheMap (s : State) : State :=
  let s' := { s with map := emptyMap, stations := [] }
  let s' := allLines.foldl (fun s l => onControl l (fun c => { c with schedule := [] }) s) s'
  judgeAlarms s (settleDebounce s (dropAllDyn s'))

/-- 01 R22. -/
def clearMap : State → Answer := mapEdit [] fun s => done (emptyTheMap s)

/-- CLEAR_MAP. -/
def execClearMap (s : State) : Host.Outcome State Fault Refusal :=
  .next (answered 0x0A#8 (clearMap s))

end Sys2Proof.Machine
end

