-- ==== Sys2Proof/Machine/Planning.lean ====
section
/-! DEFINITION. The five stages of a plan (02, sections 2.3 to 2.8): region growth, boundary set, supply, tallies and the
consent test, as functions of the state at plan completion (R28). -/

namespace Sys2Proof.Machine

open Sys2Proof

/-- 02 R34: the region cap. -/
def regionCap : Nat := 48

/-- 02 R38: the boundary cap. -/
def boundaryCap : Nat := 64

/-! ### Region growth -/

/-- 01 R4: the incidence list of a segment, in ascending valve id. -/
def NetworkMap.incidence (m : NetworkMap) (segment : Nat) : Table ValveRec :=
  m.valves.filter fun e => e.2.endA = segment || e.2.endB = segment

/-- 02 R32: the far end of a valve, seen from one of its ends. -/
def ValveRec.farEnd (r : ValveRec) (segment : Nat) : Nat := if r.endA = segment then r.endB else r.endA

/-- 02 R24: the region as it grows, the incidents noted for merging, and the growth stop cause. -/
structure Growth where
  region : List Nat
  noted : List Nat
  stop : Option Cause
deriving DecidableEq, Repr

/-- 02 R34: a single append, checked against the region cap. -/
def Growth.append (g : Growth) (segment : Nat) : Growth :=
  if regionCap ≤ g.region.length then { g with stop := some .regionCap }
  else { g with region := g.region ++ [segment] }

/-- 02 R33: appends another incident's region segment by segment, in its order; the incident is noted when the first of
its segments is appended. -/
def Growth.appendRegion (other : Nat) : List Nat → Growth → Growth
  | [], g => g
  | segment :: rest, g =>
    if g.stop.isSome then g
    else if g.region.contains segment then Growth.appendRegion other rest g
    else
      let g' := g.append segment
      Growth.appendRegion other rest
        (if g'.stop.isNone && !g'.noted.contains other then { g' with noted := g'.noted ++ [other] } else g')

/-- 02 R32: one valve of the incidence list of a segment. -/
def State.growValve (s : State) (inc : Incident) (segment : Nat) (g : Growth) (e : Nat × ValveRec) : Growth :=
  let far := e.2.farEnd segment
  if g.stop.isSome then g
  else if inSegments far g.region then g
  else if s.usable inc e.1 e.2 then g
  else if far = 0 then { g with stop := some .outsideValve }
  else
    match (s.otherActive inc.number).find? fun y => inSegments far y.region with
    | some y => Growth.appendRegion y.number y.region g
    | none => g.append far

/-- 02 R31: examines the segments of the growing region in list order, from a place on. -/
def State.growFrom (s : State) (inc : Incident) : Nat → Nat → Growth → Growth
  | 0, _, g => g
  | n + 1, place, g =>
    if g.stop.isSome then g
    else
      match g.region[place]? with
      | some segment => s.growFrom inc n (place + 1) ((s.map.incidence segment).foldl (s.growValve inc segment) g)
      | none => g

/-- 02 R31, R35: region growth from the recorded region. Each segment is examined once and the region never passes the
longer of the recorded region and the cap. -/
def State.grow (s : State) (inc : Incident) : Growth :=
  s.growFrom inc (inc.region.length + regionCap + 1) 0 { region := inc.region, noted := [], stop := none }

/-! ### Boundary set -/

/-- 02 R37: the place of a valve in closing sequence order, before its id. -/
def State.sequenceKey (s : State) (e : Nat × ValveRec) : Nat :=
  e.2.closingRank * 3 + (s.dyn e.1).operability.code

/-- Puts a valve before the first valve whose key is not below its own. -/
def insertByKey (key : Nat × ValveRec → Nat) (e : Nat × ValveRec) : Table ValveRec → Table ValveRec
  | [] => [e]
  | x :: rest => if key e ≤ key x then e :: x :: rest else x :: insertByKey key e rest

/-- 02 R36: a valve with exactly one end in a region. -/
def ValveRec.bounds (r : ValveRec) (region : List Nat) : Bool :=
  inSegments r.endA region != inSegments r.endB region

/-- 02 R36, R37: the boundary set of a region in closing sequence order, before truncation. The valve table is in
ascending id, so valves of one rank and operability stay in ascending id. -/
def State.boundarySet (s : State) (region : List Nat) : List Nat :=
  ((s.map.valves.filter fun e => e.2.bounds region).foldr (insertByKey s.sequenceKey) []).map (·.1)

/-! ### Supply -/

/-- 02 R39: a valve is passable for an incident's supply computation, with a boundary set shut (empty before). -/
def State.passable (s : State) (number : Nat) (shut : List Nat) (e : Nat × ValveRec) : Bool :=
  e.2.normal = .normallyOpen && ((s.dyn e.1).holders.all fun h => h = number) && !shut.contains e.1

/-- 02 R40: a segment is out: in the region of another active incident, or in a region that is cut off. -/
def State.isOut (s : State) (number : Nat) (cut : List Nat) (segment : Nat) : Bool :=
  cut.contains segment || (s.otherActive number).any fun y => y.region.contains segment

/-- 02 R41: the segments next to a segment through passable valves. -/
def State.nextSegments (s : State) (number : Nat) (shut : List Nat) (segment : Nat) : List Nat :=
  ((s.map.incidence segment).filter (s.passable number shut)).map fun e => e.2.farEnd segment

/-- 02 R41: walks from the segments that wait, adding to those reached every segment that is not out. -/
def State.walk (s : State) (number : Nat) (shut cut : List Nat) : Nat → List Nat → List Nat → List Nat
  | 0, _, reached => reached
  | _ + 1, [], reached => reached
  | n + 1, segment :: waiting, reached =>
    let fresh := ((s.nextSegments number shut segment).filter fun x =>
      x != 0 && !reached.contains x && !s.isOut number cut x).eraseDups
    s.walk number shut cut n (waiting ++ fresh) (reached ++ fresh)

/-- 02 R41: the supplied set with a boundary set shut and a region cut off: every segment reached from a SOURCE segment
that is not out. Each segment waits once, so the walk ends within its bound. -/
def State.supplied (s : State) (number : Nat) (shut cut : List Nat) : List Nat :=
  let sources := (s.map.segments.filter fun e => e.2.source && !s.isOut number cut e.1).map (·.1)
  s.walk number shut cut (s.map.segments.length + 2 * s.map.valves.length + 1) sources sources

/-- 02 R42: the new outage of a region by its two supplied sets, ascending segment id. -/
def NetworkMap.newOutage (m : NetworkMap) (region before after : List Nat) : List Nat :=
  (Table.keys m.segments).filter fun x => before.contains x && !after.contains x && !region.contains x

/-! ### Tallies and consent -/

/-- 02 R43: the customers of some segments. -/
def NetworkMap.customers (m : NetworkMap) (segments : List Nat) : Nat :=
  (segments.map fun x => match Table.get m.segments x with
                         | some r => r.customers
                         | none => 0).sum

/-- 02 R43: any of some segments carries PRIORITY. -/
def NetworkMap.anyPriority (m : NetworkMap) (segments : List Nat) : Bool :=
  segments.any fun x => match Table.get m.segments x with
                        | some r => r.priority
                        | none => false

/-- 02 R45: the uncontained cause. -/
def uncontainedCause (stop : Option Cause) (boundaryLength : Nat) : Option Cause :=
  match stop with
  | some c => some c
  | none => if boundaryCap < boundaryLength then some .boundaryCap else none

/-- 02 R44: the consent test. -/
def consentTest (policy : Policy) (inc : Incident) (customers : Nat) (priorityHit : Bool) : Bool :=
  priorityHit || decide (policy.threshold < customers) || inc.always

/-- 02 R28: the plan of an incident, on the inputs as they stand. -/
def State.makePlan (s : State) (inc : Incident) : Plan :=
  let g := s.grow inc
  let whole := s.boundarySet g.region
  let before := s.supplied inc.number [] []
  let after := s.supplied inc.number whole g.region
  let outage := s.map.newOutage g.region before after
  let inRegion := s.map.customers g.region
  let inOutage := s.map.customers outage
  let priority := s.map.anyPriority g.region || s.map.anyPriority outage
  { region := g.region, noted := g.noted, stop := g.stop, boundary := whole.take boundaryCap, before := before,
    after := after, outage := outage, customersInRegion := inRegion, customersInOutage := inOutage, priorityHit := priority,
    cause := uncontainedCause g.stop whole.length,
    consentNeeded := consentTest s.map.policy inc (inRegion + inOutage) priority }

end Sys2Proof.Machine
end

