-- ==== Sys2Proof/Machine/Publication.lean ====
section
/-! DEFINITION. What follows a plan's completion: publication (02 R47, R48), the transition of the incident engine (03
R59, R60), the merge (02 R46, 03 R73 to R77), and the resolution of consent (03 R67, R68, R69). -/

namespace Sys2Proof.Machine

open Sys2Proof

/-! ### Transitions -/

/-- 03 R69: raises CONSENT_NEEDED for an incident as its record and the consent queue stand. -/
def raiseConsentNeeded (inc : Incident) (s : State) : State :=
  raise .consentNeeded (.incident inc.number) 0
    [some inc.customersInRegion, some inc.customersInOutage, some (flagCode inc.priorityHit),
     some (s.consentPlace inc.number)] s

/-- 03 R60, R66: takes an incident out of the consent queue without an answer. -/
def quitConsent (slot : Nat) (s : State) : State :=
  match s.slot slot with
  | some inc =>
    if s.engine.consentQueue.contains inc.number then
      leaveConsent inc.number false (putSlot slot { inc with consent := inc.consent.unanswered } s)
    else s
  | none => s

/-- Gives an incident its consent state. -/
def setConsent (slot : Nat) (c : ConsentState) (s : State) : State :=
  match s.slot slot with
  | some inc => putSlot slot { inc with consent := c } s
  | none => s

/-- 03 R59, R60: the case of an uncontained plan. -/
def becomeUncontained (slot : Nat) (s : State) : State := enterState slot .uncontained (quitConsent slot s)

/-- 03 R59, R60: the case of a plan that needs consent. -/
def awaitConsent (slot : Nat) (s : State) : State :=
  match s.slot slot with
  | some inc =>
    let s :=
      if s.engine.consentQueue.contains inc.number then s
      else joinConsent inc.number (setConsent slot .pending s)
    let s := enterState slot .awaitConsent s
    match s.slot slot with
    | some inc => raiseConsentNeeded inc s
    | none => s
  | none => s

/-- 03 R59, R60: the transition on a publication, by the plan's cause and consent result. -/
def actOnPublication (slot : Nat) (consentNeeded : Bool) (s : State) : State :=
  match s.slot slot with
  | some inc =>
    if inc.cause.isSome then becomeUncontained slot s
    else if consentNeeded then awaitConsent slot s
    else if !inc.released && inc.group != 0 then
      enterState slot .armed (setConsent slot .notNeeded (quitConsent slot s))
    else enterClosing slot (setConsent slot .notNeeded (quitConsent slot s))
  | none => s

/-! ### Publication -/

/-- 02 R47: the record of an incident with a plan written into it. -/
def Incident.publish (inc : Incident) (p : Plan) : Incident :=
  { inc with
    region := p.region, boundary := p.boundary, outage := p.outage,
    customersInRegion := p.customersInRegion, customersInOutage := p.customersInOutage,
    priorityHit := p.priorityHit, cause := p.cause, replanPending := false,
    planCount := (inc.planCount + 1) % 256 }

/-- 02 R48: raises PLAN_READY. -/
def raisePlanReady (inc : Incident) (s : State) : State :=
  raise .planReady (.incident inc.number) (causeCode inc.cause)
    [some inc.customersInRegion, some inc.customersInOutage, some inc.region.length, some inc.boundary.length] s

/-- 02 R46, R47: the plan in progress becomes absent and the planner goes on by R26. -/
def endPlan (s : State) : State := startNextPlan { s with planner := { s.planner with plan := none } }

/-- 02 R47, R48, 03 R59, R60: publication of a plan into the incident of a slot, then the engine's transition (log
14). -/
def publish (slot : Nat) (p : Plan) (s : State) : State :=
  match s.slot slot with
  | some inc =>
    let inc := inc.publish p
    actOnPublication slot p.consentNeeded (raisePlanReady inc (endPlan (putSlot slot inc s)))
  | none => endPlan s

/-! ### Merge -/

/-- 03 R73: the incident with the earlier declaration time, on equal times the one met first, which is in the lower
slot. -/
def earlier (x y : Nat × Incident) : Nat × Incident := if y.2.declaredAt < x.2.declaredAt then y else x

/-- 03 R73: the survivor among the incidents of some slots, in ascending slot order. -/
def survivorOf : List (Nat × Incident) → Option (Nat × Incident)
  | [] => none
  | x :: rest => some (rest.foldl earlier x)

/-- 03 R74: the survivor's region followed by the segments of R that are not in it, up to 48. -/
def mergeRegions (own grown : List Nat) : List Nat :=
  grown.foldl (fun r x => if r.contains x || decide (regionCap ≤ r.length) then r else r ++ [x]) own

/-- 03 R76: a survivor's excluded list takes a younger incident's, up to 64. -/
def mergeExcluded (own younger : List Nat) : List Nat :=
  younger.foldl (fun r v => if r.contains v || decide (64 ≤ r.length) then r else r ++ [v]) own

/-- 03 R76: a younger incident is replaced by the survivor in a holder set. -/
def replaceHolder (younger survivor : Nat) (holders : List Nat) : List Nat :=
  if holders.contains younger then insertAscending survivor (holders.filter (· != younger)) else holders

/-- 03 R76, 04 R90: rewrites the holder set and the starter of a valve. -/
def ValveDyn.rewrite (d : ValveDyn) (younger survivor : Nat) : ValveDyn :=
  { d with
    holders := replaceHolder younger survivor d.holders
    move := d.move.map fun m => { m with starter := if m.starter = some younger then some survivor else m.starter } }

/-- 03 R76: rewrites every valve's holder set and starter. -/
def rewriteHolders (younger survivor : Nat) (s : State) : State :=
  (Table.keys s.drive.valves).foldl (fun s v => onDyn v (fun d => d.rewrite younger survivor) s) s

/-- 03 R76: the survivor takes over what a younger incident held and excluded. -/
def takeOver (survivorSlot : Nat) (younger : Incident) (s : State) : State :=
  match s.slot survivorSlot with
  | some survivor =>
    rewriteHolders younger.number survivor.number
      (putSlot survivorSlot { survivor with excluded := mergeExcluded survivor.excluded younger.excluded } s)
  | none => s

/-- 03 R77: a younger incident leaves the consent queue and the plan queue, its slot becomes FREE, and MERGED is
raised. -/
def foldIn (survivorSlot survivorNumber : Nat) (slot : Nat) (younger : Incident) (s : State) : State :=
  raise .merged (.incident younger.number) 0
    [some survivorNumber, some survivorSlot, some younger.state.code]
    (freeSlot slot (dropQueuedPlan younger.number (leaveConsent younger.number false s)))

/-- 03 R73: the incidents concerned by a merge, lowest slot first. -/
def State.concerned (s : State) (number : Nat) (noted : List Nat) : List (Nat × Incident) :=
  s.engine.slots.filter fun e => e.2.number = number || noted.contains e.2.number

/-- 02 R46, 03 R73 to R77: resolves the merge that the plan of an incident brings. The younger incidents are taken, removed
and reported in ascending slot order (the model's choice, log 40). -/
def merge (number : Nat) (p : Plan) (s : State) : State :=
  let concerned := s.concerned number p.noted
  match survivorOf concerned with
  | none => endPlan s
  | some (slot, survivor) =>
    let younger := concerned.filter fun e => e.1 != slot
    let s :=
      if survivor.number = number then s
      else putSlot slot { survivor with region := mergeRegions survivor.region p.region } s
    let s := younger.foldl (fun s e => takeOver slot e.2 s) s
    let s := younger.foldl (fun s e => foldIn slot survivor.number e.1 e.2 s) s
    if survivor.number = number then publish slot p s
    else
      match s.slot slot with
      | some inc => endPlan (requestReplan slot inc s)
      | none => endPlan s

/-! ### Consent resolved (03 R67, R68) -/

/-- 03 R69: raises CONSENT_RESOLVED: the new consent state, by whom (0 the host, 1 the timer), the new state, the plan
count. -/
def raiseConsentResolved (inc : Incident) (c : ConsentState) (byTimer : Bool) (new : IncidentState) (s : State) : State :=
  raise .consentResolved (.incident inc.number) c.code
    [some (flagCode byTimer), some new.code, some inc.planCount] s

/-- 03 R67, R68: an entry of the consent queue is resolved, by the timer or the host, with its new consent state. -/
def resolveConsent (slot : Nat) (inc : Incident) (c : ConsentState) (byTimer proceed : Bool) (s : State) : State :=
  let s := leaveConsent inc.number byTimer s
  if proceed then
    let s := putSlot slot { inc with consent := c } s
    if inc.released || inc.group = 0 then enterClosing slot (raiseConsentResolved inc c byTimer .closing s)
    else enterState slot .armed (raiseConsentResolved inc c byTimer .armed s)
  else
    enterState slot .uncontained
      (raiseConsentResolved inc c byTimer .uncontained
        (putSlot slot { inc with consent := c, cause := some .declined } s))

end Sys2Proof.Machine
end

