-- ==== Sys2Proof/Machine/IncidentRequests.lean ====
section
/-! DEFINITION. The requests that act on incidents and crews (03; 04 R109, R115), and the two events of the incident
engine and the planner: PLAN_COMPLETE and CONSENT_TIMEOUT. -/

namespace Sys2Proof.Machine

open Sys2Proof

/-! ### DECLARE (03 R56, R57) -/

/-- 03 R56: the answer that the outcome of a declaration gives. -/
def declareAnswer (s : State) : Declared → Answer
  | .created number slot => ⟨s, .accepted, be1 number ++ be1 slot⟩
  | .absorbed number => ⟨s, .absorbed, be1 number⟩
  | .noRoom => refuse .noRoom s

/-- 03 R56. -/
def declare (segment group always : Nat) : State → Answer :=
  gated inRun [inRange 1 511 segment, inRange 0 14 group, isFlag always] fun s =>
    if Table.has s.map.segments segment then
      let r := declareBurst segment group (decide (always = 1)) .host s
      declareAnswer r.1 r.2
    else refuse .unknownId s

/-- DECLARE. -/
def execDeclare (segment group always : Nat) (s : State) : Host.Outcome State Fault Refusal :=
  .next (answered 0x30#8 (declare segment group always s))

/-! ### CONSENT (03 R68) -/

/-- 03 R68: the consent state that an answer gives; ACCEPT is 0. -/
def answerConsent (answer : Nat) : ConsentState := if answer = 0 then .granted else .declined

/-- 03 R68. -/
def consent (incident answer : Nat) : State → Answer :=
  gated inRun [true, isFlag answer] fun s =>
    match s.incident incident with
    | none => refuse .unknownId s
    | some (slot, inc) =>
      if inc.state = .awaitConsent then
        done (settle (resolveConsent slot inc (answerConsent answer) false (decide (answer = 0)) s))
      else refuse .wrongState s

/-- CONSENT. -/
def execConsent (incident answer : Nat) (s : State) : Host.Outcome State Fault Refusal :=
  .next (answered 0x31#8 (consent incident answer s))

/-! ### CREW_RESULT (04 R115) -/

/-- 04 R115: the crew timer is discarded and the motion state becomes IDLE. -/
def endCrewWait (v : Nat) (s : State) : State := onDyn v (fun d => { d with motion := .idle, crewLeft := none }) s

/-- 04 R115: whether a CLOSED result also raises OFF_NORMAL: a valve in CREW_OPEN with an empty holder set and normal
state OPEN. -/
def ValveDyn.shutAgain (d : ValveDyn) (normal : NormalState) : Bool :=
  d.motion = .crewOpen && d.holders.isEmpty && decide (normal = .normallyOpen)

/-- 04 R115: the result CLOSED. -/
def crewClosed (v : Nat) (normal : NormalState) (s : State) : State :=
  let again := (s.dyn v).shutAgain normal
  let s := redeem v (onDyn v (fun d => { d with position := some 1000 }) (endCrewWait v s))
  let s := raise .valveClosed (.valve v) 1 [some 1000, some 0, some 0] s
  let s := if again then raiseOffNormal v notReopened s else s
  setConfirmed v true s

/-- 04 R115, R116: the result OPENED. -/
def crewOpened (v : Nat) (s : State) : State :=
  let s := redeem v (onDyn v (fun d => { d with position := some 0 }) (endCrewWait v s))
  setConfirmed v false (raise .valveOpened (.valve v) 1 [some 0, some 0, some 0] s)

/-- 04 R110, R115: the result FAILED. -/
def crewFailed (v : Nat) (s : State) : State :=
  let s := raiseFailed v failedCrew 0 (setOperability v .inoperable (endCrewWait v s))
  if (s.dyn v).holders.isEmpty then s else replanRequest v s

/-- 04 R115: what a result does; CLOSED, OPENED and FAILED are 0 to 2. -/
def takeCrewResult (v : Nat) (normal : NormalState) (result : Nat) (s : State) : State :=
  match result with
  | 0 => crewClosed v normal s
  | 1 => crewOpened v s
  | _ => crewFailed v s

/-- 04 R115. -/
def crewResult (valve result : Nat) : State → Answer :=
  gated inRun [inRange 1 1023 valve, inRange 0 2 result] fun s =>
    match Table.get s.map.valves valve with
    | none => refuse .unknownId s
    | some r =>
      match r.kind with
      | .actuated _ => refuse .wrongState s
      | .manual => done (settle (takeCrewResult valve r.normal result s))

/-- CREW_RESULT. -/
def execCrewResult (valve result : Nat) (s : State) : Host.Outcome State Fault Refusal :=
  .next (answered 0x32#8 (crewResult valve result s))

/-! ### REPLAN (03 R62) -/

/-- 03 R62: whether REPLAN is refused in a state. -/
def IncidentState.noReplan : IncidentState → Bool
  | .planning => true
  | .restoring => true
  | _ => false

/-- 03 R62. -/
def replan (incident : Nat) : State → Answer :=
  gated inRun [] fun s =>
    match s.incident incident with
    | none => refuse .unknownId s
    | some (slot, inc) =>
      if inc.state.noReplan then refuse .wrongState s else ⟨requestReplan slot inc s, .accepted, []⟩

/-- REPLAN. -/
def execReplan (incident : Nat) (s : State) : Host.Outcome State Fault Refusal :=
  .next (answered 0x33#8 (replan incident s))

/-! ### RESTORE (03 R78, R79) -/

/-- 03 R78: a PLANNING incident that holds nothing is discarded: its plan goes, and the planner goes on; then the slot
becomes FREE, which makes the plan now in progress, another incident's, stale (02 R27). -/
def discardPlanning (slot : Nat) (inc : Incident) (s : State) : State :=
  markStaleForOthers inc.number (raiseState inc freeCode inc.state.code (freeSlot slot (dropPlan inc.number s)))

/-- 03 R79: the restore list: the held valves of the boundary set in the reverse of closing sequence order, then the
other held valves in descending id. -/
def State.restoreListOf (s : State) (inc : Incident) : List Nat :=
  let held := s.heldBy inc.number
  (inc.boundary.reverse.filter fun v => held.contains v)
    ++ (held.reverse.filter fun v => !inc.boundary.contains v)

/-- 03 R78, R79: the entry to RESTORING, up to the first release order. -/
def enterRestoring (slot : Nat) (s : State) : State :=
  match s.slot slot with
  | some inc =>
    raiseState inc IncidentState.restoring.code inc.state.code
      (putSlot slot { inc with state := .restoring, restoreList := s.restoreListOf inc } s)
  | none => s

/-- 03 R78: a restore of an incident begins: it leaves the consent queue, its plan goes, and it enters RESTORING, which
makes the plan now in progress, another incident's, stale (02 R27). -/
def beginRestore (slot : Nat) (inc : Incident) (s : State) : State :=
  markStaleForOthers inc.number (enterRestoring slot (dropPlan inc.number (quitConsent slot s)))

/-- 03 R78. -/
def restore (incident : Nat) : State → Answer :=
  gated inRun [] fun s =>
    match s.incident incident with
    | none => refuse .unknownId s
    | some (slot, inc) =>
      if inc.state = .restoring then done s
      else if inc.state = .planning ∧ (s.heldBy inc.number).isEmpty then done (discardPlanning slot inc s)
      else ⟨settle (beginRestore slot inc s), .accepted, []⟩

/-- RESTORE. -/
def execRestore (incident : Nat) (s : State) : Host.Outcome State Fault Refusal :=
  .next (answered 0x34#8 (restore incident s))

/-! ### SET_OPERABILITY (04 R109) -/

/-- 09 R190: the operability of a code. -/
def operabilityOfCode : Nat → Operability
  | 0 => .operable
  | 1 => .suspect
  | _ => .inoperable

/-- 04 R109: a valve with an active move or a crew request outstanding. -/
def ValveDyn.atWork (d : ValveDyn) : Bool := d.move.isSome || d.motion.crew

/-- 04 R109. -/
def setOperabilityRequest (valve value : Nat) : State → Answer :=
  gated inRunOrConfig [inRange 1 1023 valve, inRange 0 2 value] fun s =>
    if Table.has s.map.valves valve then
      if value = 2 ∧ (s.dyn valve).atWork then refuse .wrongState s
      else done (settle (setOperability valve (operabilityOfCode value) s))
    else refuse .unknownId s

/-- SET_OPERABILITY. -/
def execSetOperability (valve value : Nat) (s : State) : Host.Outcome State Fault Refusal :=
  .next (answered 0x35#8 (setOperabilityRequest valve value s))

/-! ### RELEASE (03 R71) -/

/-- 03 R71: whether a code releases an incident. -/
def Incident.releasedBy (inc : Incident) (code : Nat) : Bool :=
  inc.state = .armed && (inc.group = code || code = 15)

/-- 03 R71: the number of incidents that a code releases. -/
def State.releaseCount (s : State) (code : Nat) : Nat :=
  allSlots.countP fun slot => (s.slot slot).any fun inc => inc.releasedBy code

/-- 03 R71: the incidents that a code releases enter CLOSING in ascending slot order. -/
def releaseArmed (code : Nat) (s : State) : State :=
  settle (forSlots (fun slot inc s => if inc.releasedBy code then enterClosing slot s else s) s)

/-- 03 R71: a unicast RELEASE. -/
def releaseRequest (code : Nat) : State → Answer :=
  gated inRun [inRange 0 15 code] fun s => ⟨releaseArmed code s, .done, be1 (s.releaseCount code)⟩

/-- 03 R71: a broadcast RELEASE, which is not answered. -/
def releaseBroadcast (code : Nat) (s : State) : State :=
  if s.store.mode = .run ∧ code ≤ 15 then releaseArmed code s else s

/-- RELEASE. -/
def execRelease (broadcast : Bool) (code : Nat) (s : State) : Host.Outcome State Fault Refusal :=
  .next (if broadcast then releaseBroadcast code s else answered 0x36#8 (releaseRequest code s))

/-! ### PLAN_COMPLETE (02 R28, R29, R46, R47) -/

/-- 02 R28: a plan found stale is discarded and started again for the same incident. -/
def restartPlan (p : PlanInProgress) (s : State) : State :=
  { s with planner := { s.planner with plan := some (newPlan p.incident (s.recordedRegion p.incident)) } }

/-- 02 R28: the five stages fill the working sets of the plan in progress. -/
def workOutPlan (inc : Incident) (p : PlanInProgress) (s : State) : State :=
  { s with planner := { s.planner with plan := some { p with sets := s.makePlan inc } } }

/-- 02 R46, R47: the working sets of an incident's plan are handed to merge or publication. -/
def deliverPlan (slot : Nat) (inc : Incident) (s : State) : State :=
  match s.planner.plan with
  | some p => settle (if p.sets.noted.isEmpty then publish slot p.sets s else merge inc.number p.sets s)
  | none => s

/-- 02 R28: the plan in progress completes; with none in progress nothing happens. -/
def completePlan (s : State) : State :=
  match s.planner.plan with
  | none => s
  | some p =>
    if p.stale then restartPlan p s
    else
      match s.incident p.incident with
      | some (slot, inc) => if inc.state = .restoring then endPlan s else deliverPlan slot inc (workOutPlan inc p s)
      | none => endPlan s

/-- PLAN_COMPLETE. -/
def execPlanComplete (s : State) : Host.Outcome State Fault Refusal := .next (completePlan s)

/-! ### CONSENT_TIMEOUT (03 R67) -/

/-- 03 R67: the oldest entry is resolved by the timeout action. -/
def resolveByTimer (slot : Nat) (inc : Incident) (s : State) : State :=
  match s.map.policy.timeoutAction with
  | .proceed => settle (resolveConsent slot inc .proceededOnTimeout true true s)
  | .decline => settle (resolveConsent slot inc .declined true false s)

/-- 03 R68: an expiry that was called off does not happen. -/
def dropExpiry (s : State) : State :=
  { s with engine := { s.engine with voidExpiries := s.engine.voidExpiries - 1 } }

/-- 03 R67: the consent timer expires, when it counts and the queue has an oldest entry, which waits for consent (R65). -/
def resolveOldest (s : State) : State :=
  match s.engine.consentLeft, s.engine.consentQueue with
  | some _, number :: _ =>
    match s.incident number with
    | some (slot, inc) => if inc.state = .awaitConsent then resolveByTimer slot inc s else s
    | none => s
  | _, _ => s

/-- 03 R67, R68: an expiry is taken, unless the entry it was for has left the consent queue before. -/
def consentExpiry (s : State) : State := if s.engine.voidExpiries = 0 then resolveOldest s else dropExpiry s

/-- CONSENT_TIMEOUT. -/
def execConsentTimeout (s : State) : Host.Outcome State Fault Refusal := .next (consentExpiry s)

end Sys2Proof.Machine
end

