-- ==== Sys2Proof/Machine/LineRequests.lean ====
section
/-! DEFINITION. The requests RESET_LINE (06 R157) and SUPPLY_ON (06 R156). -/

namespace Sys2Proof.Machine

open Sys2Proof

/-- 06 R157. -/
def resetLineRequest (line : Nat) : State → Answer :=
  gated inRun [inRange 0 3 line] fun s =>
    let l := (lineOfCode line).getD .a
    if (s.map.lines.get l).enabled then done (resetLine l s) else refuse .wrongState s

/-- RESET_LINE. -/
def execResetLine (line : Nat) (s : State) : Host.Outcome State Fault Refusal :=
  .next (answered 0x51#8 (resetLineRequest line s))

/-- 06 R156: the effect of SUPPLY_ON by the supply state. -/
def supplyOnEffect (l : Line) (s : State) : State :=
  match (s.supply.get l).state with
  | .tripped => settle (switchOn l s)
  | .lockedOff => settle (switchOn l s)
  | .on => s
  | .off => s

/-- 06 R156. -/
def supplyOnRequest (line : Nat) : State → Answer :=
  gated inRun [inRange 0 3 line] fun s =>
    let l := (lineOfCode line).getD .a
    if (s.map.lines.get l).enabled then
      let s' := supplyOnEffect l s
      ⟨s', .done, be1 (s'.supply.get l).state.code⟩
    else refuse .wrongState s

/-- SUPPLY_ON. -/
def execSupplyOn (line : Nat) (s : State) : Host.Outcome State Fault Refusal :=
  .next (answered 0x52#8 (supplyOnRequest line s))

end Sys2Proof.Machine
end

