-- ==== Sys2Proof/Machine/ModeRequests.lean ====
section
/-! DEFINITION. The requests and events of map store and mode control (10): the changes of mode, the save, the load and
the full resets. -/

namespace Sys2Proof.Machine

open Sys2Proof

/-! ### ENTER_CONFIG (10 R198) -/

/-- 10 R198: the entry to QUIESCING, and on to CONFIG when no exchange is in flight. -/
def beginQuiesce (s : State) : State := quiesceDone (retimePolls (prepareQuiesce (changeMode .quiescing s)))

/-- 10 R198. -/
def enterConfig : State → Answer :=
  gated inRun [] fun s =>
    if s.engine.slots.isEmpty then ⟨beginQuiesce s, .accepted, []⟩ else refuse .wrongState s

/-- ENTER_CONFIG. -/
def execEnterConfig (s : State) : Host.Outcome State Fault Refusal := .next (answered 0x10#8 (enterConfig s))

/-! ### LEAVE_CONFIG (10 R201) -/

/-- 10 R201: refuses a map that fails the validation, naming the record. -/
def validated (act : State → Answer) (s : State) : Answer :=
  match s.map.fault with
  | some (kind, identifier) => badRecord kind identifier s
  | none => act s

/-- 10 R201. -/
def leaveConfig : State → Answer := mapEdit [] (validated fun s => done (enterRun s))

/-- LEAVE_CONFIG. -/
def execLeaveConfig (s : State) : Host.Outcome State Fault Refusal := .next (answered 0x11#8 (leaveConfig s))

/-! ### SAVE_MAP and SAVE_COMPLETE (10 R200) -/

/-- 10 R200: a save begins. -/
def beginSave (s : State) : State := { s with store := { s.store with busy := true, image := .saving s.map } }

/-- 10 R200. -/
def saveMap : State → Answer := mapEdit [] (validated fun s => ⟨beginSave s, .accepted, []⟩)

/-- SAVE_MAP. -/
def execSaveMap (s : State) : Host.Outcome State Fault Refusal := .next (answered 0x12#8 (saveMap s))

/-- 10 R200: the save under way completes: the image has its content and its sum. -/
def endSave (s : State) : State :=
  match s.store.image with
  | .saving content =>
    raise .saveDone .part 0 []
      { s with store := { s.store with busy := false, image := .written content (imageSum content) } }
  | _ => s

/-- SAVE_COMPLETE. -/
def execSaveComplete (s : State) : Host.Outcome State Fault Refusal := .next (endSave s)

/-! ### Full resets and the load (10 R196, R197) -/

/-- 10 R196, 09 R186: RESET_PART is answered DONE; the reset follows the reply. -/
def resetPart : State → Answer :=
  gated anyMode [] fun s => done { s with link := { s.link with resetPending := true } }

/-- RESET_PART. -/
def execResetPart (s : State) : Host.Outcome State Fault Refusal := .next (answered 0x53#8 (resetPart s))

/-- POWER_ON (10 R196). -/
def execPowerOn (addressPins speedPins : Nat) (s : State) : Host.Outcome State Fault Refusal :=
  .next (fullReset addressPins speedPins s)

/-- RESETN_ASSERTED (10 R196). -/
def execResetnAsserted (addressPins speedPins : Nat) (s : State) : Host.Outcome State Fault Refusal :=
  .next (fullReset addressPins speedPins s)

/-- LOAD_COMPLETE (10 R197), of the load that runs in STARTING. -/
def execLoadComplete (s : State) : Host.Outcome State Fault Refusal :=
  .next (if s.store.mode = .starting then completeLoad s else s)

end Sys2Proof.Machine
end

