-- ==== Sys2Proof/Machine/Reads.lean ====
section
/-! DEFINITION. The seven READ requests. Reply fields stand in the order in which the owning rule lists them (09 R190);
log 26 says where that order or a size is inferred. -/

namespace Sys2Proof.Machine

open Sys2Proof

/-- A list in a reply: its count, then its items of two bytes (09 R190). -/
def pageBytes (items : List Nat) : List Byte := be1 items.length ++ items.flatMap be2

/-! ### READ_SEGMENT (01 R23) -/

/-- 01 R23. -/
def readSegment (segment start : Nat) : State → Answer :=
  gated afterStart [inRange 1 511 segment] fun s =>
    match Table.get s.map.segments segment with
    | none => refuse .unknownId s
    | some r =>
      let ids := Table.keys (s.map.incidence segment)
      if ids.length < start then badField 2 s
      else
        ⟨s, .done, be2 segment ++ be2 r.customers ++ beFlag r.source ++ beFlag r.priority ++ be2 ids.length
                     ++ pageBytes (page ids start)⟩

/-- READ_SEGMENT. -/
def execReadSegment (segment start : Nat) (s : State) : Host.Outcome State Fault Refusal :=
  .next (answered 0x20#8 (readSegment segment start s))

/-! ### READ_VALVE (04 R120) -/

/-- 04 R120, 09 R194. -/
def readValve (valve : Nat) : State → Answer :=
  gated afterStart [inRange 1 1023 valve] fun s =>
    match Table.get s.map.valves valve with
    | none => refuse .unknownId s
    | some r => ⟨s, .done, readBack valve r (s.dyn valve) (s.reachable valve)⟩

/-- READ_VALVE. -/
def execReadValve (valve : Nat) (s : State) : Host.Outcome State Fault Refusal :=
  .next (answered 0x21#8 (readValve valve s))

/-! ### READ_STATION (06 R158) -/

/-- 06 R158: the valves that name a station, in channel order and within one channel in ascending id. -/
def State.valvesOfStation (s : State) (l : Line) (address : Nat) : List (Nat × ActuatedPart) :=
  allChannels.flatMap fun channel =>
    s.actuatedValves.filter fun e => e.2.line = l && e.2.address = address && e.2.channel = channel

/-- 06 R158: the station's map record. -/
def StationEntry.bytes (e : StationEntry) : List Byte :=
  be1 e.pollClass.code ++ be1 e.multiplier ++ be1 e.extraDelay ++ beFlag e.tap

/-- 06 R158: the station record. -/
def StationRec.bytes (r : StationRec) : List Byte :=
  be1 r.score ++ be1 r.state.code ++ be1 r.probeRun ++ beReading r.pressure ++ beFlag r.localControl.c1
    ++ beFlag r.localControl.c2 ++ beFlag r.localControl.c3 ++ beFlag r.localControl.c4

/-- 06 R158: the poll schedule data: probe or poll, sent as 1 or 0 (the model's choice of code, log 55), the interval in
effect (0 for a probe entry) and the time until due (0 when it is due), in tenths; all 0 for a station without a record. In
CONFIG the interval in effect is that of the map as edited, while the due time is what the last RUN left: the model's choice
(log 67). -/
def State.scheduleBytes (s : State) (l : Line) (address : Nat) : List Byte :=
  match Table.get s.stations (stationKey l address), (s.control.get l).schedule.find? (fun e => e.address = address) with
  | some _, some e =>
    beFlag e.probe ++ be2 (if e.probe then 0 else tenthsOf (s.interval l address))
      ++ be2 (if e.due ≤ s.elapsed then 0 else tenthsOf (e.due - s.elapsed))
  | _, _ => be1 0 ++ be2 0 ++ be2 0

/-- 06 R158. -/
def readStation (line address : Nat) : State → Answer :=
  gated afterStart [inRange 0 3 line, inRange 1 16 address] fun s =>
    let l := (lineOfCode line).getD .a
    match Table.get s.map.stations (stationKey l address) with
    | none => refuse .unknownId s
    | some e =>
      let valves := s.valvesOfStation l address
      ⟨s, .done, e.bytes ++ (s.station l address).bytes ++ be1 (s.supply.get l).state.code ++ s.scheduleBytes l address
        ++ be1 ((s.control.get l).queue.countP fun x => x.address = address) ++ be2 valves.length
        ++ be1 (valves.take 16).length ++ (valves.take 16).flatMap (fun x => be2 x.1 ++ be1 x.2.channel)⟩

/-- READ_STATION. -/
def execReadStation (line address : Nat) (s : State) : Host.Outcome State Fault Refusal :=
  .next (answered 0x22#8 (readStation line address s))

/-! ### READ_LINE (05 R141, 06 R159) -/

/-- 05 R141: a line's settings. -/
def LineSettings.bytes (x : LineSettings) : List Byte :=
  beFlag x.enabled ++ be1 x.speed.code ++ be1 x.blanking ++ be1 x.retryInterval ++ be1 x.tripLimit

/-- 06 R159: the supply's fields; the retry left in seconds rounded up. -/
def Supply.bytes (u : Supply) : List Byte :=
  be1 u.state.code ++ be1 (ceilDiv (u.retryLeft.getD 0) 1000) ++ be1 u.tripCount ++ beFlag u.overcurrent
    ++ beFlag u.trippedFlag

/-- 05 R128, R141: the number by which the code of an exchange's kind is found (log 12). -/
def ExchangeKind.number : ExchangeKind → Nat
  | .poll => 0
  | .probe => 1
  | .command e =>
    match e.kind with
    | .drive _ _ => 2
    | .stop => 3

/-- 05 R141: whether an exchange is in flight, and if so its station and kind. -/
def exchangeBytes : Option Exchange → List Byte
  | some x => be1 1 ++ be1 x.address ++ [Config.exchangeKindCode x.kind.number]
  | none => be1 0 ++ be1 0 ++ be1 0

/-- 05 R141: the controller's fields. -/
def LineControl.bytes (c : LineControl) : List Byte :=
  be1 c.queue.length ++ exchangeBytes c.exchange ++ be1 c.urgentCount ++ be1 c.errorLog ++ be1 c.lastError.code

/-- 05 R139 to R141, 06 R159: what a READ_LINE clears after its reply is formed. -/
def clearLine (l : Line) (s : State) : State :=
  onSupply l (fun u => { u with trippedFlag := false })
    (onControl l (fun c => { c with errorLog := 0, overflowReported := false, lastError := .noNew }) s)

/-- 05 R141. -/
def readLine (line : Nat) : State → Answer :=
  gated afterStart [inRange 0 3 line] fun s =>
    let l := (lineOfCode line).getD .a
    ⟨clearLine l s, .done,
      (s.map.lines.get l).bytes ++ (s.supply.get l).bytes ++ (s.control.get l).bytes⟩

/-- READ_LINE. -/
def execReadLine (line : Nat) (s : State) : Host.Outcome State Fault Refusal :=
  .next (answered 0x23#8 (readLine line s))

/-! ### READ_INCIDENT (03 R83) -/

/-- 03 R83: the tenths left on the consent timer for the oldest entry. -/
def State.consentTime (s : State) (number : Nat) : Nat :=
  if s.engine.consentQueue.head? = some number then tenthsLeft (s.engine.consentLeft.getD 0) else 0

/-- 03 R83: the fields of an incident that is not FREE. -/
def State.incidentBytes (s : State) (inc : Incident) : List Byte :=
  be1 inc.number ++ be1 inc.state.code ++ be2 inc.burst ++ be1 inc.origin.code ++ be4 inc.declaredAt
    ++ be1 inc.group ++ beFlag inc.always ++ beFlag inc.released ++ be4 inc.customersInRegion
    ++ be4 inc.customersInOutage ++ beFlag inc.priorityHit ++ be1 inc.consent.code ++ beFlag inc.replanPending
    ++ be1 inc.planCount ++ be1 (causeCode inc.cause) ++ be1 inc.region.length ++ be1 inc.boundary.length
    ++ be2 inc.outage.length ++ be1 inc.excluded.length ++ be1 (s.progress inc 0) ++ be1 (s.progress inc 1)
    ++ be1 (s.progress inc 2) ++ be1 (s.progress inc 3) ++ be1 (s.consentPlace inc.number)
    ++ be2 (s.consentTime inc.number)

/-- 03 R83. -/
def readIncident (slot : Nat) : State → Answer :=
  gated anyMode [inRange 0 3 slot] fun s =>
    match s.slot slot with
    | none => ⟨s, .done, be1 freeCode⟩
    | some inc => ⟨s, .done, s.incidentBytes inc⟩

/-- READ_INCIDENT. -/
def execReadIncident (slot : Nat) (s : State) : Host.Outcome State Fault Refusal :=
  .next (answered 0x24#8 (readIncident slot s))

/-! ### READ_PLAN (09 R188) -/

/-- 09 R188, R190: the list of a list code. -/
def Incident.listOf (inc : Incident) : Nat → List Nat
  | 0 => inc.region
  | 1 => inc.boundary
  | 2 => inc.outage
  | _ => inc.excluded

/-- 09 R188. -/
def readPlan (incident list start : Nat) : State → Answer :=
  gated inRun [true, inRange 0 3 list] fun s =>
    match s.incident incident with
    | none => refuse .unknownId s
    | some (_, inc) =>
      if (inc.listOf list).length < start then badField 3 s
      else
        ⟨s, .done, be1 inc.planCount ++ be2 (inc.listOf list).length ++ pageBytes (page (inc.listOf list) start)⟩

/-- READ_PLAN. -/
def execReadPlan (incident list start : Nat) (s : State) : Host.Outcome State Fault Refusal :=
  .next (answered 0x25#8 (readPlan incident list start s))

/-! ### READ_PART (09 R189, 07 R168) -/

/-- 07 R168: what READ_PART returns of an input. -/
def State.inputBytes (s : State) (i : Fin 8) : List Byte :=
  be1 (levelCode s.alarms[i].debounced) ++ beFlag (s.asserted i) ++ beFlag s.alarms[i].latched
    ++ beFlag s.alarms[i].deferred

/-- 09 R189. The level of an attention line is sent as 1 for asserted and 0 for deasserted, as flags are: R190 gives no code
of its own (the model's choice, log 47). -/
def State.partBytes (s : State) : List Byte :=
  be1 s.store.mode.code ++ beFlag s.store.busy ++ be1 (s.link.address.getD 0) ++ be1 s.link.speed
    ++ be4 s.reports.timeBase ++ be1 s.reports.queue.length ++ be1 s.reports.lost ++ beFlag s.reports.attention0
    ++ beFlag s.reports.attention1 ++ be1 (allSlots.countP fun slot => (s.slot slot).isNone)
    ++ allInputs.flatMap s.inputBytes

/-- 07 R168: every latched flag is cleared. -/
def clearLatched (s : State) : State :=
  allInputs.foldl (fun s i => onAlarm i (fun x => { x with latched := false }) s) s

/-- 09 R189. -/
def readPart : State → Answer := gated anyMode [] fun s => ⟨clearLatched s, .done, s.partBytes⟩

/-- READ_PART. -/
def execReadPart (s : State) : Host.Outcome State Fault Refusal :=
  .next (answered 0x26#8 (readPart s))

end Sys2Proof.Machine
end

