-- ==== Sys2Proof/Machine/ReportRequests.lean ====
section
/-! DEFINITION. The requests of the report unit (08) and the wrap of the time base. -/

namespace Sys2Proof.Machine

open Sys2Proof

/-! ### FETCH (08 R179) -/

/-- 08 R179, 09 R193: what a FETCH answers. -/
def ReportUnit.fetched (u : ReportUnit) : List Byte :=
  match u.queue with
  | [] => beFlag false ++ be1 0 ++ be1 u.lost
  | r :: rest => beFlag true ++ be1 rest.length ++ be1 u.lost ++ r.bytes

/-- 08 R179: the report unit after a FETCH. -/
def ReportUnit.fetch (u : ReportUnit) : ReportUnit := ReportUnit.derive { u with queue := u.queue.drop 1, lost := 0 }

/-- 08 R179. -/
def fetch : State → Answer :=
  gated anyMode [] fun s => ⟨{ s with reports := s.reports.fetch }, .done, s.reports.fetched⟩

/-- FETCH. -/
def execFetch (s : State) : Host.Outcome State Fault Refusal := .next (answered 0x40#8 (fetch s))

/-! ### SET_MASK (08 R174, R175) -/

/-- Changes the settings of a kind. -/
def onKind (k : ReportKind) (f : KindSetting → KindSetting) (s : State) : State :=
  { s with reports := s.reports.setKind k (f (s.reports.kind k)) }

/-- 08 R174: a kind becomes MASKED. -/
def maskKind (k : ReportKind) (s : State) : State := onKind k (fun x => { x with masked := true }) s

/-- 08 R175: a kind becomes UNMASKED: the mask is set, a count above 0 is summed up, and the count becomes 0. -/
def unmaskKind (k : ReportKind) (s : State) : State :=
  let count := (s.reports.kind k).maskedCount
  let s := onKind k (fun x => { x with masked := false }) s
  let s := if count = 0 then s else raise .maskedSummary .part 0 [some k.code, some count] s
  onKind k (fun x => { x with maskedCount := 0 }) s

/-- 08 R174, R175: a setting for a kind; UNMASKED for an unmasked kind changes nothing. -/
def applyMask (k : ReportKind) (setting : Nat) (s : State) : State :=
  if setting = 1 then maskKind k s
  else if (s.reports.kind k).masked then unmaskKind k s
  else s

/-- 08 R174: MASKED_SUMMARY, of code 23, cannot be masked. -/
def setMask (kind setting : Nat) : State → Answer :=
  gated anyMode [inRange 1 22 kind, isFlag setting] fun s =>
    match kindOfCode kind with
    | some k => ⟨applyMask k setting s, .done, be1 (s.reports.kind k).maskedCount⟩
    | none => badField 1 s

/-- SET_MASK. -/
def execSetMask (kind setting : Nat) (s : State) : Host.Outcome State Fault Refusal :=
  .next (answered 0x41#8 (setMask kind setting s))

/-! ### SET_ROUTE (08 R176) -/

/-- 08 R177: derives the attention lines again. -/
def deriveLines (s : State) : State := { s with reports := s.reports.derive }

/-- 08 R176. -/
def setRoute (kind line : Nat) : State → Answer :=
  gated anyMode [inRange 1 23 kind, isFlag line] fun s =>
    match kindOfCode kind with
    | some k => done (deriveLines (onKind k (fun x => { x with onLine1 := decide (line = 1) }) s))
    | none => badField 1 s

/-- SET_ROUTE. -/
def execSetRoute (kind line : Nat) (s : State) : Host.Outcome State Fault Refusal :=
  .next (answered 0x42#8 (setRoute kind line s))

/-! ### SET_WATERMARK (08 R178) -/

/-- 08 R178. -/
def setWatermark (value : Nat) : State → Answer :=
  gated anyMode [inRange 1 32 value] fun s =>
    done (deriveLines { s with reports := { s.reports with watermark := value } })

/-- SET_WATERMARK. -/
def execSetWatermark (value : Nat) (s : State) : Host.Outcome State Fault Refusal :=
  .next (answered 0x43#8 (setWatermark value s))

/-! ### SET_TIME (08 R173) and the wrap (R172) -/

/-- 08 R172: the number of values of the time base. -/
def timeBaseSize : Nat := 4294967296

/-- 08 R173: the time base takes a value. -/
def takeTime (time : Nat) (s : State) : State :=
  { s with reports := { s.reports with timeBase := time % timeBaseSize } }

/-- 08 R173: a unicast SET_TIME. -/
def setTime (time : Nat) : State → Answer := gated anyMode [] fun s => done (takeTime time s)

/-- SET_TIME: answered when it is unicast (08 R173). -/
def execSetTime (broadcast : Bool) (time : Nat) (s : State) : Host.Outcome State Fault Refusal :=
  .next (if broadcast then takeTime time s else answered 0x50#8 (setTime time s))

/-- TIME_BASE_WRAP: the time base is followed by 0 (08 R172). -/
def execTimeBaseWrap (s : State) : Host.Outcome State Fault Refusal := .next (takeTime 0 s)

end Sys2Proof.Machine
end

