-- ==== Sys2Proof/Machine/HostLink.lean ====
section
/-! DEFINITION. The host link (09): the receiver's states (R181, R186), the judging of a frame (R182), broadcast and
unicast frames (R184, R185) with the request catalogue, and the sending of the reply. -/

namespace Sys2Proof.Machine

open Sys2Proof

/-! ### The request catalogue (09, section 9.5) -/

/-- A row of the catalogue: the kind, the payload length, and the owner's answer to a payload of that length. -/
structure CatalogueRow where
  kind : Nat
  size : Nat
  act : List Byte → State → Answer

/-- 09, section 9.5: the map requests. -/
def mapCatalogue : List CatalogueRow :=
  [⟨0x01, 6, fun p => putSegment (field p 0 2) (field p 2 2) (field p 4 1) (field p 5 1)⟩,
   ⟨0x02, 27, fun p => putValve
      { valve := field p 0 2, endA := field p 2 2, endB := field p 4 2, kind := field p 6 1,
        normalState := field p 7 1, closingRank := field p 8 1, stationLine := field p 9 1,
        stationAddress := field p 10 1, channel := field p 11 1, strokeTime := field p 12 2,
        throttlePoint := field p 14 2, slowRatio := field p 16 1, surgeCeiling := field p 17 2,
        surgeHysteresis := field p 19 2, maximumHold := field p 21 2, torqueRetries := field p 23 1,
        chargeOpening := field p 24 1, chargeDwell := field p 25 2 }⟩,
   ⟨0x03, 6, fun p => putStation (field p 0 1) (field p 1 1) (field p 2 1) (field p 3 1) (field p 4 1) (field p 5 1)⟩,
   ⟨0x04, 6, fun p => putLine (field p 0 1) (field p 1 1) (field p 2 1) (field p 3 1) (field p 4 1) (field p 5 1)⟩,
   ⟨0x05, 6, fun p => putAlarm (field p 0 1) (field p 1 2) (field p 3 1) (field p 4 1) (field p 5 1)⟩,
   ⟨0x06, 11, fun p => putPolicy (field p 0 4) (field p 4 2) (field p 6 1) (field p 7 2) (field p 9 1) (field p 10 1)⟩,
   ⟨0x07, 2, fun p => dropSegment (field p 0 2)⟩,
   ⟨0x08, 2, fun p => dropValve (field p 0 2)⟩,
   ⟨0x09, 2, fun p => dropStation (field p 0 1) (field p 1 1)⟩,
   ⟨0x0A, 0, fun _ => clearMap⟩]

/-- 09, section 9.5: the mode requests and the reads. -/
def readCatalogue : List CatalogueRow :=
  [⟨0x10, 0, fun _ => enterConfig⟩,
   ⟨0x11, 0, fun _ => leaveConfig⟩,
   ⟨0x12, 0, fun _ => saveMap⟩,
   ⟨0x20, 4, fun p => readSegment (field p 0 2) (field p 2 2)⟩,
   ⟨0x21, 2, fun p => readValve (field p 0 2)⟩,
   ⟨0x22, 2, fun p => readStation (field p 0 1) (field p 1 1)⟩,
   ⟨0x23, 1, fun p => readLine (field p 0 1)⟩,
   ⟨0x24, 1, fun p => readIncident (field p 0 1)⟩,
   ⟨0x25, 4, fun p => readPlan (field p 0 1) (field p 1 1) (field p 2 2)⟩,
   ⟨0x26, 0, fun _ => readPart⟩]

/-- 09, section 9.5: the other requests. -/
def actCatalogue : List CatalogueRow :=
  [⟨0x30, 4, fun p => declare (field p 0 2) (field p 2 1) (field p 3 1)⟩,
   ⟨0x31, 2, fun p => consent (field p 0 1) (field p 1 1)⟩,
   ⟨0x32, 3, fun p => crewResult (field p 0 2) (field p 2 1)⟩,
   ⟨0x33, 1, fun p => replan (field p 0 1)⟩,
   ⟨0x34, 1, fun p => restore (field p 0 1)⟩,
   ⟨0x35, 3, fun p => setOperabilityRequest (field p 0 2) (field p 2 1)⟩,
   ⟨0x36, 1, fun p => releaseRequest (field p 0 1)⟩,
   ⟨0x40, 0, fun _ => fetch⟩,
   ⟨0x41, 2, fun p => setMask (field p 0 1) (field p 1 1)⟩,
   ⟨0x42, 2, fun p => setRoute (field p 0 1) (field p 1 1)⟩,
   ⟨0x43, 1, fun p => setWatermark (field p 0 1)⟩,
   ⟨0x50, 4, fun p => setTime (field p 0 4)⟩,
   ⟨0x51, 1, fun p => resetLineRequest (field p 0 1)⟩,
   ⟨0x52, 1, fun p => supplyOnRequest (field p 0 1)⟩,
   ⟨0x53, 0, fun _ => resetPart⟩]

/-- 09, section 9.5: every request. -/
def catalogue : List CatalogueRow := mapCatalogue ++ readCatalogue ++ actCatalogue

/-! ### Taking a request -/

/-- 09 R185: the answer to a unicast request. -/
def answerTo (kind : Byte) (payload : List Byte) (s : State) : Answer :=
  match catalogue.find? fun r => r.kind = kind.toNat with
  | none => refuse .unknownKind s
  | some r => if payload.length = r.size then r.act payload s else badField 0 s

/-- 09 R185: a unicast request is taken, and its reply is formed. -/
def takeUnicast (kind : Byte) (payload : List Byte) (s : State) : State := answered kind (answerTo kind payload s)

/-- 09 R184: a broadcast request is taken when it is RELEASE or SET_TIME of the right length. -/
def takeBroadcast (kind : Byte) (payload : List Byte) (s : State) : State :=
  if kind = 0x36#8 ∧ payload.length = 1 then releaseBroadcast (field payload 0 1) s
  else if kind = 0x50#8 ∧ payload.length = 4 then takeTime (field payload 0 4) s
  else s

/-! ### The receiver (09 R181, R182) -/

/-- Changes the host link's record. -/
def onLink (f : HostLink → HostLink) (s : State) : State := { s with link := f s.link }

/-- The payload of a frame. -/
def payloadOf (frame : List Byte) : List Byte := (frame.drop 4).take (frame.length - 6)

/-- 09 R182: the greatest length byte of a host frame. -/
def longestPayload : Nat := 240

/-- 09 R182: the checks of a host frame: marker, length byte, number of bytes and check word. -/
def goodFrame (frame : List Byte) : Bool := soundFrame hostMarker frame && decide (field frame 3 1 ≤ longestPayload)

/-- 09 R182: a frame that has ended is judged. -/
def judgeFrame (frame : List Byte) (s : State) : State :=
  let kind := (frame[2]?).getD 0#8
  if !goodFrame frame then s
  else if field frame 1 1 = 0 then takeBroadcast kind (payloadOf frame) s
  else if s.link.address = some (field frame 1 1) then takeUnicast kind (payloadOf frame) s
  else s

/-- 09 R181: more than 3 ms of silence since the last character. That the frame buffer is emptied at once, and not at the
next character, is the model's choice (log 62). -/
def frameEnd (s : State) : State :=
  match s.link.receiver with
  | .idle => s
  | .receiving => judgeFrame s.link.frame (onLink (fun k => { k with receiver := .idle, frame := [] }) s)
  | .discarding => onLink (fun k => { k with receiver := .idle }) s
  | .replying _ _ => s

/-- HOST_FRAME_END. -/
def execHostFrameEnd (s : State) : Host.Outcome State Fault Refusal := .next (frameEnd s)

/-- 09 R181: the longest host frame. -/
def longestHostFrame : Nat := 246

/-- 09 R181: a character in IDLE. -/
def HostLink.firstCharacter (k : HostLink) (c : Character) : HostLink :=
  if c.stopBit then { k with receiver := .receiving, frame := [c.byte] }
  else { k with receiver := .discarding, frame := [] }

/-- 09 R181: a character in RECEIVING. That a frame given up leaves the buffer empty is the model's choice (log 62). -/
def HostLink.nextCharacter (k : HostLink) (c : Character) : HostLink :=
  if c.stopBit && decide (k.frame.length < longestHostFrame) then { k with frame := k.frame ++ [c.byte] }
  else { k with receiver := .discarding, frame := [] }

/-- 10 R196, 09 R180: the full reset that RESET_PART leads to, at which the strap pins are read; what they show then is a
free value (log 5). -/
def resetFromLink (s : State) : State :=
  fullReset (Config.addressPins s.freeCount).toNat (Config.speedPins s.freeCount).toNat s

/-- 09 R186: the reply is discarded unsent; the full reset of a RESET_PART follows at once. -/
def discardReply (s : State) : State :=
  let s := onLink (fun k => { k with receiver := .idle, reply := none }) s
  if s.link.resetPending then resetFromLink s else s

/-- 09 R181, R186: a character arrives. -/
def hostCharacter (c : Character) (s : State) : State :=
  match s.link.receiver with
  | .idle => onLink (fun k => k.firstCharacter c) s
  | .receiving => onLink (fun k => k.nextCharacter c) s
  | .discarding => s
  | .replying false _ => onLink (fun k => k.firstCharacter c) (discardReply s)
  | .replying true _ => onLink (fun k => { k with receiver := .replying true true }) s

/-- HOST_CHAR_RECEIVED. -/
def execHostCharReceived (character : Character) (s : State) : Host.Outcome State Fault Refusal :=
  .next (hostCharacter character s)

/-! ### The reply (09 R186) -/

/-- 09 R186: the first character of the reply is sent. -/
def replyStart (s : State) : State :=
  match s.link.receiver with
  | .replying false heard => onLink (fun k => { k with receiver := .replying true heard }) s
  | _ => s

/-- REPLY_START. -/
def execReplyStart (s : State) : Host.Outcome State Fault Refusal := .next (replyStart s)

/-- 09 R186: the last character of the reply is sent. That the reply buffer is then empty is the model's choice (log 63). -/
def endReply (heard : Bool) (s : State) : State :=
  let s := onLink (fun k => { k with reply := none, receiver := if heard then .discarding else .idle }) s
  if s.link.resetPending then resetFromLink s else s

/-- 09 R186: only a reply that is being sent can end. -/
def replySent (s : State) : State :=
  match s.link.receiver with
  | .replying true heard => endReply heard s
  | _ => s

/-- REPLY_SENT. -/
def execReplySent (s : State) : Host.Outcome State Fault Refusal := .next (replySent s)

end Sys2Proof.Machine
end

