-- ==== Sys2Proof/Machine/LineEvents.lean ====
section
/-! DEFINITION. The events of a field line (05, 06): the choice and start of an exchange, its course on the line, and the
events of the line supply. An event whose condition does not hold leaves the state as it is (log 2). -/

namespace Sys2Proof.Machine

open Sys2Proof

/-! ### EXCHANGE_START (05 R137) -/

/-- 05 R137: of two due entries the more overdue, the lower address among equally overdue. -/
def moreOverdue (x y : PollEntry) : PollEntry :=
  if y.due < x.due ∨ (y.due = x.due ∧ y.address < x.address) then y else x

/-- 05 R133, R137: the entry that a routine exchange takes now. -/
def dueEntry (schedule : List PollEntry) (now : Nat) : Option PollEntry :=
  match schedule.filter fun e => decide (e.due ≤ now) with
  | [] => none
  | e :: rest => some (rest.foldl moreOverdue e)

/-- 05 R128: the record of an exchange that starts. -/
def newExchange (address : Nat) (kind : ExchangeKind) : Exchange :=
  { address := address, kind := kind, sent := false, window := none, replyBegun := false }

/-- 05 R136: the exchange of a due entry, a probe or a poll. -/
def PollEntry.exchange (e : PollEntry) : Exchange := newExchange e.address (if e.probe then .probe else .poll)

/-- 05 R137: a controller that starts a routine exchange. -/
def LineControl.startRoutine (c : LineControl) (e : PollEntry) : LineControl :=
  { c with exchange := some e.exchange, urgentCount := 0 }

/-- 05 R131, R137: a controller that starts the exchange of the head of its urgent queue. -/
def LineControl.startUrgent (c : LineControl) (e : QueueEntry) (rest : List QueueEntry) : LineControl :=
  { c with exchange := some (newExchange e.address (.command e)), queue := rest,
           urgentCount := saturate 255 c.urgentCount }

/-- 05 R137: the choice of the next exchange, from the urgent queue and the poll schedule as they stand. -/
def LineControl.start (c : LineControl) (now : Nat) : LineControl :=
  match c.queue, dueEntry c.schedule now with
  | e :: rest, some d => if 4 ≤ c.urgentCount then c.startRoutine d else c.startUrgent e rest
  | e :: rest, none => c.startUrgent e rest
  | [], some d => c.startRoutine d
  | [], none => c

/-- 05 R122, R137: a line that may start exchanges and has none in flight chooses its next one. -/
def exchangeStart (l : Line) (s : State) : State :=
  if s.mayStart l && (s.control.get l).exchange.isNone then onControl l (fun c => c.start s.elapsed) s else s

/-- EXCHANGE_START. -/
def execExchangeStart (line : Line) (s : State) : Host.Outcome State Fault Refusal := .next (exchangeStart line s)

/-! ### The course of an exchange (05 R125 to R127) -/

/-- Changes the exchange in flight of a line, when there is one. -/
def onExchange (l : Line) (f : Exchange → Exchange) (s : State) : State :=
  onControl l (fun c => { c with exchange := c.exchange.map f }) s

/-- 05 R125: the request's last character has been sent: the response window opens. -/
def Exchange.requestSent (window : Nat) (x : Exchange) : Exchange :=
  if x.sent then x else { x with sent := true, window := some window }

/-- 05 R125. -/
def fieldRequestSent (l : Line) (s : State) : State := onExchange l (fun x => x.requestSent (s.window l x.address)) s

/-- FIELD_REQUEST_SENT. -/
def execFieldRequestSent (line : Line) (s : State) : Host.Outcome State Fault Refusal := .next (fieldRequestSent line s)

/-- 05 R125: a reply's start bit arrives while the window is open. -/
def Exchange.replyStarts (x : Exchange) : Exchange :=
  if x.window.isSome then { x with replyBegun := true, window := none } else x

/-- FIELD_REPLY_START (05 R125). A start bit outside an open window belongs to no reply (R126). -/
def execFieldReplyStart (line : Line) (s : State) : Host.Outcome State Fault Refusal :=
  .next (onExchange line Exchange.replyStarts s)

/-- 05 R125: the window expires with no reply begun: the exchange completes as NO_REPLY. -/
def windowExpiry (l : Line) (s : State) : State :=
  match (s.control.get l).exchange with
  | some x => if x.window.isSome then completeExchange l x (.error .noReply) s else s
  | none => s

/-- RESPONSE_WINDOW_EXPIRY. -/
def execResponseWindowExpiry (line : Line) (s : State) : Host.Outcome State Fault Refusal := .next (windowExpiry line s)

/-- 05 R126, R127: the reply that has begun ends, and is judged. -/
def replyEnd (l : Line) (characters : List Character) (s : State) : State :=
  match (s.control.get l).exchange with
  | some x => if x.replyBegun then completeExchange l x (judgeReply x.address characters) s else s
  | none => s

/-- FIELD_REPLY_END. -/
def execFieldReplyEnd (line : Line) (characters : List Character) (s : State) : Host.Outcome State Fault Refusal :=
  .next (replyEnd line characters s)

/-- FIELD_UNSOLICITED_CHARS: discarded, counted as no error and handed to no block (05 R126). -/
def execFieldUnsolicitedChars (_line : Line) (_characters : List Character) (s : State) :
    Host.Outcome State Fault Refusal := .next s

/-! ### POLL_DUE (05 R133) -/

/-- 05 R133: the due time of a station's entry has passed. While the supply is not ON no entry becomes due. -/
def pollDue (l : Line) (address : Nat) (s : State) : State :=
  if (s.supply.get l).state = .on then onPollEntry l address (fun e => { e with due := min e.due s.elapsed }) s else s

/-- POLL_DUE. -/
def execPollDue (line : Line) (address : Nat) (s : State) : Host.Outcome State Fault Refusal :=
  .next (pollDue line address s)

/-! ### Line supply (06 R152 to R154) -/

/-- 06 R152: the overcurrent condition appears on a supply that is ON. -/
def Supply.overcurrentStarts (u : Supply) : Supply :=
  if u.state = .on && !u.overcurrent then { u with overcurrent := true, overTime := 0 } else u

/-- OVERCURRENT_START. -/
def execOvercurrentStart (line : Line) (s : State) : Host.Outcome State Fault Refusal :=
  .next (onSupply line Supply.overcurrentStarts s)

/-- 06 R152: the condition goes. -/
def Supply.overcurrentEnds (u : Supply) : Supply := { u with overcurrent := false, overTime := 0 }

/-- OVERCURRENT_END. -/
def execOvercurrentEnd (line : Line) (s : State) : Host.Outcome State Fault Refusal :=
  .next (onSupply line Supply.overcurrentEnds s)

/-- 06 R152: an overcurrent of a supply that is ON outlasts the blanking time. -/
def supplyTrip (l : Line) (s : State) : State :=
  if (s.supply.get l).state = .on ∧ (s.supply.get l).overcurrent = true then tripSupply l s else s

/-- SUPPLY_TRIP. -/
def execSupplyTrip (line : Line) (s : State) : Host.Outcome State Fault Refusal := .next (supplyTrip line s)

/-- 06 R154: the retry left of a TRIPPED supply reaches 0, in RUN. -/
def supplyRetry (l : Line) (s : State) : State :=
  if s.store.mode = .run ∧ (s.supply.get l).state = .tripped ∧ (s.supply.get l).retryLeft.isSome then
    settle (switchOn l s)
  else s

/-- SUPPLY_RETRY. -/
def execSupplyRetry (line : Line) (s : State) : Host.Outcome State Fault Refusal := .next (supplyRetry line s)

/-- 06 R154: an ON supply has been on for 30 s. -/
def Supply.timeOnReached (u : Supply) : Supply :=
  if u.state = .on && u.timeOn.isSome then { u with tripCount := 0, timeOn := none } else u

/-- TIME_ON_REACHED. -/
def execTimeOnReached (line : Line) (s : State) : Host.Outcome State Fault Refusal :=
  .next (onSupply line Supply.timeOnReached s)

end Sys2Proof.Machine
end

