-- ==== Sys2Proof/Machine/ValveEvents.lean ====
section
/-! DEFINITION. The events of the valve drive's timers (04): MOVE_TIMER_EXPIRY, SURGE_STALL, DWELL_END and CREW_OVERDUE.
An event that names a valve in no condition to have it leaves the state as it is (log 2). -/

namespace Sys2Proof.Machine

open Sys2Proof

/-! ### MOVE_TIMER_EXPIRY (04 R108) -/

/-- 04 R108: a RUNNING move timer reaches 0. -/
def expireMove (v : Nat) (p : ActuatedPart) (m : Move) (s : State) : State :=
  settle (if m.expiries = 0 then firstExpiry v p m s else secondExpiry v p m s)

/-- 04 R108: a timer that is STOPPED or FROZEN does not reach 0. -/
def moveTimerExpiry (v : Nat) (s : State) : State :=
  match s.actuated v, (s.dyn v).move with
  | some p, some m => if m.standing = .running then expireMove v p m s else s
  | _, _ => s

/-- MOVE_TIMER_EXPIRY. -/
def execMoveTimerExpiry (valve : Nat) (s : State) : Host.Outcome State Fault Refusal := .next (moveTimerExpiry valve s)

/-! ### SURGE_STALL (04 R104) -/

/-- 04 R104: the hold elapsed has reached the maximum hold. The pressure is the station's last (log 15). -/
def stall (v : Nat) (p : ActuatedPart) (s : State) : State :=
  let s := onMove v (fun m => { m with holdElapsed := p.maximumHold * 1000, stallReported := true }) s
  raise .surgeStall (.valve v) 0 [(s.station p.line p.address).pressure, some p.maximumHold, (s.dyn v).position] s

/-- 04 R104: once for a hold, for a valve whose maximum hold is not 0. -/
def surgeStall (v : Nat) (s : State) : State :=
  match s.actuated v, (s.dyn v).move with
  | some p, some m =>
    if (s.dyn v).motion = .holding ∧ p.maximumHold ≠ 0 ∧ m.stallReported = false then stall v p s else s
  | _, _ => s

/-- SURGE_STALL. -/
def execSurgeStall (valve : Nat) (s : State) : Host.Outcome State Fault Refusal := .next (surgeStall valve s)

/-! ### DWELL_END (04 R111) -/

/-- 04 R111: the dwell left reaches 0. -/
def dwellEnd (v : Nat) (s : State) : State :=
  match s.actuated v, (s.dyn v).move with
  | some p, some _ => if (s.dyn v).motion = .dwell then endDwell v p s else s
  | _, _ => s

/-- DWELL_END. -/
def execDwellEnd (valve : Nat) (s : State) : Host.Outcome State Fault Refusal := .next (dwellEnd valve s)

/-! ### CREW_OVERDUE (04 R113, 03 R64) -/

/-- 03 R64: an excluded list with a valve appended, unless it is in it or the list holds 64. -/
def exclude (v : Nat) (excluded : List Nat) : List Nat :=
  if excluded.contains v || decide (64 ≤ excluded.length) then excluded else excluded ++ [v]

/-- 03 R64: the incidents that a valve's holder set names, RESTORING ones apart, exclude the valve and are planned
again. -/
def planAround (v : Nat) (s : State) : State :=
  forSlots (fun slot inc s =>
    if (s.dyn v).holders.contains inc.number && inc.state != .restoring then
      requestReplan slot { inc with excluded := exclude v inc.excluded } (markStaleFor inc.number s)
    else s) s

/-- 04 R113: the detail of the crew request that waits. -/
def crewDetail (motion : Motion) : Nat := if motion = .crewOpen then 1 else 0

/-- 04 R113: a crew timer reaches 0. -/
def overdue (v : Nat) (s : State) : State :=
  let action := s.map.policy.overdueAction
  let s := raise .crewOverdue (.valve v) (crewDetail (s.dyn v).motion)
             [some action.code, some s.map.policy.crewTimeout] s
  let s := onDyn v (fun d => { d with crewLeft := none }) s
  match action with
  | .report => s
  | .planAround => planAround v s

/-- 04 R113: a valve without a crew timer has nothing to expire. -/
def crewOverdue (v : Nat) (s : State) : State := if (s.dyn v).crewLeft.isSome then overdue v s else s

/-- CREW_OVERDUE. -/
def execCrewOverdue (valve : Nat) (s : State) : Host.Outcome State Fault Refusal := .next (crewOverdue valve s)

end Sys2Proof.Machine
end

