-- ==== Sys2Proof/Machine/Dispatch.lean ====
section
/-! DEFINITION. The meaning of each command: one arm for each constructor, in the order of Syntax. -/

namespace Sys2Proof.Machine

open Sys2Proof

/-- What a command does to the part, the queue of commands apart. -/
def exec (i : Instr) (s : State) : Host.Outcome State Fault Refusal :=
  match i with
  | .putSegment segment customers source priority => Sys2Proof.Machine.execPutSegment segment customers source priority s
  | .putValve fields => Sys2Proof.Machine.execPutValve fields s
  | .putStation line address pollClass multiplier extraDelay tap => Sys2Proof.Machine.execPutStation line address pollClass multiplier extraDelay tap s
  | .putLine line enabled speed blanking retry tripLimit => Sys2Proof.Machine.execPutLine line enabled speed blanking retry tripLimit s
  | .putAlarm input segment activeLevel debounce action => Sys2Proof.Machine.execPutAlarm input segment activeLevel debounce action s
  | .putPolicy threshold timeout timeoutAction crewTimeout crewAction parallel => Sys2Proof.Machine.execPutPolicy threshold timeout timeoutAction crewTimeout crewAction parallel s
  | .dropSegment segment => Sys2Proof.Machine.execDropSegment segment s
  | .dropValve valve => Sys2Proof.Machine.execDropValve valve s
  | .dropStation line address => Sys2Proof.Machine.execDropStation line address s
  | .clearMap => Sys2Proof.Machine.execClearMap s
  | .enterConfig => Sys2Proof.Machine.execEnterConfig s
  | .leaveConfig => Sys2Proof.Machine.execLeaveConfig s
  | .saveMap => Sys2Proof.Machine.execSaveMap s
  | .readSegment segment start => Sys2Proof.Machine.execReadSegment segment start s
  | .readValve valve => Sys2Proof.Machine.execReadValve valve s
  | .readStation line address => Sys2Proof.Machine.execReadStation line address s
  | .readLine line => Sys2Proof.Machine.execReadLine line s
  | .readIncident slot => Sys2Proof.Machine.execReadIncident slot s
  | .readPlan incident list start => Sys2Proof.Machine.execReadPlan incident list start s
  | .readPart => Sys2Proof.Machine.execReadPart s
  | .declare segment group always => Sys2Proof.Machine.execDeclare segment group always s
  | .consent incident answer => Sys2Proof.Machine.execConsent incident answer s
  | .crewResult valve result => Sys2Proof.Machine.execCrewResult valve result s
  | .replan incident => Sys2Proof.Machine.execReplan incident s
  | .restore incident => Sys2Proof.Machine.execRestore incident s
  | .setOperability valve value => Sys2Proof.Machine.execSetOperability valve value s
  | .release broadcast code => Sys2Proof.Machine.execRelease broadcast code s
  | .fetch => Sys2Proof.Machine.execFetch s
  | .setMask kind setting => Sys2Proof.Machine.execSetMask kind setting s
  | .setRoute kind line => Sys2Proof.Machine.execSetRoute kind line s
  | .setWatermark value => Sys2Proof.Machine.execSetWatermark value s
  | .setTime broadcast time => Sys2Proof.Machine.execSetTime broadcast time s
  | .resetLine line => Sys2Proof.Machine.execResetLine line s
  | .supplyOn line => Sys2Proof.Machine.execSupplyOn line s
  | .resetPart => Sys2Proof.Machine.execResetPart s
  | .powerOn addressPins speedPins => Sys2Proof.Machine.execPowerOn addressPins speedPins s
  | .resetnAsserted addressPins speedPins => Sys2Proof.Machine.execResetnAsserted addressPins speedPins s
  | .hostCharReceived character => Sys2Proof.Machine.execHostCharReceived character s
  | .hostFrameEnd => Sys2Proof.Machine.execHostFrameEnd s
  | .replyStart => Sys2Proof.Machine.execReplyStart s
  | .replySent => Sys2Proof.Machine.execReplySent s
  | .loadComplete => Sys2Proof.Machine.execLoadComplete s
  | .saveComplete => Sys2Proof.Machine.execSaveComplete s
  | .planComplete => Sys2Proof.Machine.execPlanComplete s
  | .consentTimeout => Sys2Proof.Machine.execConsentTimeout s
  | .moveTimerExpiry valve => Sys2Proof.Machine.execMoveTimerExpiry valve s
  | .surgeStall valve => Sys2Proof.Machine.execSurgeStall valve s
  | .dwellEnd valve => Sys2Proof.Machine.execDwellEnd valve s
  | .crewOverdue valve => Sys2Proof.Machine.execCrewOverdue valve s
  | .exchangeStart line => Sys2Proof.Machine.execExchangeStart line s
  | .fieldRequestSent line => Sys2Proof.Machine.execFieldRequestSent line s
  | .responseWindowExpiry line => Sys2Proof.Machine.execResponseWindowExpiry line s
  | .fieldReplyEnd line characters => Sys2Proof.Machine.execFieldReplyEnd line characters s
  | .fieldUnsolicitedChars line characters => Sys2Proof.Machine.execFieldUnsolicitedChars line characters s
  | .pollDue line address => Sys2Proof.Machine.execPollDue line address s
  | .overcurrentStart line => Sys2Proof.Machine.execOvercurrentStart line s
  | .overcurrentEnd line => Sys2Proof.Machine.execOvercurrentEnd line s
  | .supplyTrip line => Sys2Proof.Machine.execSupplyTrip line s
  | .supplyRetry line => Sys2Proof.Machine.execSupplyRetry line s
  | .timeOnReached line => Sys2Proof.Machine.execTimeOnReached line s
  | .alarmLevelChange input level => Sys2Proof.Machine.execAlarmLevelChange input level s
  | .debounceExpiry input => Sys2Proof.Machine.execDebounceExpiry input s
  | .fieldReplyStart line => Sys2Proof.Machine.execFieldReplyStart line s
  | .timeBaseWrap => Sys2Proof.Machine.execTimeBaseWrap s

end Sys2Proof.Machine
end

