-- ==== Sys2Proof/Safety.lean ====
section
/-! DEFINITION. What counts as a safe run: the conditions that the rules promise of every record the part holds, in the
terms in which the statements are made. Each is decidable on a given state, and each is to be kept by every step. -/

namespace Sys2Proof.Machine

open Sys2Proof

/-- 08 R169, R177: the report unit's ranges, and the attention lines as the queue, the routes and the watermark give
them. -/
abbrev ReportUnit.Sound (u : ReportUnit) : Prop :=
  u.queue.length ≤ 32 ∧ u.lost ≤ 255 ∧ (∀ k : Fin 23, u.kinds[k].maskedCount ≤ 255)
    ∧ 1 ≤ u.watermark ∧ u.watermark ≤ 32 ∧ u.timeBase ≤ 4294967295
    ∧ u.attention0 = u.attention false ∧ u.attention1 = u.attention true

/-- 06 R143, R144: a station record's ranges, and its state as the score gives it: OFFLINE exactly when the score is 160,
DEGRADED exactly when it is 64 to 159, and ONLINE otherwise. -/
abbrev StationRec.Sound (r : StationRec) : Prop :=
  r.score ≤ 160 ∧ (r.state = .offline ↔ r.score = 160) ∧ (r.state = .degraded ↔ 64 ≤ r.score ∧ r.score ≤ 159)
    ∧ r.probeRun ≤ 8 ∧ r.pressure.getD 0 ≤ 4000

/-- 06 R143: every station record is sound. -/
abbrev State.StationsSound (s : State) : Prop := ∀ e ∈ s.stations, e.2.Sound

/-- 05 R121: an urgent queue holds at most 16 commands, no two for the same valve channel; the counts keep their
ranges. -/
abbrev LineControl.Sound (c : LineControl) : Prop :=
  c.queue.length ≤ 16 ∧ (c.queue.map fun e => (e.address, e.channel)).Nodup ∧ c.urgentCount ≤ 255 ∧ c.errorLog ≤ 255

/-- 06 R151: a supply's counts keep their ranges. -/
abbrev Supply.Sound (u : Supply) : Prop := u.tripCount ≤ 15 ∧ u.overTime ≤ 255

/-- 05 R121, 06 R151: every line is sound. -/
abbrev State.LinesSound (s : State) : Prop :=
  ∀ l ∈ allLines, (s.control.get l).Sound ∧ (s.supply.get l).Sound

/-- 04 R85, R90: a valve's position is 0 to 1000 or UNKNOWN, and its holder set holds no number twice and is kept in
ascending number. -/
abbrev ValveDyn.Sound (d : ValveDyn) : Prop := d.position.getD 0 ≤ 1000 ∧ List.Pairwise (· < ·) d.holders

/-- 04 R84: the dynamic records stand in their canonical form and each is sound. -/
abbrev State.ValvesSound (s : State) : Prop :=
  Table.Wf s.drive.valves ∧ (∀ e ∈ s.drive.valves, e.2 ≠ blankDyn) ∧ ∀ e ∈ s.drive.valves, e.2.Sound

/-- 01 R1: the three tables of the map stand in their canonical form. -/
abbrev NetworkMap.Sound (m : NetworkMap) : Prop := Table.Wf m.segments ∧ Table.Wf m.valves ∧ Table.Wf m.stations

/-- The map that an image holds, with its sum or with its save under way. -/
def Image.content : Image → Option NetworkMap
  | .written content _ => some content
  | .saving content => some content
  | .blank => none

/-- The map and the map that the image holds are sound. -/
abbrev State.MapsSound (s : State) : Prop := s.map.Sound ∧ ∀ content ∈ s.store.image.content, content.Sound

/-- 03 R49, R50: at most four incidents, in slots 0 to 3, with numbers 1 to 255 of which no two are the same; the counter
stands at a number that no incident has. -/
abbrev State.SlotsSound (s : State) : Prop :=
  Table.Wf s.engine.slots ∧ (∀ e ∈ s.engine.slots, e.1 ≤ 3 ∧ 1 ≤ e.2.number ∧ e.2.number ≤ 255)
    ∧ (s.engine.slots.map (·.2.number)).Nodup
    ∧ 1 ≤ s.engine.counter ∧ s.engine.counter ≤ 255 ∧ s.engine.counter ∉ s.engine.slots.map (·.2.number)

/-- The incidents of active state (00, "Terms"). -/
abbrev State.activeIncidents (s : State) : List Incident :=
  (s.engine.slots.map (·.2)).filter fun inc => inc.state.active

/-- 03 R58: a segment lies in the region of at most one active incident, and no region holds a segment twice. -/
abbrev State.RegionsDisjoint (s : State) : Prop := (s.activeIncidents.flatMap (·.region)).Nodup

/-- 03 R65: the consent queue holds each incident in AWAIT_CONSENT once, and nothing else. -/
abbrev State.ConsentSound (s : State) : Prop :=
  s.engine.consentQueue.Nodup
    ∧ (∀ n ∈ s.engine.consentQueue, ∃ e ∈ s.engine.slots, e.2.number = n ∧ e.2.state = .awaitConsent)
    ∧ ∀ e ∈ s.engine.slots, e.2.state = .awaitConsent → e.2.number ∈ s.engine.consentQueue

/-- 02 R24, R25, R26, R29: the plan queue holds no number twice and not the number of the plan in progress; it is empty
while no plan is in progress; and every number in either place is that of an incident that is not RESTORING. -/
abbrev State.PlannerSound (s : State) : Prop :=
  s.planner.queue.Nodup
    ∧ (∀ p ∈ s.planner.plan, p.incident ∉ s.planner.queue) ∧ (s.planner.plan = none → s.planner.queue = [])
    ∧ ∀ n ∈ s.planner.queue ++ (s.planner.plan.map (·.incident)).toList,
        ∃ e ∈ s.engine.slots, e.2.number = n ∧ e.2.state ≠ .restoring

/-- 04 R90: every incident named in a valve's holder set is in a state other than FREE; the valves that a RESTORING
incident still holds are on its restore list (03 R79). -/
abbrev State.HoldersSound (s : State) : Prop :=
  ∀ d ∈ s.drive.valves, ∀ n ∈ d.2.holders,
    ∃ e ∈ s.engine.slots, e.2.number = n ∧ (e.2.state = .restoring → d.1 ∈ e.2.restoreList)

/-- 10 R195: while the part is not in RUN, every incident is FREE. -/
abbrev State.IdleOutsideRun (s : State) : Prop := s.store.mode ≠ .run → s.engine.slots = []

/-- 09 R181: the longest frame is 246 bytes. -/
abbrev State.FrameFits (s : State) : Prop := s.link.frame.length ≤ 246

/-- A command on a state answers with a status and the bytes after it, and leaves everything but the reply buffer and the
receiver as in `t`. -/
abbrev Answers (i : Instr) (s : State) (request : Byte) (status : Status) (data : List Byte) (t : State) : Prop :=
  exec i s = .next (answered request ⟨t, status, data⟩)

/-- A command on a state leads to the next state `t`. -/
abbrev Yields (i : Instr) (s t : State) : Prop := exec i s = .next t

/-! ### The requests as the host sends them (09, section 9.5) -/

/-- 09, section 9.5: the kind of a request's frame; none for an event. -/
def requestKind : Instr → Option Byte
  | .putSegment _ _ _ _ => some 0x01#8
  | .putValve _ => some 0x02#8
  | .putStation _ _ _ _ _ _ => some 0x03#8
  | .putLine _ _ _ _ _ _ => some 0x04#8
  | .putAlarm _ _ _ _ _ => some 0x05#8
  | .putPolicy _ _ _ _ _ _ => some 0x06#8
  | .dropSegment _ => some 0x07#8
  | .dropValve _ => some 0x08#8
  | .dropStation _ _ => some 0x09#8
  | .clearMap => some 0x0A#8
  | .enterConfig => some 0x10#8
  | .leaveConfig => some 0x11#8
  | .saveMap => some 0x12#8
  | .readSegment _ _ => some 0x20#8
  | .readValve _ => some 0x21#8
  | .readStation _ _ => some 0x22#8
  | .readLine _ => some 0x23#8
  | .readIncident _ => some 0x24#8
  | .readPlan _ _ _ => some 0x25#8
  | .readPart => some 0x26#8
  | .declare _ _ _ => some 0x30#8
  | .consent _ _ => some 0x31#8
  | .crewResult _ _ => some 0x32#8
  | .replan _ => some 0x33#8
  | .restore _ => some 0x34#8
  | .setOperability _ _ => some 0x35#8
  | .release _ _ => some 0x36#8
  | .fetch => some 0x40#8
  | .setMask _ _ => some 0x41#8
  | .setRoute _ _ => some 0x42#8
  | .setWatermark _ => some 0x43#8
  | .setTime _ _ => some 0x50#8
  | .resetLine _ => some 0x51#8
  | .supplyOn _ => some 0x52#8
  | .resetPart => some 0x53#8
  | .powerOn _ _ => none
  | .resetnAsserted _ _ => none
  | .hostCharReceived _ => none
  | .hostFrameEnd => none
  | .replyStart => none
  | .replySent => none
  | .loadComplete => none
  | .saveComplete => none
  | .planComplete => none
  | .consentTimeout => none
  | .moveTimerExpiry _ => none
  | .surgeStall _ => none
  | .dwellEnd _ => none
  | .crewOverdue _ => none
  | .exchangeStart _ => none
  | .fieldRequestSent _ => none
  | .responseWindowExpiry _ => none
  | .fieldReplyEnd _ _ => none
  | .fieldUnsolicitedChars _ _ => none
  | .pollDue _ _ => none
  | .overcurrentStart _ => none
  | .overcurrentEnd _ => none
  | .supplyTrip _ => none
  | .supplyRetry _ => none
  | .timeOnReached _ => none
  | .alarmLevelChange _ _ => none
  | .debounceExpiry _ => none
  | .fieldReplyStart _ => none
  | .timeBaseWrap => none

/-- 09 R184: the two kinds that may be sent as a broadcast, and are then not answered. -/
def isBroadcast : Instr → Bool
  | .release broadcast _ => broadcast
  | .setTime broadcast _ => broadcast
  | _ => false

/-- 09, section 9.5 and R190: a request's payload in bytes, every field in the order of the catalogue. -/
def requestPayload : Instr → List Byte
  | .putSegment segment customers source priority => be2 segment ++ be2 customers ++ be1 source ++ be1 priority
  | .putValve f =>
    be2 f.valve ++ be2 f.endA ++ be2 f.endB ++ be1 f.kind ++ be1 f.normalState ++ be1 f.closingRank ++ be1 f.stationLine
      ++ be1 f.stationAddress ++ be1 f.channel ++ be2 f.strokeTime ++ be2 f.throttlePoint ++ be1 f.slowRatio
      ++ be2 f.surgeCeiling ++ be2 f.surgeHysteresis ++ be2 f.maximumHold ++ be1 f.torqueRetries
      ++ be1 f.chargeOpening ++ be2 f.chargeDwell
  | .putStation line address pollClass multiplier extraDelay tap =>
    be1 line ++ be1 address ++ be1 pollClass ++ be1 multiplier ++ be1 extraDelay ++ be1 tap
  | .putLine line enabled speed blanking retry tripLimit =>
    be1 line ++ be1 enabled ++ be1 speed ++ be1 blanking ++ be1 retry ++ be1 tripLimit
  | .putAlarm input segment activeLevel debounce action =>
    be1 input ++ be2 segment ++ be1 activeLevel ++ be1 debounce ++ be1 action
  | .putPolicy threshold timeout timeoutAction crewTimeout crewAction parallel =>
    be4 threshold ++ be2 timeout ++ be1 timeoutAction ++ be2 crewTimeout ++ be1 crewAction ++ be1 parallel
  | .dropSegment segment => be2 segment
  | .dropValve valve => be2 valve
  | .dropStation line address => be1 line ++ be1 address
  | .readSegment segment start => be2 segment ++ be2 start
  | .readValve valve => be2 valve
  | .readStation line address => be1 line ++ be1 address
  | .readLine line => be1 line
  | .readIncident slot => be1 slot
  | .readPlan incident list start => be1 incident ++ be1 list ++ be2 start
  | .declare segment group always => be2 segment ++ be1 group ++ be1 always
  | .consent incident answer => be1 incident ++ be1 answer
  | .crewResult valve result => be2 valve ++ be1 result
  | .replan incident => be1 incident
  | .restore incident => be1 incident
  | .setOperability valve value => be2 valve ++ be1 value
  | .release _ code => be1 code
  | .setMask kind setting => be1 kind ++ be1 setting
  | .setRoute kind line => be1 kind ++ be1 line
  | .setWatermark value => be1 value
  | .setTime _ time => be4 time
  | .resetLine line => be1 line
  | .supplyOn line => be1 line
  | _ => []

/-- The request frame of a unicast or broadcast request to an address (09 R191). -/
def requestFrameTo (address : Nat) (kind : Byte) (i : Instr) : List Byte :=
  frameOf hostMarker address kind (requestPayload i)

/-- 09 R181: the receiver back in IDLE, with no frame. -/
abbrev receiverIdle (s : State) : State := { s with link := { s.link with receiver := .idle, frame := [] } }

/-- 10 R196, R199, R201 and the owners' rules: the modes in which a request is taken. -/
def takenIn : Instr → Mode → Bool
  | .putSegment _ _ _ _, m => m = .config
  | .putValve _, m => m = .config
  | .putStation _ _ _ _ _ _, m => m = .config
  | .putLine _ _ _ _ _ _, m => m = .config
  | .putAlarm _ _ _ _ _, m => m = .config
  | .putPolicy _ _ _ _ _ _, m => m = .config
  | .dropSegment _, m => m = .config
  | .dropValve _, m => m = .config
  | .dropStation _ _, m => m = .config
  | .clearMap, m => m = .config
  | .leaveConfig, m => m = .config
  | .saveMap, m => m = .config
  | .enterConfig, m => m = .run
  | .readSegment _ _, m => m ≠ .starting
  | .readValve _, m => m ≠ .starting
  | .readStation _ _, m => m ≠ .starting
  | .readLine _, m => m ≠ .starting
  | .readPlan _ _ _, m => m = .run
  | .declare _ _ _, m => m = .run
  | .consent _ _, m => m = .run
  | .crewResult _ _, m => m = .run
  | .replan _, m => m = .run
  | .restore _, m => m = .run
  | .setOperability _ _, m => m = .run ∨ m = .config
  | .release _ _, m => m = .run
  | .resetLine _, m => m = .run
  | .supplyOn _, m => m = .run
  | _, _ => true

/-! ### What a map must be to pass the validation (10 R201) -/

/-- 10 R201: a present valve passes: its ends, and for an ACTUATED valve its station and its channel. -/
abbrev NetworkMap.ValveValid (m : NetworkMap) (v : Nat) (r : ValveRec) : Prop :=
  Table.has m.segments r.endA = true ∧ (r.endB = 0 ∨ Table.has m.segments r.endB = true) ∧ r.endB ≠ r.endA
    ∧ ∀ p, r.kind = .actuated p →
        Table.has m.stations (stationKey p.line p.address) = true
          ∧ ∀ e ∈ m.valves, e.1 < v → ∀ q, e.2.kind = .actuated q →
              ¬(q.line = p.line ∧ q.address = p.address ∧ q.channel = p.channel)

/-- 10 R201: a present station passes: its line is enabled. -/
abbrev NetworkMap.StationValid (m : NetworkMap) (key : Nat) : Prop :=
  ∃ l, lineOfKey key = some l ∧ (m.lines.get l).enabled = true

/-- 10 R201: an alarm input passes: its segment is 0 or present. -/
abbrev NetworkMap.AlarmValid (m : NetworkMap) (i : Fin 8) : Prop :=
  m.alarms[i].segment = 0 ∨ Table.has m.segments m.alarms[i].segment = true

/-- 10 R201: the whole map passes. -/
abbrev NetworkMap.Valid (m : NetworkMap) : Prop :=
  (∀ e ∈ m.valves, m.ValveValid e.1 e.2) ∧ (∀ e ∈ m.stations, m.StationValid e.1) ∧ ∀ i, m.AlarmValid i

/-- 10 R201: the record that is named, by kind and identifier: the first that fails, valves before stations before alarm
inputs, each group in ascending identifier. -/
def NetworkMap.FirstFault (m : NetworkMap) (kind identifier : Nat) : Prop :=
  (kind = 2 ∧ (∃ r, (identifier, r) ∈ m.valves ∧ ¬m.ValveValid identifier r)
      ∧ ∀ e ∈ m.valves, e.1 < identifier → m.ValveValid e.1 e.2)
    ∨ (kind = 3 ∧ (∀ e ∈ m.valves, m.ValveValid e.1 e.2)
        ∧ (∃ r, (identifier, r) ∈ m.stations ∧ ¬m.StationValid identifier)
        ∧ ∀ e ∈ m.stations, e.1 < identifier → m.StationValid e.1)
    ∨ (kind = 4 ∧ (∀ e ∈ m.valves, m.ValveValid e.1 e.2) ∧ (∀ e ∈ m.stations, m.StationValid e.1)
        ∧ ∃ i : Fin 8, identifier = i.val + 1 ∧ ¬m.AlarmValid i ∧ ∀ j < i, m.AlarmValid j)

/-- 01 R6, R7, R15: the fields of a PUT_VALVE are in range; those of the actuated part only for an ACTUATED valve. -/
abbrev FieldsValid (f : ValveFields) : Prop :=
  (1 ≤ f.valve ∧ f.valve ≤ 1023) ∧ (1 ≤ f.endA ∧ f.endA ≤ 511) ∧ (f.endB ≤ 511 ∧ f.endB ≠ f.endA) ∧ f.kind ≤ 1
    ∧ f.normalState ≤ 1 ∧ f.closingRank ≤ 15
    ∧ (f.kind = 0 →
        f.stationLine ≤ 3 ∧ (1 ≤ f.stationAddress ∧ f.stationAddress ≤ 16) ∧ (1 ≤ f.channel ∧ f.channel ≤ 4)
          ∧ (10 ≤ f.strokeTime ∧ f.strokeTime ≤ 1000) ∧ (500 ≤ f.throttlePoint ∧ f.throttlePoint ≤ 990)
          ∧ (1 ≤ f.slowRatio ∧ f.slowRatio ≤ 8)
          ∧ (f.surgeCeiling = 0 ∨ (50 ≤ f.surgeCeiling ∧ f.surgeCeiling ≤ 2500))
          ∧ (10 ≤ f.surgeHysteresis ∧ f.surgeHysteresis ≤ 500)
          ∧ (f.surgeCeiling = 0 ∨ f.surgeHysteresis < f.surgeCeiling) ∧ f.maximumHold ≤ 3600
          ∧ f.torqueRetries ≤ 3 ∧ (10 ≤ f.chargeOpening ∧ f.chargeOpening ≤ 200) ∧ f.chargeDwell ≤ 600)

/-! ### Supply, as reachability (02 R39 to R41) -/

/-- 02 R41: a segment is supplied, with a boundary set shut and a region cut off: it carries SOURCE, or lies behind a
passable valve from a supplied segment; and it is not out. -/
inductive State.Fed (s : State) (number : Nat) (shut cut : List Nat) : Nat → Prop where
  | source {x : Nat} {r : SegmentRec} : (x, r) ∈ s.map.segments → r.source = true → s.isOut number cut x = false →
      State.Fed s number shut cut x
  | through {x y : Nat} {e : Nat × ValveRec} : State.Fed s number shut cut x → e ∈ s.map.valves →
      s.passable number shut e = true → (e.2.endA = x ∧ e.2.endB = y ∨ e.2.endB = x ∧ e.2.endA = y) → y ≠ 0 →
      s.isOut number cut y = false → State.Fed s number shut cut y

/-! ### Fields, judged one after the other (01 R13, 09 R185) -/

/-- 09 R187: with these ranges for its fields, counted on from a number, a request answers BAD_FIELD and names the first
field that is out of its range. -/
def NamesFirstBad (i : Instr) (k : Byte) (s : State) : Nat → List Prop → Prop
  | _, [] => True
  | n, inRange :: rest =>
    (¬inRange → Answers i s k .badField [BitVec.ofNat 8 n, 0#8, 0#8, 0#8] s)
      ∧ (inRange → NamesFirstBad i k s (n + 1) rest)

/-! ### The image's sum (10 R197) -/

/-- 10 R197: the sum of a content's 16-bit words, modulo 65536. -/
abbrev sum16 (content : NetworkMap) : BitVec 16 :=
  BitVec.ofNat 16 ((Config.imageWords content).map BitVec.toNat).sum

/-! ### Reports -/

/-- 08 R171: the report unit after a block has raised a report now. -/
abbrev State.raised (s : State) (kind : ReportKind) (subject : Subject) (detail : Nat) (values : List (Option Nat)) :
    ReportUnit :=
  s.reports.raise ⟨kind, s.reports.timeBase, subject, detail, values⟩

/-- A report is kept: it waits, or it was masked, or the queue is full (08 R171). -/
abbrev ReportUnit.Keeps (u : ReportUnit) (r : Report) : Prop :=
  r ∈ u.queue ∨ (u.kind r.kind).masked = true ∨ 32 ≤ u.queue.length

/-! ### Alarm inputs, one after the other (07) -/

/-- A relation taken through a list, each item on the state that the one before left. -/
def Through {α : Type} (taken : α → State → State → Prop) : List α → State → State → Prop
  | [], s, t => t = s
  | x :: rest, s, t => ∃ u, taken x s u ∧ Through taken rest u t

/-- 07 R163: an ALARM_INPUT record of an input as it stands. -/
abbrev State.alarmReport (s : State) (i : Fin 8) (detail segment incident deferred : Nat) : Report :=
  ⟨.alarmInput, s.reports.timeBase, .input (i.val + 1), detail,
    [some segment, some incident, some (levelCode s.alarms[i].debounced), some deferred]⟩

/-- 07 R164: what a declaration from an input leads to: it is ABSORBED by the active incident whose region holds the
segment, or meets NO_ROOM, or creates an incident in the lowest FREE slot. -/
inductive AlarmDeclares (i : Fin 8) (segment deferred : Nat) (s t : State) : Prop where
  | absorbed (inc : Incident) : inc ∈ s.activeIncidents → segment ∈ inc.region →
      t = { s with reports := s.reports.raise (s.alarmReport i 2 segment inc.number deferred) } →
      AlarmDeclares i segment deferred s t
  | noRoom : (∀ inc ∈ s.activeIncidents, segment ∉ inc.region) → (∀ k ≤ 3, s.slot k ≠ none) →
      t = { s with reports := s.reports.raise (s.alarmReport i 3 segment 0 deferred) } →
      AlarmDeclares i segment deferred s t
  | declared (k : Nat) (inc : Incident) : (∀ x ∈ s.activeIncidents, segment ∉ x.region) → k ≤ 3 →
      s.slot k = none → (∀ j < k, s.slot j ≠ none) →
      t.slot k = some inc → (∀ j ≠ k, t.slot j = s.slot j) →
      inc.number = s.engine.counter → inc.state = .planning → inc.burst = segment → inc.region = [segment] →
      inc.origin = .alarm (i.val + 1) → inc.group = 0 → inc.always = false → inc.declaredAt = s.reports.timeBase →
      t.planner.plan.isSome → t.engine = { s.engine with slots := t.engine.slots, counter := t.engine.counter } →
      t = { s with
        engine := t.engine, planner := t.planner
        reports := (s.raised .incidentState (.incident inc.number) 1 [some 0, some 0, some 1, some 0]).raise
          (s.alarmReport i 1 segment inc.number deferred) } →
      AlarmDeclares i segment deferred s t

/-- 07 R166: what the entry to RUN makes of an input: nothing without its deferred-declare flag; else the flag is cleared,
and the declaration is made, or is CANCELLED by the settings as they then stand. -/
inductive DeferredTaken (i : Fin 8) (s t : State) : Prop where
  | kept : s.alarms[i].deferred = false → t = s → DeferredTaken i s t
  | cancelled : s.alarms[i].deferred = true →
      ¬(s.map.alarms[i].action = .declare ∧ s.map.alarms[i].segment ≠ 0) →
      t = { s with alarms := s.alarms.set i { s.alarms[i] with deferred := false }
                   reports := s.reports.raise (s.alarmReport i 5 s.map.alarms[i].segment 0 1) } →
      DeferredTaken i s t
  | declared : s.alarms[i].deferred = true → s.map.alarms[i].action = .declare → s.map.alarms[i].segment ≠ 0 →
      AlarmDeclares i s.map.alarms[i].segment 1
        { s with alarms := s.alarms.set i { s.alarms[i] with deferred := false } } t →
      DeferredTaken i s t

/-- 07 R162, R163, R165, R167: what a change of the settings from those before makes of an input outside RUN: nothing while
it stays asserted or not, a report of an assertion or its deferral with the latched flag, or a report of the deassertion. -/
inductive InputJudged (before : State) (i : Fin 8) (s t : State) : Prop where
  | same : before.asserted i = s.asserted i → t = s → InputJudged before i s t
  | reported : before.asserted i = false → s.asserted i = true → s.map.alarms[i].action = .reportOnly →
      t = { s with alarms := s.alarms.set i { s.alarms[i] with latched := true }
                   reports := s.reports.raise (s.alarmReport i 0 s.map.alarms[i].segment 0 0) } →
      InputJudged before i s t
  | deferred : before.asserted i = false → s.asserted i = true → s.map.alarms[i].action = .declare →
      t = { s with alarms := s.alarms.set i { s.alarms[i] with latched := true, deferred := true }
                   reports := s.reports.raise (s.alarmReport i 4 s.map.alarms[i].segment 0 0) } →
      InputJudged before i s t
  | deasserted : before.asserted i = true → s.asserted i = false →
      t = { s with
        reports := s.reports.raise (s.alarmReport i 6
          (if s.map.alarms[i].segment = 0 then before.map.alarms[i].segment else s.map.alarms[i].segment) 0 0) } →
      InputJudged before i s t

/-! ### A good reply to an exchange in flight (05) -/

/-- 05 R124, 09 R192: the exchange in flight on a line awaits the end of its reply, the payload is one of STATION_STATE, and
the valve names a channel of the station asked. -/
abbrev State.Answered (s : State) (l : Line) (x : Exchange) (payload : List Byte) (c v : Nat) (p : ActuatedPart) : Prop :=
  (s.control.get l).exchange = some x ∧ x.replyBegun = true ∧ 1 ≤ x.address ∧ x.address ≤ 16 ∧ payload.length = 14
    ∧ (∀ i ∈ [2, 5, 8, 11], ∀ b ∈ payload[i]?, b.toNat ≤ 7) ∧ 1 ≤ c ∧ c ≤ 4
    ∧ s.valveOfChannel l x.address c = some (v, p)

/-- 09 R192: the end of the STATION_STATE reply of the station asked. -/
abbrev replyEnds (l : Line) (x : Exchange) (payload : List Byte) : Instr :=
  .fieldReplyEnd l ((frameOf 0xC3#8 x.address 0x80#8 payload).map fun b => ⟨b, true⟩)

/-- 05 R128: the record of an exchange that starts. -/
abbrev started (address : Nat) (kind : ExchangeKind) : Exchange :=
  { address := address, kind := kind, sent := false, window := none, replyBegun := false }

/-- 04 R89: a valve's record without its active move. -/
abbrev ValveDyn.unmoved (d : ValveDyn) : ValveDyn :=
  { d with move := none, motion := if d.move = none then d.motion else .idle }

/-- 03 R79, R80: no RESTORING incident has a valve on its restore list, so that none lets go of it now. -/
abbrev State.Unlisted (s : State) (v : Nat) : Prop := ∀ e ∈ s.engine.slots, e.2.state = .restoring → v ∉ e.2.restoreList

/-- 03 R80: a valve's move is an opening move of an incident. -/
abbrev State.Opens (s : State) (number v : Nat) : Prop :=
  ∃ m, (s.dyn v).move = some m ∧ m.direction = .openUp ∧ m.starter = some number

/-- 03 R80, R81: a restore that is not over waits for its opening moves: with valves left on its restore list as many as the
policy allows are in flight, and with none left at least one is. -/
abbrev State.RestoreWaits (s : State) (inc : Incident) : Prop :=
  (inc.restoreList ≠ [] →
      ∃ moving : List Nat, moving.Nodup ∧ s.map.policy.parallel ≤ moving.length ∧ ∀ v ∈ moving, s.Opens inc.number v)
    ∧ (inc.restoreList = [] → ∃ v, s.Opens inc.number v)

/-- 03 R80, R81: from `s` to `t` a restore has gone as far as it goes: while at most one incident is RESTORING, one that still
is waits for its opening moves. -/
abbrev RestoreGoesOn (s t : State) : Prop :=
  s.SlotsSound → s.ValvesSound → (s.engine.slots.filter fun e => e.2.state = .restoring).length ≤ 1 →
    ∀ e ∈ t.engine.slots, e.2.state = .restoring → t.RestoreWaits e.2

/-- 03 R63: an incident is still in its slot and is to be replanned. -/
abbrev State.Replans (t : State) (e : Nat × Incident) : Prop :=
  ∃ u, t.slot e.1 = some u ∧ u.number = e.2.number ∧ u.replanPending = true

/-- 04 R89: an incident waits for release or consent with a valve in its boundary set. -/
abbrev Incident.Awaits (inc : Incident) (v : Nat) : Prop :=
  (inc.state = .armed ∨ inc.state = .awaitConsent) ∧ v ∈ inc.boundary

/-- 04 R89: a valve that becomes unreachable raises VALVE_FAILED: one with a move, and an unconfirmed one without that is held
or in the boundary set of an incident in ARMED or AWAIT_CONSENT. -/
abbrev State.FailsAtLoss (s : State) (v : Nat) : Prop :=
  (s.dyn v).move ≠ none
    ∨ (s.dyn v).confirmed = false ∧ ((s.dyn v).holders ≠ [] ∨ ∃ e ∈ s.engine.slots, e.2.Awaits v)

/-- 04 R89: the record of a valve that has become unreachable: without its move, with the model's own mark whether VALVE_FAILED
was raised for it (log 37). -/
abbrev State.lostDyn (s : State) (v : Nat) : ValveDyn :=
  { (s.dyn v).unmoved with toldUnreachable := decide (s.FailsAtLoss v) }

/-- 04 R89, R110, 03 R63: what follows in `t` for a valve that becomes unreachable in `s`. VALVE_FAILED with cause UNREACHABLE
is raised for a valve with a move, and for an unconfirmed one without that is held or in the boundary set of an incident in
ARMED or AWAIT_CONSENT; the incidents that rely on it, RESTORING ones apart, are replanned, but not for an opening move or an
ownerless one. -/
abbrev FailsUnreachable (s t : State) (v : Nat) : Prop :=
  let d := s.dyn v
  let failed (starter : Nat) : Report :=
    ⟨.valveFailed, s.reports.timeBase, .valve v, 2, [d.position, some d.holders.length, some starter]⟩
  let replanned : Prop := ∀ e ∈ s.engine.slots, e.2.state ≠ .restoring → e.2.number ∈ d.holders ∨ e.2.Awaits v → t.Replans e
  (∀ m, d.move = some m →
      t.reports.Keeps (failed (m.starter.getD 0)) ∧ (m.direction = .close → m.starter ≠ none → replanned))
    ∧ (d.move = none → d.confirmed = false → (d.holders ≠ [] ∨ ∃ e ∈ s.engine.slots, e.2.Awaits v) →
        t.reports.Keeps (failed 0) ∧ replanned)

/-- 10 R198: what becomes of the mode, from `s` to `t`, when the exchange in flight on a line ends: in QUIESCING, with no other
line's exchange in flight, it becomes CONFIG and MODE_CHANGED is raised; else the store is left as it is. -/
abbrev EndsQuiescing (l : Line) (s t : State) : Prop :=
  let last := s.store.mode = .quiescing ∧ ∀ k ≠ l, (s.control.get k).exchange = none
  (last → t.store = { s.store with mode := .config }
      ∧ t.reports.Keeps ⟨.modeChanged, s.reports.timeBase, .part, 3, [some 2]⟩)
    ∧ (¬last → t.store = s.store)

/-- Nothing but what the incident engine, the planner, the valve drive, the line controllers and the report unit hold has
changed. -/
abbrev OnlyControl (s t : State) : Prop :=
  t = { s with engine := t.engine, planner := t.planner, drive := t.drive, control := t.control, reports := t.reports,
               freeCount := t.freeCount }

end Sys2Proof.Machine
end

