-- ==== Sys2Proof/WellFormed.lean ====
section
/-! DEFINITION. Which commands are well formed: every payload field of a request fits its bytes in the catalogue (09,
section 9.5), and every event names a thing that exists (00, "Identifiers"). A field that fits its bytes may still be
out of its range: the owner then refuses the request with BAD_FIELD, which is a meaning and no matter of form. -/

namespace Sys2Proof

/-- Fits one byte. -/
abbrev fits1 (n : Nat) : Bool := n < 256
/-- Fits two bytes. -/
abbrev fits2 (n : Nat) : Bool := n < 65536
/-- Fits four bytes. -/
abbrev fits4 (n : Nat) : Bool := n < 4294967296
/-- A valve id (00). -/
abbrev isValveId (n : Nat) : Bool := 1 ≤ n && n ≤ 1023
/-- A station address (00). -/
abbrev isStationAddress (n : Nat) : Bool := 1 ≤ n && n ≤ 16
/-- An alarm input's number (00). -/
abbrev isInputNumber (n : Nat) : Bool := 1 ≤ n && n ≤ 8

/-- The fields of PUT_VALVE fit their bytes (09, section 9.5). -/
def ValveFields.fits (f : ValveFields) : Bool :=
  fits2 f.valve && fits2 f.endA && fits2 f.endB && fits1 f.kind && fits1 f.normalState && fits1 f.closingRank
    && fits1 f.stationLine && fits1 f.stationAddress && fits1 f.channel && fits2 f.strokeTime
    && fits2 f.throttlePoint && fits1 f.slowRatio && fits2 f.surgeCeiling && fits2 f.surgeHysteresis
    && fits2 f.maximumHold && fits1 f.torqueRetries && fits1 f.chargeOpening && fits2 f.chargeDwell

/-- The well-formed commands. -/
def Instr.wellFormed : Instr → Bool
  | .putSegment seg cust src pri => fits2 seg && fits2 cust && fits1 src && fits1 pri
  | .putValve f => f.fits
  | .putStation l a c m x t => fits1 l && fits1 a && fits1 c && fits1 m && fits1 x && fits1 t
  | .putLine l e s b r t => fits1 l && fits1 e && fits1 s && fits1 b && fits1 r && fits1 t
  | .putAlarm i seg lv db act => fits1 i && fits2 seg && fits1 lv && fits1 db && fits1 act
  | .putPolicy th tm ta ct ca p => fits4 th && fits2 tm && fits1 ta && fits2 ct && fits1 ca && fits1 p
  | .dropSegment seg => fits2 seg
  | .dropValve v => fits2 v
  | .dropStation l a => fits1 l && fits1 a
  | .clearMap => true
  | .enterConfig => true
  | .leaveConfig => true
  | .saveMap => true
  | .readSegment seg st => fits2 seg && fits2 st
  | .readValve v => fits2 v
  | .readStation l a => fits1 l && fits1 a
  | .readLine l => fits1 l
  | .readIncident slot => fits1 slot
  | .readPlan n l st => fits1 n && fits1 l && fits2 st
  | .readPart => true
  | .declare seg g al => fits2 seg && fits1 g && fits1 al
  | .consent n ans => fits1 n && fits1 ans
  | .crewResult v r => fits2 v && fits1 r
  | .replan n => fits1 n
  | .restore n => fits1 n
  | .setOperability v o => fits2 v && fits1 o
  | .release _ c => fits1 c
  | .fetch => true
  | .setMask k st => fits1 k && fits1 st
  | .setRoute k l => fits1 k && fits1 l
  | .setWatermark w => fits1 w
  | .setTime _ t => fits4 t
  | .resetLine l => fits1 l
  | .supplyOn l => fits1 l
  | .resetPart => true
  | .powerOn ap sp => ap < 64 && sp < 4
  | .resetnAsserted ap sp => ap < 64 && sp < 4
  | .hostCharReceived _ => true
  | .hostFrameEnd => true
  | .replyStart => true
  | .replySent => true
  | .loadComplete => true
  | .saveComplete => true
  | .planComplete => true
  | .consentTimeout => true
  | .moveTimerExpiry v => isValveId v
  | .surgeStall v => isValveId v
  | .dwellEnd v => isValveId v
  | .crewOverdue v => isValveId v
  | .exchangeStart _ => true
  | .fieldRequestSent _ => true
  | .responseWindowExpiry _ => true
  | .fieldReplyEnd _ chars => chars ≠ []
  | .fieldUnsolicitedChars _ chars => chars ≠ []
  | .pollDue _ a => isStationAddress a
  | .overcurrentStart _ => true
  | .overcurrentEnd _ => true
  | .supplyTrip _ => true
  | .supplyRetry _ => true
  | .timeOnReached _ => true
  | .alarmLevelChange i _ => isInputNumber i
  | .debounceExpiry i => isInputNumber i
  | .fieldReplyStart _ => true
  | .timeBaseWrap => true

end Sys2Proof
end

