-- ==== Sys2Proof/Certificates/Slice0/Obligations.lean ====
section
/-! DEFINITION. The statements for the provers. `Answers i s k st d t` says that the request `i` answers on `s` with the
status `st` and the bytes `d`, in a reply to a request of kind `k`, and leaves everything but the reply buffer and the
receiver as in `t`; `Yields i s t` says that the event `i` leads from `s` to `t`. -/

open Sys2Proof Sys2Proof.Machine

/-! ### Steps and answers -/

/-- A step takes the command at the front of the queue and runs it on the state with the rest of the queue. -/
def Obligations.FrontCommandRuns : Prop :=
  ∀ (c : Instr) (rest : List Instr) (s : State),
    step { s with pending := c :: rest } = exec c { s with pending := rest }

/-- A step on an empty queue is a millisecond of elapsed time (the model's choice, log 3). In it count the open response
windows, the overcurrent times of supplies that are ON, the consent timer, the RUNNING move timers, the hold elapsed of
HOLDING valves, the dwell left in DWELL, the crew timers, the retry left in RUN, the time on and the debounce timers, all in
milliseconds; the time base counts each hundredth, a tenth of a second. An event joins the queue exactly when its counter
reaches its mark (an overcurrent passes the blanking time a millisecond after reaching it, the model's choice, log 60), in an
order that is not stated here (log 44), and nothing else joins it or changes. -/
def Obligations.IdleStepCountsElapsedTime : Prop :=
  ∀ s : State, s.pending = [] → Table.Wf s.drive.valves →
    let tenth : Bool := decide ((s.elapsed + 1) % 100 = 0)
    ∃ t, step s = .next t
      ∧ t = { s with
          elapsed := s.elapsed + 1
          reports := { s.reports with
            timeBase := if tenth then min 4294967295 (s.reports.timeBase + 1) else s.reports.timeBase }
          engine := { s.engine with consentLeft := s.engine.consentLeft.map (· - 1) }
          drive := { s.drive with
            valves := s.drive.valves.map fun e => (e.1,
              { e.2 with
                crewLeft := e.2.crewLeft.map (· - 1)
                move := e.2.move.map fun m =>
                  { m with
                    timerLeft := if m.standing = .running then m.timerLeft - 1 else m.timerLeft
                    holdElapsed := if e.2.motion = .holding then m.holdElapsed + 1 else m.holdElapsed
                    dwellLeft := if e.2.motion = .dwell then m.dwellLeft - 1 else m.dwellLeft } }) }
          supply := t.supply, control := t.control, alarms := t.alarms, pending := t.pending }
      ∧ (∀ l, t.control.get l = { s.control.get l with
          exchange := (s.control.get l).exchange.map fun x => { x with window := x.window.map (· - 1) } })
      ∧ (∀ l, t.supply.get l = { s.supply.get l with
          overTime := if (s.supply.get l).state = .on ∧ (s.supply.get l).overcurrent = true
            then min 255 ((s.supply.get l).overTime + 1) else (s.supply.get l).overTime
          retryLeft := if s.store.mode = .run then (s.supply.get l).retryLeft.map (· - 1) else (s.supply.get l).retryLeft
          timeOn := (s.supply.get l).timeOn.map fun n => min 30000 (n + 1) })
      ∧ (∀ i : Fin 8, t.alarms[i] = { s.alarms[i] with timer := s.alarms[i].timer.map (· - 1) })
      ∧ (.timeBaseWrap ∈ t.pending ↔ tenth = true ∧ 4294967295 ≤ s.reports.timeBase)
      ∧ (.consentTimeout ∈ t.pending ↔ ∃ n ≤ 1, s.engine.consentLeft = some n)
      ∧ (∀ v, .moveTimerExpiry v ∈ t.pending ↔
          ∃ m, (s.dyn v).move = some m ∧ m.standing = .running ∧ m.timerLeft ≤ 1)
      ∧ (∀ v, .surgeStall v ∈ t.pending ↔
          (s.dyn v).motion = .holding ∧ ∃ m p, (s.dyn v).move = some m ∧ s.actuated v = some p
            ∧ p.maximumHold ≠ 0 ∧ m.stallReported = false ∧ p.maximumHold * 1000 ≤ m.holdElapsed + 1)
      ∧ (∀ v, .dwellEnd v ∈ t.pending ↔
          (s.dyn v).motion = .dwell ∧ ∃ m p, (s.dyn v).move = some m ∧ s.actuated v = some p ∧ m.dwellLeft ≤ 1)
      ∧ (∀ v, .crewOverdue v ∈ t.pending ↔ ∃ n ≤ 1, (s.dyn v).crewLeft = some n)
      ∧ (∀ i : Fin 8, .debounceExpiry (i.val + 1) ∈ t.pending ↔ ∃ n ≤ 1, s.alarms[i].timer = some n)
      ∧ (∀ l, .responseWindowExpiry l ∈ t.pending ↔
          ∃ x n, (s.control.get l).exchange = some x ∧ x.window = some n ∧ n ≤ 1)
      ∧ (∀ l, .supplyTrip l ∈ t.pending ↔
          (s.supply.get l).state = .on ∧ (s.supply.get l).overcurrent = true
            ∧ (s.map.lines.get l).blanking ≤ (s.supply.get l).overTime)
      ∧ (∀ l, .supplyRetry l ∈ t.pending ↔ s.store.mode = .run ∧ ∃ n ≤ 1, (s.supply.get l).retryLeft = some n)
      ∧ (∀ l, .timeOnReached l ∈ t.pending ↔ ∃ n, 29999 ≤ n ∧ (s.supply.get l).timeOn = some n)
      ∧ ∀ c ∈ t.pending, c = .timeBaseWrap ∨ c = .consentTimeout
          ∨ (∃ v, c = .moveTimerExpiry v ∨ c = .surgeStall v ∨ c = .dwellEnd v ∨ c = .crewOverdue v)
          ∨ (∃ l, c = .responseWindowExpiry l ∨ c = .supplyTrip l ∨ c = .supplyRetry l ∨ c = .timeOnReached l)
          ∨ ∃ i : Fin 8, c = .debounceExpiry (i.val + 1)

/-- Every unicast request is answered: its reply stands in the reply buffer and the receiver is in REPLYING; and a request
that is refused, with any status but DONE and ACCEPTED, changes nothing else. -/
def Obligations.RequestsAreAnsweredAndRefusalsChangeNothing : Prop :=
  ∀ (i : Instr) (k : Byte) (s : State), requestKind i = some k → isBroadcast i = false →
    ∃ status data t, Answers i s k status data t ∧ (status ≠ .done → status ≠ .accepted → t = s)

/-- A request is refused with WRONG_MODE exactly in the modes in which it is not taken; and in CONFIG, while a save is in
progress, every map edit, SAVE_MAP and LEAVE_CONFIG are refused with BUSY. -/
def Obligations.WrongModeAndBusyGateTheRequests : Prop :=
  ∀ (i : Instr) (k : Byte) (s : State), requestKind i = some k → isBroadcast i = false →
    ((∃ data t, Answers i s k .wrongMode data t) ↔ takenIn i s.store.mode = false)
    ∧ (s.store.mode = .config → s.store.busy = true → (∀ m, takenIn i m = decide (m = .config)) →
        Answers i s k .busy [] s)

/-- Every request with fields that is judged by its fields' ranges refuses a field out of range with BAD_FIELD and names the
first such field in payload order, in the modes in which it is taken: the PUT and DROP requests in CONFIG with no save in
progress (PUT_VALVE naming end B also when it is end A, and the hysteresis also when it is not below a ceiling other than 0,
its actuated fields being judged only for an ACTUATED valve), the requests of RUN, SET_OPERABILITY, the reads, and the
requests of the report unit. -/
def Obligations.FirstBadFieldIsNamed : Prop :=
  (∀ s : State, s.store.mode = .config → s.store.busy = false →
    (∀ segment customers source priority,
      NamesFirstBad (.putSegment segment customers source priority) 0x01#8 s 1
        [1 ≤ segment ∧ segment ≤ 511, customers ≤ 65535, source ≤ 1, priority ≤ 1])
    ∧ (∀ f : ValveFields,
      NamesFirstBad (.putValve f) 0x02#8 s 1
        [1 ≤ f.valve ∧ f.valve ≤ 1023, 1 ≤ f.endA ∧ f.endA ≤ 511, f.endB ≤ 511 ∧ f.endB ≠ f.endA, f.kind ≤ 1,
          f.normalState ≤ 1, f.closingRank ≤ 15, f.kind = 0 → f.stationLine ≤ 3,
          f.kind = 0 → 1 ≤ f.stationAddress ∧ f.stationAddress ≤ 16, f.kind = 0 → 1 ≤ f.channel ∧ f.channel ≤ 4,
          f.kind = 0 → 10 ≤ f.strokeTime ∧ f.strokeTime ≤ 1000,
          f.kind = 0 → 500 ≤ f.throttlePoint ∧ f.throttlePoint ≤ 990,
          f.kind = 0 → 1 ≤ f.slowRatio ∧ f.slowRatio ≤ 8,
          f.kind = 0 → f.surgeCeiling = 0 ∨ (50 ≤ f.surgeCeiling ∧ f.surgeCeiling ≤ 2500),
          f.kind = 0 → (10 ≤ f.surgeHysteresis ∧ f.surgeHysteresis ≤ 500)
            ∧ (f.surgeCeiling = 0 ∨ f.surgeHysteresis < f.surgeCeiling),
          f.kind = 0 → f.maximumHold ≤ 3600, f.kind = 0 → f.torqueRetries ≤ 3,
          f.kind = 0 → 10 ≤ f.chargeOpening ∧ f.chargeOpening ≤ 200, f.kind = 0 → f.chargeDwell ≤ 600])
    ∧ (∀ line address pollClass multiplier extraDelay tap,
      NamesFirstBad (.putStation line address pollClass multiplier extraDelay tap) 0x03#8 s 1
        [line ≤ 3, 1 ≤ address ∧ address ≤ 16, pollClass ≤ 2,
          (if pollClass = 0 then 2 else 0) ≤ multiplier ∧ multiplier ≤ 63, extraDelay ≤ 15, tap ≤ 1])
    ∧ (∀ line enabled speed blanking retry tripLimit,
      NamesFirstBad (.putLine line enabled speed blanking retry tripLimit) 0x04#8 s 1
        [line ≤ 3, enabled ≤ 1, speed ≤ 2, 1 ≤ blanking ∧ blanking ≤ 255, 1 ≤ retry ∧ retry ≤ 60,
          1 ≤ tripLimit ∧ tripLimit ≤ 15])
    ∧ (∀ input segment level debounce action,
      NamesFirstBad (.putAlarm input segment level debounce action) 0x05#8 s 1
        [1 ≤ input ∧ input ≤ 8, segment ≤ 511, level ≤ 1, 1 ≤ debounce ∧ debounce ≤ 255, action ≤ 1])
    ∧ (∀ threshold timeout timeoutAction crewTimeout crewAction parallel,
      NamesFirstBad (.putPolicy threshold timeout timeoutAction crewTimeout crewAction parallel) 0x06#8 s 1
        [threshold ≤ 1000000, timeout ≤ 3600, timeoutAction ≤ 1, crewTimeout ≤ 480, crewAction ≤ 1,
          1 ≤ parallel ∧ parallel ≤ 4])
    ∧ (∀ segment, NamesFirstBad (.dropSegment segment) 0x07#8 s 1 [1 ≤ segment ∧ segment ≤ 511])
    ∧ (∀ valve, NamesFirstBad (.dropValve valve) 0x08#8 s 1 [1 ≤ valve ∧ valve ≤ 1023])
    ∧ ∀ line address, NamesFirstBad (.dropStation line address) 0x09#8 s 1 [line ≤ 3, 1 ≤ address ∧ address ≤ 16])
  ∧ (∀ s : State, s.store.mode = .run →
    (∀ segment group always,
      NamesFirstBad (.declare segment group always) 0x30#8 s 1 [1 ≤ segment ∧ segment ≤ 511, group ≤ 14, always ≤ 1])
    ∧ (∀ incident answer, NamesFirstBad (.consent incident answer) 0x31#8 s 1 [True, answer ≤ 1])
    ∧ (∀ valve result, NamesFirstBad (.crewResult valve result) 0x32#8 s 1 [1 ≤ valve ∧ valve ≤ 1023, result ≤ 2])
    ∧ (∀ code, NamesFirstBad (.release false code) 0x36#8 s 1 [code ≤ 15])
    ∧ (∀ line, NamesFirstBad (.resetLine line) 0x51#8 s 1 [line ≤ 3])
    ∧ (∀ line, NamesFirstBad (.supplyOn line) 0x52#8 s 1 [line ≤ 3])
    ∧ ∀ incident list start, NamesFirstBad (.readPlan incident list start) 0x25#8 s 1 [True, list ≤ 3])
  ∧ (∀ s : State, s.store.mode ≠ .starting →
    (∀ segment start, NamesFirstBad (.readSegment segment start) 0x20#8 s 1 [1 ≤ segment ∧ segment ≤ 511])
    ∧ (∀ valve, NamesFirstBad (.readValve valve) 0x21#8 s 1 [1 ≤ valve ∧ valve ≤ 1023])
    ∧ (∀ line address, NamesFirstBad (.readStation line address) 0x22#8 s 1 [line ≤ 3, 1 ≤ address ∧ address ≤ 16])
    ∧ ∀ line, NamesFirstBad (.readLine line) 0x23#8 s 1 [line ≤ 3])
  ∧ (∀ s : State, s.store.mode = .run ∨ s.store.mode = .config → ∀ valve value,
      NamesFirstBad (.setOperability valve value) 0x35#8 s 1 [1 ≤ valve ∧ valve ≤ 1023, value ≤ 2])
  ∧ ∀ s : State,
    (∀ slot, NamesFirstBad (.readIncident slot) 0x24#8 s 1 [slot ≤ 3])
    ∧ (∀ kind setting, NamesFirstBad (.setMask kind setting) 0x41#8 s 1 [1 ≤ kind ∧ kind ≤ 22, setting ≤ 1])
    ∧ (∀ kind line, NamesFirstBad (.setRoute kind line) 0x42#8 s 1 [1 ≤ kind ∧ kind ≤ 23, line ≤ 1])
    ∧ ∀ value, NamesFirstBad (.setWatermark value) 0x43#8 s 1 [1 ≤ value ∧ value ≤ 32]

/-! ### The network map (01) -/

/-- PUT_SEGMENT, PUT_STATION, PUT_LINE and PUT_POLICY in CONFIG with their fields in range replace a segment's entry, a
station's entry, a line's settings and the policy whole, and change nothing else. -/
def Obligations.PutsReplaceTheRecordWhole : Prop :=
  ∀ s : State, s.store.mode = .config → s.store.busy = false →
    (∀ segment customers source priority : Nat, 1 ≤ segment → segment ≤ 511 → customers ≤ 65535 → source ≤ 1 →
      priority ≤ 1 →
      Answers (.putSegment segment customers source priority) s 0x01#8 .done []
        { s with map := { s.map with
            segments := Table.put s.map.segments segment ⟨customers, decide (source = 1), decide (priority = 1)⟩ } })
    ∧ (∀ (l : Line) (address multiplier extraDelay tap : Nat) (cls : PollClass),
      1 ≤ address → address ≤ 16 → (cls = .a → 2 ≤ multiplier) → multiplier ≤ 63 → extraDelay ≤ 15 → tap ≤ 1 →
      Answers (.putStation (Line.code l) address cls.code multiplier extraDelay tap) s 0x03#8 .done []
        { s with map := { s.map with
            stations := Table.put s.map.stations (Line.code l * 256 + address)
              ⟨cls, multiplier, extraDelay, decide (tap = 1)⟩ } })
    ∧ (∀ (l : Line) (speed : Baud) (enabled blanking retry tripLimit : Nat),
      enabled ≤ 1 → 1 ≤ blanking → blanking ≤ 255 → 1 ≤ retry → retry ≤ 60 → 1 ≤ tripLimit → tripLimit ≤ 15 →
      Answers (.putLine (Line.code l) enabled speed.code blanking retry tripLimit) s 0x04#8 .done []
        { s with map := { s.map with
            lines := s.map.lines.set l ⟨decide (enabled = 1), speed, blanking, retry, tripLimit⟩ } })
    ∧ ∀ threshold timeout timeoutAction crewTimeout crewAction parallel : Nat,
      threshold ≤ 1000000 → timeout ≤ 3600 → timeoutAction ≤ 1 → crewTimeout ≤ 480 → crewAction ≤ 1 →
      1 ≤ parallel → parallel ≤ 4 →
      Answers (.putPolicy threshold timeout timeoutAction crewTimeout crewAction parallel) s 0x06#8 .done []
        { s with map := { s.map with
            policy := ⟨threshold, timeout, if timeoutAction = 0 then .proceed else .decline, crewTimeout,
              if crewAction = 0 then .report else .planAround, parallel⟩ } }

/-- PUT_VALVE in CONFIG with its fields in range replaces the valve's entry whole and sets its dynamic record: a MANUAL
valve takes position and closed-confirmed flag from its normal state, an ACTUATED one has its position UNKNOWN and the flag
clear; motion, move and crew timer are as after a full reset, and operability and holder set are kept. -/
def Obligations.PutValveWritesEntryAndRecord : Prop :=
  ∀ (s : State) (f : ValveFields) (p : ActuatedPart), s.store.mode = .config → s.store.busy = false →
    FieldsValid f →
    (f.kind = 0 → f.stationLine = Line.code p.line ∧ f.stationAddress = p.address ∧ f.channel = p.channel
      ∧ f.strokeTime = p.strokeTime ∧ f.throttlePoint = p.throttlePoint ∧ f.slowRatio = p.slowRatio
      ∧ f.surgeCeiling = p.surgeCeiling ∧ f.surgeHysteresis = p.surgeHysteresis ∧ f.maximumHold = p.maximumHold
      ∧ f.torqueRetries = p.torqueRetries ∧ f.chargeOpening = p.chargeOpening ∧ f.chargeDwell = p.chargeDwell) →
    ∃ t, Answers (.putValve f) s 0x02#8 .done [] t
      ∧ t.map = { s.map with
          valves := Table.put s.map.valves f.valve
            ⟨f.endA, f.endB, if f.kind = 0 then .actuated p else .manual,
              if f.normalState = 0 then .normallyOpen else .normallyClosed, f.closingRank⟩ }
      ∧ t.dyn f.valve =
          { position := if f.kind = 0 then none else if f.normalState = 0 then some 0 else some 1000
            confirmed := decide (f.kind = 1 ∧ f.normalState = 1)
            motion := .idle, operability := (s.dyn f.valve).operability, holders := (s.dyn f.valve).holders,
            move := none, crewLeft := none, toldUnreachable := false }
      ∧ (∀ u ≠ f.valve, t.dyn u = s.dyn u)
      ∧ t = { s with map := t.map, drive := { s.drive with valves := t.drive.valves } }

/-- PUT_ALARM in CONFIG with its fields in range replaces an input's settings; a changed debounce time starts a running
timer again; and the input is judged at once: no change of assertion raises nothing, an assertion is latched and reported or
deferred, a deassertion is reported with the former segment when the new one is 0. -/
def Obligations.PutAlarmWritesAndJudges : Prop :=
  ∀ (s : State) (i : Fin 8) (x : AlarmSettings), s.store.mode = .config → s.store.busy = false →
    x.segment ≤ 511 → 1 ≤ x.debounce → x.debounce ≤ 255 →
    let command : Instr := .putAlarm (i.val + 1) x.segment (match x.active with | .high => 0 | .low => 1) x.debounce
      (match x.action with | .reportOnly => 0 | .declare => 1)
    let old := s.map.alarms[i]
    let input : AlarmInput :=
      { s.alarms[i] with
        timer := if old.debounce = x.debounce then s.alarms[i].timer else s.alarms[i].timer.map fun _ => x.debounce * 100 }
    let was := decide (s.alarms[i].debounced = some old.active ∧ old.segment ≠ 0)
    let now := decide (s.alarms[i].debounced = some x.active ∧ x.segment ≠ 0)
    let level := levelCode s.alarms[i].debounced
    let edited : State := { s with map := { s.map with alarms := s.map.alarms.set i x } }
    (was = now → Answers command s 0x05#8 .done [] { edited with alarms := s.alarms.set i input })
    ∧ (was = false → now = true → x.action = .reportOnly →
        Answers command s 0x05#8 .done []
          { edited with alarms := s.alarms.set i { input with latched := true }
                        reports := s.raised .alarmInput (.input (i.val + 1)) 0
                          [some x.segment, some 0, some level, some 0] })
    ∧ (was = false → now = true → x.action = .declare →
        Answers command s 0x05#8 .done []
          { edited with alarms := s.alarms.set i { input with latched := true, deferred := true }
                        reports := s.raised .alarmInput (.input (i.val + 1)) 4
                          [some x.segment, some 0, some level, some 0] })
    ∧ (was = true → now = false →
        Answers command s 0x05#8 .done []
          { edited with alarms := s.alarms.set i input
                        reports := s.raised .alarmInput (.input (i.val + 1)) 6
                          [some (if x.segment = 0 then old.segment else x.segment), some 0, some level, some 0] })

/-- DROP_SEGMENT, DROP_VALVE and DROP_STATION in CONFIG make a present entry absent, a valve's dynamic record and a
station's record and poll entry with it (that its poll entry goes is the model's reading, log 34); an identifier in range
that names nothing present is refused with UNKNOWN_ID. -/
def Obligations.DropsRemoveEntries : Prop :=
  ∀ s : State, s.store.mode = .config → s.store.busy = false →
    (∀ segment, 1 ≤ segment → segment ≤ 511 →
      (Table.has s.map.segments segment = true →
        Answers (.dropSegment segment) s 0x07#8 .done []
          { s with map := { s.map with segments := Table.erase s.map.segments segment } })
      ∧ (Table.has s.map.segments segment = false → Answers (.dropSegment segment) s 0x07#8 .unknownId [] s))
    ∧ (∀ valve, 1 ≤ valve → valve ≤ 1023 →
      (Table.has s.map.valves valve = true →
        ∃ t, Answers (.dropValve valve) s 0x08#8 .done [] t
          ∧ t.map = { s.map with valves := Table.erase s.map.valves valve }
          ∧ t.dyn valve = { blankDyn with operability := (s.dyn valve).operability, holders := (s.dyn valve).holders }
          ∧ (∀ u ≠ valve, t.dyn u = s.dyn u)
          ∧ t = { s with map := t.map, drive := { s.drive with valves := t.drive.valves } })
      ∧ (Table.has s.map.valves valve = false → Answers (.dropValve valve) s 0x08#8 .unknownId [] s))
    ∧ (∀ (l : Line) address, 1 ≤ address → address ≤ 16 →
      (Table.has s.map.stations (Line.code l * 256 + address) = true →
        Answers (.dropStation (Line.code l) address) s 0x09#8 .done []
          { s with map := { s.map with stations := Table.erase s.map.stations (Line.code l * 256 + address) }
                   stations := Table.erase s.stations (Line.code l * 256 + address)
                   control := s.control.set l
                     { s.control.get l with
                       schedule := (s.control.get l).schedule.filter fun e => e.address != address } })
      ∧ (Table.has s.map.stations (Line.code l * 256 + address) = false →
        Answers (.dropStation (Line.code l) address) s 0x09#8 .unknownId [] s))

/-- CLEAR_MAP in CONFIG leaves the empty map with the default line, alarm and policy records, no station record and no poll
entry (that the poll schedules are emptied is the model's reading, log 34); every valve id's dynamic record is as after a
DROP_VALVE; a running debounce timer of an input whose debounce time changes starts again at the default; no input is
asserted any more, and each that was raises ALARM_INPUT DEASSERTED with its former segment, in ascending number (the
model's choice, log 45). -/
def Obligations.ClearMapLeavesTheEmptyMap : Prop :=
  ∀ s : State, s.store.mode = .config → s.store.busy = false →
    ∃ t, Answers .clearMap s 0x0A#8 .done [] t
      ∧ t.map.segments = [] ∧ t.map.valves = [] ∧ t.map.stations = []
      ∧ (∀ l, t.map.lines.get l = ⟨false, .b9600, 10, 10, 3⟩)
      ∧ (∀ i : Fin 8, t.map.alarms[i] = ⟨0, .high, 10, .reportOnly⟩)
      ∧ t.map.policy = ⟨5000, 300, .proceed, 90, .report, 2⟩
      ∧ t.stations = [] ∧ (∀ l, t.control.get l = { s.control.get l with schedule := [] })
      ∧ (∀ v, t.dyn v = { blankDyn with operability := (s.dyn v).operability, holders := (s.dyn v).holders })
      ∧ (∀ i : Fin 8, t.alarms[i] =
          { s.alarms[i] with
            timer := if s.map.alarms[i].debounce = 10 then s.alarms[i].timer else s.alarms[i].timer.map fun _ => 1000 })
      ∧ (∀ i, t.asserted i = false) ∧ Through (InputJudged s) allInputs { t with reports := s.reports } t
      ∧ t = { s with map := t.map, stations := [], control := t.control,
                     drive := { s.drive with valves := t.drive.valves }, alarms := t.alarms, reports := t.reports }

/-! ### Map store and operating modes (10) -/

/-- ENTER_CONFIG in RUN with every slot FREE is ACCEPTED: every valve's move and crew wait ends, every urgent queue is
emptied, every retry is discarded, and MODE_CHANGED is raised, once for QUIESCING and, when no exchange is in flight, again
for CONFIG. With a slot that is not FREE it is refused with WRONG_STATE. -/
def Obligations.EnterConfigQuiescesTheLines : Prop :=
  ∀ s : State, s.store.mode = .run →
    (s.engine.slots ≠ [] → Answers .enterConfig s 0x10#8 .wrongState [] s)
    ∧ (s.engine.slots = [] →
      let quiesced := s.raised .modeChanged .part 2 [some 1]
      let silent := ∀ l, (s.control.get l).exchange = none
      ∃ t, Answers .enterConfig s 0x10#8 .accepted [] t
        ∧ (∀ v, t.dyn v = { s.dyn v with move := none, motion := .idle, crewLeft := none })
        ∧ (∀ l, t.supply.get l = { s.supply.get l with retryLeft := none })
        ∧ (∀ l, (t.control.get l).queue = [] ∧ (t.control.get l).exchange = (s.control.get l).exchange)
        ∧ (silent → t.store = { s.store with mode := .config }
            ∧ t.reports = quiesced.raise ⟨.modeChanged, s.reports.timeBase, .part, 3, [some 2]⟩)
        ∧ (¬silent → t.store = { s.store with mode := .quiescing } ∧ t.reports = quiesced)
        ∧ t = { s with store := t.store, drive := { s.drive with valves := t.drive.valves }, control := t.control,
                       supply := t.supply, reports := t.reports })

/-- LEAVE_CONFIG with a map that passes the validation is DONE and enters RUN: every ACTUATED position UNKNOWN, a fresh
record for every present station, the line settings in effect, supplies ON for the enabled lines and OFF for the others with
trip count 0, one poll entry per present station, due at once, and the consecutive-urgent counts 0. MODE_CHANGED is raised, and then the inputs
with a deferred declaration are taken in ascending number: each is declared, absorbed, meets NO_ROOM, or is CANCELLED. That
a fresh record shows no channel MOVING is the model's reading (log 24). -/
def Obligations.LeaveConfigEntersRun : Prop :=
  ∀ s : State, s.store.mode = .config → s.store.busy = false → s.map.Sound → s.map.Valid → s.IdleOutsideRun →
    s.SlotsSound → s.PlannerSound →
    ∃ t, Answers .leaveConfig s 0x11#8 .done [] t ∧ t.store = { s.store with mode := .run } ∧ t.map = s.map
      ∧ (∀ v, t.dyn v = if (s.actuated v).isSome then { s.dyn v with position := none } else s.dyn v)
      ∧ t.stations = s.map.stations.map (fun e => (e.1, ⟨0, .online, 0, none, ⟨false, false, false, false⟩, false⟩))
      ∧ (∀ l, (s.map.lines.get l).enabled = true →
          t.supply.get l =
            { s.supply.get l with state := .on, timeOn := some 0, tripCount := 0, retryLeft := none })
      ∧ (∀ l, (s.map.lines.get l).enabled = false →
          (t.supply.get l).state = .off ∧ (t.supply.get l).tripCount = 0 ∧ (t.supply.get l).retryLeft = none)
      ∧ (∀ l, (t.control.get l).enabled = (s.map.lines.get l).enabled ∧ (t.control.get l).speed = (s.map.lines.get l).speed)
      ∧ (∀ l, (t.control.get l).urgentCount = 0
          ∧ (t.control.get l).schedule.map (fun e => (e.address, e.probe, e.last, e.due)) =
              ((Table.keys s.map.stations).filter fun k => lineOfKey k = some l).map
                (fun k => (k % 256, false, none, s.elapsed))
          ∧ (t.control.get l).queue = (s.control.get l).queue ∧ (t.control.get l).errorLog = (s.control.get l).errorLog)
      ∧ (∀ i : Fin 8, t.alarms[i] = { s.alarms[i] with deferred := false })
      ∧ Through DeferredTaken allInputs
          { t with engine := s.engine, planner := s.planner, alarms := s.alarms
                   reports := s.raised .modeChanged .part 1 [some 3] } t
      ∧ t.link = s.link ∧ t.elapsed = s.elapsed

/-- LEAVE_CONFIG and SAVE_MAP on a map that fails the validation are refused with BAD_FIELD naming the first record that
fails, valves before stations before alarm inputs, and leave the state as it is. -/
def Obligations.InvalidMapIsNamedAndKept : Prop :=
  ∀ s : State, s.store.mode = .config → s.store.busy = false → s.map.Sound → ¬s.map.Valid →
    ∃ kind identifier, s.map.FirstFault kind identifier
      ∧ Answers .leaveConfig s 0x11#8 .badField
          [0#8, BitVec.ofNat 8 kind, BitVec.ofNat 8 (identifier / 256), BitVec.ofNat 8 identifier] s
      ∧ Answers .saveMap s 0x12#8 .badField
          [0#8, BitVec.ofNat 8 kind, BitVec.ofNat 8 (identifier / 256), BitVec.ofNat 8 identifier] s

/-- SAVE_MAP of a map that passes is ACCEPTED: the store is busy and the save of the map as it stands is under way; at
SAVE_COMPLETE the image holds that content with its sum, the store is not busy and SAVE_DONE is raised. With no save under
way SAVE_COMPLETE does nothing (the model's choice, log 2). LOAD_COMPLETE in STARTING: a blank image or one whose sum is
not that of its content gives the empty map, MAP_INVALID with its detail and then MODE_CHANGED, and CONFIG; any other
becomes the map, the valves take the records of PUT_VALVE, the inputs are judged by the new settings in ascending number
(the model's choice, log 45), and RUN is entered with MODE_CHANGED, fresh stations, which show no channel MOVING (the
model's reading, log 24), the line settings in effect, and the enabled lines' supplies ON; then the deferred declarations
are taken. -/
def Obligations.TheImageIsSavedAndLoaded : Prop :=
  (∀ s : State,
    (s.store.mode = .config → s.store.busy = false → s.map.Sound → s.map.Valid →
      Answers .saveMap s 0x12#8 .accepted [] { s with store := ⟨.config, true, .saving s.map⟩ })
    ∧ (∀ content, s.store.image = .saving content →
      Yields .saveComplete s
        { s with store := ⟨s.store.mode, false, .written content (sum16 content)⟩
                 reports := s.raised .saveDone .part 0 [] })
    ∧ ((∀ content, s.store.image ≠ .saving content) → Yields .saveComplete s s))
  ∧ ∀ s : State, s.store.mode = .starting →
    (s.store.image = .blank →
      Yields .loadComplete s
        { s with map := emptyMap, store := { s.store with mode := .config }
                 reports := (s.raised .mapInvalid .part 0 []).raise
                   ⟨.modeChanged, s.reports.timeBase, .part, 3, [some 0]⟩ })
    ∧ (∀ content sum, s.store.image = .written content sum → sum ≠ sum16 content →
      Yields .loadComplete s
        { s with map := emptyMap, store := { s.store with mode := .config }
                 reports := (s.raised .mapInvalid .part 1 []).raise
                   ⟨.modeChanged, s.reports.timeBase, .part, 3, [some 0]⟩ })
    ∧ ∀ content, s.store.image = .written content (sum16 content) → content.Sound → s.IdleOutsideRun → s.SlotsSound →
      s.PlannerSound →
      ∃ t w, Yields .loadComplete s t ∧ t.map = content ∧ t.store = { s.store with mode := .run }
        ∧ (∀ v r, Table.get content.valves v = some r → ∀ p, r.kind = .actuated p →
            t.dyn v = { blankDyn with operability := (s.dyn v).operability, holders := (s.dyn v).holders })
        ∧ (∀ v r, Table.get content.valves v = some r → r.kind = .manual →
            t.dyn v = { blankDyn with operability := (s.dyn v).operability, holders := (s.dyn v).holders,
                                      position := if r.normal = .normallyClosed then some 1000 else some 0,
                                      confirmed := decide (r.normal = .normallyClosed) })
        ∧ Through (InputJudged s) allInputs { s with map := content, drive := w.drive } w
        ∧ t.stations = content.stations.map (fun e => (e.1, ⟨0, .online, 0, none, ⟨false, false, false, false⟩, false⟩))
        ∧ (∀ l, (t.control.get l).enabled = (content.lines.get l).enabled
            ∧ (t.control.get l).speed = (content.lines.get l).speed)
        ∧ (∀ l, (content.lines.get l).enabled = true →
            (t.supply.get l).state = .on ∧ (t.supply.get l).timeOn = some 0 ∧ (t.supply.get l).tripCount = 0)
        ∧ (∀ l, (content.lines.get l).enabled = false → (t.supply.get l).state = .off)
        ∧ Through DeferredTaken allInputs
            { t with engine := s.engine, planner := s.planner, alarms := w.alarms
                     reports := w.raised .modeChanged .part 1 [some 0] } t
        ∧ t.link = s.link ∧ t.elapsed = s.elapsed

/-- POWER_ON and RESETN_ASSERTED are a full reset in any state: every block takes its values after full reset; the alarm
pins' levels (kept, the model's choice, log 6) and the commands that wait are not the part's to reset; the image is kept, but
for a save under way, which leaves it BLANK or with a sum that does not match (which of the two is free, log 9). The number
on the speed pins is taken as the speed's code (the model's choice, log 54); the line settings in effect before the first
entry to RUN are the empty map's (the model's choice, log 57). -/
def Obligations.FullResetSetsEveryBlock : Prop :=
  ∀ (s : State) (ap sp : Nat) (i : Instr), (i = .powerOn ap sp ∨ i = .resetnAsserted ap sp) → ap < 64 → sp < 4 →
    ∃ t, Yields i s t ∧ t.store.mode = .starting ∧ t.store.busy = false
      ∧ ((∀ content, s.store.image ≠ .saving content) → t.store.image = s.store.image)
      ∧ (∀ content, s.store.image = .saving content → t.store.image = .blank
          ∨ ∃ sum, sum ≠ sum16 content ∧ t.store.image = .written content sum)
      ∧ t.map = emptyMap ∧ t.planner = ⟨[], none⟩ ∧ t.engine = ⟨[], 1, [], none, 0⟩ ∧ t.drive.valves = []
      ∧ (∀ l, t.control.get l = ⟨none, [], [], 0, 0, false, .none, [], false, .b9600⟩)
      ∧ (∀ l, t.supply.get l = ⟨.off, none, 0, none, false, 0, false⟩) ∧ t.stations = []
      ∧ (∀ j : Fin 8, t.alarms[j] = ⟨s.alarms[j].level, none, some 1000, false, false⟩)
      ∧ t.reports.queue = [] ∧ t.reports.lost = 0 ∧ t.reports.watermark = 24 ∧ t.reports.timeBase = 0
      ∧ t.reports.attention0 = false ∧ t.reports.attention1 = false
      ∧ (∀ k : ReportKind, t.reports.kind k =
          ⟨false, 0, decide (k ∉ [.incidentState, .consentNeeded, .valveFailed, .crewOverdue, .surgeStall, .mapInvalid,
            .alarmInput])⟩)
      ∧ t.link = ⟨ap, sp, if 1 ≤ ap ∧ ap ≤ 62 then some ap else none, sp, .idle, [], none, false⟩
      ∧ t.pending = s.pending

/-- RESET_PART is answered DONE and the reset waits for the reply; REPLY_START begins to send a reply; REPLY_SENT ends it:
the reply buffer is empty (the model's choice, log 63) and the receiver in IDLE, or in DISCARDING when a character was heard; a reset that waits is then
made, as RESETN makes it with some levels of the strap pins, which are read anew (what they show then is free, log 5). -/
def Obligations.ResetPartFollowsItsReply : Prop :=
  ∀ s : State,
    Answers .resetPart s 0x53#8 .done [] { s with link := { s.link with resetPending := true } }
    ∧ (∀ heard, s.link.receiver = .replying false heard →
      Yields .replyStart s { s with link := { s.link with receiver := .replying true heard } })
    ∧ (∀ heard, s.link.receiver = .replying true heard → s.link.resetPending = false →
      Yields .replySent s
        { s with link := { s.link with reply := none, receiver := if heard then .discarding else .idle } })
    ∧ ∀ heard, s.link.receiver = .replying true heard → s.link.resetPending = true →
      ∃ ap sp t, ap < 64 ∧ sp < 4 ∧ Yields .replySent s t ∧ Yields (.resetnAsserted ap sp) s t
        ∧ t.store.mode = .starting ∧ t.link.receiver = .idle ∧ t.link.reply = none

/-! ### The READ requests -/

/-- READ_SEGMENT returns a present segment's record, the number of its valves and a page of at most 100 of their ids from
the start index; READ_PLAN returns an incident's plan count, the length of the list named and a page of it. Neither changes
the state; a start beyond the list is refused with BAD_FIELD naming the start. The order and sizes of the reply's fields
are the model's reading (log 26). -/
def Obligations.ReadSegmentAndPlanReturnPages : Prop :=
  (∀ (s : State) (segment start : Nat) (r : SegmentRec), s.store.mode ≠ .starting → 1 ≤ segment → segment ≤ 511 →
    Table.get s.map.segments segment = some r →
    let ids := (s.map.valves.filter fun e => e.2.endA = segment || e.2.endB = segment).map (·.1)
    (start ≤ ids.length →
      Answers (.readSegment segment start) s 0x20#8 .done
        (be2 segment ++ be2 r.customers ++ be1 (if r.source then 1 else 0) ++ be1 (if r.priority then 1 else 0)
          ++ be2 ids.length ++ be1 (min 100 (ids.length - start)) ++ ((ids.drop start).take 100).flatMap be2) s)
    ∧ (ids.length < start → Answers (.readSegment segment start) s 0x20#8 .badField [2#8, 0#8, 0#8, 0#8] s))
  ∧ ∀ (s : State) (slot start list : Nat) (inc : Incident) (items : List Nat), s.store.mode = .run → s.SlotsSound →
    (slot, inc) ∈ s.engine.slots →
    (list = 0 ∧ items = inc.region ∨ list = 1 ∧ items = inc.boundary ∨ list = 2 ∧ items = inc.outage
      ∨ list = 3 ∧ items = inc.excluded) →
    (start ≤ items.length →
      Answers (.readPlan inc.number list start) s 0x25#8 .done
        (be1 inc.planCount ++ be2 items.length ++ be1 (min 100 (items.length - start))
          ++ ((items.drop start).take 100).flatMap be2) s)
    ∧ (items.length < start → Answers (.readPlan inc.number list start) s 0x25#8 .badField [3#8, 0#8, 0#8, 0#8] s)

/-- READ_VALVE, READ_STATION and READ_INCIDENT answer DONE and change nothing. A present valve's reply is the read-back
record of 65 bytes: the map record from byte 0, its actuated part from 9 (0 for a MANUAL valve), the position at 27, the
closed-confirmed flag at 29, motion state, operability and reachability (its line enabled as at the last entry to RUN; its
station in CONFIG by the map as it stands, the model's choice, log 38) at 30 to 32, the number of holders and the holders from 33, the move's presence at 38 and the move from 39
(0 without one; in DWELL its timer is absent and sent as 0; the phase target and rate of DWELL and of HOLDING are the last DRIVE's, log 56), and
the crew timer's presence and time at 60 and 61. A present station's reply is its map record, its station record (as at the
entry to RUN where it has none), its line's supply state, its poll entry (1 for a probe and 0 for a poll, the model's choice,
log 55; the interval in effect, in CONFIG by the map as edited, log 67, and the time until due in tenths, their rounding
free, log 11; all 0 without a record), the
number of its commands in the urgent queue, and the number of its valves with the first 16 of them in channel order. A FREE
slot's reply is the one byte of the state FREE; an incident's is its record with the lengths of its lists, the progress
counts over its boundary (closed, failed, moving, crew pending), its place in the consent queue and, for the oldest, the
tenths left. A time left is sent in tenths rounded up and a time passed rounded down (log 3); the hold
elapsed after a hold is the last hold's (the model's choice, log 66). The layouts of the last two
replies are the model's reading (log 26). -/
def Obligations.ReadsOfValveStationAndIncident : Prop :=
  (∀ (s : State) (valve : Nat) (r : ValveRec), s.store.mode ≠ .starting → 1 ≤ valve → valve ≤ 1023 →
    Table.get s.map.valves valve = some r →
    let d := s.dyn valve
    ∃ data, Answers (.readValve valve) s 0x21#8 .done data s ∧ data.length = 65
      ∧ data.take 9 = be2 valve ++ be2 r.endA ++ be2 r.endB
          ++ be1 (match r.kind with | .actuated _ => 0 | .manual => 1)
          ++ be1 (match r.normal with | .normallyOpen => 0 | .normallyClosed => 1) ++ be1 r.closingRank
      ∧ (r.kind = .manual → (data.drop 9).take 18 = List.replicate 18 0#8)
      ∧ (∀ p, r.kind = .actuated p → (data.drop 9).take 3 = be1 (Line.code p.line) ++ be1 p.address ++ be1 p.channel
          ∧ (data.drop 12).take 5 = be2 p.strokeTime ++ be2 p.throttlePoint ++ be1 p.slowRatio
          ∧ (data.drop 17).take 6 = be2 p.surgeCeiling ++ be2 p.surgeHysteresis ++ be2 p.maximumHold
          ∧ (data.drop 23).take 4 = be1 p.torqueRetries ++ be1 p.chargeOpening ++ be2 p.chargeDwell)
      ∧ (data.drop 27).take 2 = (match d.position with | some n => be2 n | none => [255#8, 255#8])
      ∧ (data.drop 29).take 4 = be1 (if d.confirmed then 1 else 0) ++ be1 d.motion.code ++ be1 d.operability.code
          ++ be1 (if s.reachable valve then 1 else 0)
      ∧ (data.drop 33).take 1 = be1 d.holders.length
      ∧ ((data.drop 34).take 4).take d.holders.length = (d.holders.take 4).flatMap be1
      ∧ (data.drop 38).take 1 = be1 (if d.move.isSome then 1 else 0)
      ∧ (d.move = none → (data.drop 39).take 21 = List.replicate 21 0#8)
      ∧ (∀ m, d.move = some m →
          (data.drop 39).take 4 = be1 (match m.direction with | .close => 0 | .openUp => 1) ++ be2 m.phaseTarget
            ++ be1 m.rate
          ∧ (data.drop 43).take 3 = (if d.motion = .dwell then [0#8, 0#8, 0#8]
              else be2 ((m.timerLeft + 99) / 100) ++ be1 (match m.standing with | .running => 0 | .stopped => 1 | .frozen => 2))
          ∧ (data.drop 46).take 2 = be1 m.expiries ++ be1 m.retriesUsed
          ∧ (data.drop 48).take 8 = be4 m.holdStart ++ be4 (m.holdElapsed / 100)
          ∧ (data.drop 56).take 3 = be2 ((m.dwellLeft + 99) / 100) ++ be1 (m.starter.getD 0)
          ∧ (data.drop 59).take 1 = be1 (match m.command with | some c => if c.acked then 0 else 1 | none => 0))
      ∧ data.drop 60 = be1 (if d.crewLeft.isSome then 1 else 0) ++ be4 ((d.crewLeft.getD 0 + 99) / 100))
  ∧ (∀ (s : State) (l : Line) (address : Nat) (e : StationEntry), s.store.mode ≠ .starting → 1 ≤ address → address ≤ 16 →
    Table.get s.map.stations (Line.code l * 256 + address) = some e →
    let r := s.station l address
    let flag (b : Bool) : List Byte := be1 (if b then 1 else 0)
    let tenths (ms : Nat) : Nat :=
      if ms % 100 = 0 then ms / 100 else if Config.roundsUp ms then ms / 100 + 1 else ms / 100
    let valves : List (Nat × Nat) := [1, 2, 3, 4].flatMap fun c => s.map.valves.filterMap fun v =>
      match v.2.kind with
      | .actuated p => if p.line = l ∧ p.address = address ∧ p.channel = c then some (v.1, c) else none
      | .manual => none
    ∃ schedule : List Byte,
      Answers (.readStation (Line.code l) address) s 0x22#8 .done
        (be1 e.pollClass.code ++ be1 e.multiplier ++ be1 e.extraDelay ++ flag e.tap
          ++ be1 r.score ++ be1 r.state.code ++ be1 r.probeRun
          ++ (match r.pressure with | some n => be2 n | none => [255#8, 255#8])
          ++ flag r.localControl.c1 ++ flag r.localControl.c2 ++ flag r.localControl.c3 ++ flag r.localControl.c4
          ++ be1 (match (s.supply.get l).state with | .off => 0 | .on => 1 | .tripped => 2 | .lockedOff => 3)
          ++ schedule ++ be1 ((s.control.get l).queue.filter fun x => x.address = address).length
          ++ be2 valves.length ++ be1 (min 16 valves.length)
          ++ (valves.take 16).flatMap fun v => be2 v.1 ++ be1 v.2) s
      ∧ schedule.length = 5
      ∧ (Table.get s.stations (Line.code l * 256 + address) = none ∨ (∀ q ∈ (s.control.get l).schedule, q.address ≠ address) →
          schedule = List.replicate 5 0#8)
      ∧ ∀ q, Table.has s.stations (Line.code l * 256 + address) = true →
          (s.control.get l).schedule.find? (fun q => q.address = address) = some q →
          schedule = (if q.probe then [1#8, 0#8, 0#8] else [0#8] ++ be2 (tenths (s.interval l address)))
            ++ be2 (if q.due ≤ s.elapsed then 0 else tenths (q.due - s.elapsed)))
  ∧ ∀ (s : State) (slot : Nat), slot ≤ 3 →
    (s.slot slot = none → Answers (.readIncident slot) s 0x24#8 .done [0#8] s)
    ∧ ∀ inc, s.slot slot = some inc →
      let flag (b : Bool) : List Byte := be1 (if b then 1 else 0)
      let usable (v : Nat) : Bool := (Table.get s.map.valves v).any (s.usable inc v)
      let manual (v : Nat) : Bool := (Table.get s.map.valves v).any fun r => r.kind = .manual
      let counted (heading : Nat → Bool) : List Byte := be1 (inc.boundary.filter heading).length
      Answers (.readIncident slot) s 0x24#8 .done
        (be1 inc.number ++ be1 inc.state.code ++ be2 inc.burst
          ++ be1 (match inc.origin with | .host => 0 | .alarm n => n) ++ be4 inc.declaredAt ++ be1 inc.group
          ++ flag inc.always ++ flag inc.released ++ be4 inc.customersInRegion ++ be4 inc.customersInOutage
          ++ flag inc.priorityHit ++ be1 inc.consent.code ++ flag inc.replanPending ++ be1 inc.planCount
          ++ be1 (match inc.cause with
                  | none => 0 | some .regionCap => 1 | some .boundaryCap => 2 | some .outsideValve => 3 | some .declined => 4)
          ++ be1 inc.region.length ++ be1 inc.boundary.length ++ be2 inc.outage.length ++ be1 inc.excluded.length
          ++ counted (fun v => (s.dyn v).confirmed)
          ++ counted (fun v => !(s.dyn v).confirmed && !usable v)
          ++ counted (fun v => !(s.dyn v).confirmed && usable v && !manual v
              && [Motion.closingFast, .closingSlow, .holding, .backoff].contains (s.dyn v).motion)
          ++ counted (fun v => !(s.dyn v).confirmed && usable v && manual v && (s.dyn v).motion = .crewClose)
          ++ be1 (((s.engine.consentQueue.idxOf? inc.number).map (· + 1)).getD 0)
          ++ be2 (if s.engine.consentQueue.head? = some inc.number then (s.engine.consentLeft.getD 0 + 99) / 100 else 0)) s

/-- READ_LINE returns the line's settings, supply (the retry left in seconds rounded up) and controller (queue length, the
exchange in flight by its station, and the error log) and then clears the error log, the overflow-reported flag, the last
error code and the tripped flag. READ_PART returns mode, busy flag, address, speed, time base, queue length, lost count,
both attention lines, the number of FREE slots, and of each input the debounced level, the asserted value, the latched and
the deferred-declare flag, and then clears every latched flag. The layouts are the model's reading (log 26), the codes of
the attention lines its choice (log 47); the code of an exchange's kind is free (log 12). -/
def Obligations.ReadLineAndPartClearWhatTheyReturn : Prop :=
  (∀ (s : State) (l : Line), s.store.mode ≠ .starting →
    let u := s.supply.get l
    let c := s.control.get l
    ∃ data, Answers (.readLine (Line.code l)) s 0x23#8 .done data
        { s with control := s.control.set l { c with errorLog := 0, overflowReported := false, lastError := .noNew }
                 supply := s.supply.set l { u with trippedFlag := false } }
      ∧ data.length = 17
      ∧ data.take 6 = be1 (if (s.map.lines.get l).enabled then 1 else 0) ++ be1 (s.map.lines.get l).speed.code
          ++ be1 (s.map.lines.get l).blanking ++ be1 (s.map.lines.get l).retryInterval
          ++ be1 (s.map.lines.get l).tripLimit ++ be1 u.state.code
      ∧ (data.drop 6).take 1 = be1 ((u.retryLeft.getD 0 + 999) / 1000)
      ∧ (data.drop 7).take 3 = be1 u.tripCount ++ be1 (if u.overcurrent then 1 else 0)
          ++ be1 (if u.trippedFlag then 1 else 0)
      ∧ (data.drop 10).take 3 = be1 c.queue.length ++ be1 (if c.exchange.isSome then 1 else 0)
          ++ be1 ((c.exchange.map (·.address)).getD 0)
      ∧ (c.exchange = none → (data.drop 13).take 1 = [0#8])
      ∧ data.drop 14 = be1 c.urgentCount ++ be1 c.errorLog ++ be1 c.lastError.code)
  ∧ ∀ s : State, ∃ t,
      Answers .readPart s 0x26#8 .done
        (be1 s.store.mode.code ++ be1 (if s.store.busy then 1 else 0) ++ be1 (s.link.address.getD 0)
          ++ be1 s.link.speed ++ be4 s.reports.timeBase ++ be1 s.reports.queue.length ++ be1 s.reports.lost
          ++ be1 (if s.reports.attention0 then 1 else 0) ++ be1 (if s.reports.attention1 then 1 else 0)
          ++ be1 ([0, 1, 2, 3].filter fun k => (s.slot k).isNone).length
          ++ allInputs.flatMap fun i =>
              be1 (match s.alarms[i].debounced with | some .high => 0 | some .low => 1 | none => 2)
                ++ be1 (if s.alarms[i].debounced = some s.map.alarms[i].active ∧ s.map.alarms[i].segment ≠ 0 then 1 else 0)
                ++ be1 (if s.alarms[i].latched then 1 else 0) ++ be1 (if s.alarms[i].deferred then 1 else 0)) t
      ∧ (∀ i : Fin 8, t.alarms[i] = { s.alarms[i] with latched := false })
      ∧ t = { s with alarms := t.alarms }

/-! ### Incidents and plans (02, 03) -/

/-- DECLARE of a present segment that lies in no active incident's region, with a slot FREE, is ACCEPTED with the new
number and the lowest FREE slot: the incident stands there in PLANNING with the burst segment as its region and everything
else as at a declaration; the counter advances by one, 255 being followed by 1, past the numbers in use; its plan starts, or joins the queue and makes the plan
in progress stale; INCIDENT_STATE is raised; nothing else changes. DECLARE of a segment in an active incident's region is
answered ABSORBED with that incident's number, and with no such incident and every slot taken it is refused with NO_ROOM;
of a segment not present, with UNKNOWN_ID. The state is left as it is. -/
def Obligations.DeclareCreatesOrIsTurnedAway : Prop :=
  (∀ (s : State) (segment group always slot : Nat), s.store.mode = .run → 1 ≤ segment → segment ≤ 511 → group ≤ 14 →
    always ≤ 1 → Table.has s.map.segments segment = true → s.SlotsSound → s.PlannerSound →
    (∀ inc ∈ s.activeIncidents, segment ∉ inc.region) →
    slot ≤ 3 → s.slot slot = none → (∀ k < slot, s.slot k ≠ none) →
    let n := s.engine.counter
    ∃ t, Answers (.declare segment group always) s 0x30#8 .accepted (be1 n ++ be1 slot) t
      ∧ t.slot slot = some
          { number := n, state := .planning, burst := segment, origin := .host, declaredAt := s.reports.timeBase,
            group := group, always := decide (always = 1), released := false, region := [segment], boundary := [],
            outage := [], excluded := [], customersInRegion := 0, customersInOutage := 0, priorityHit := false,
            consent := .notNeeded, replanPending := false, planCount := 0, cause := none, restoreList := [] }
      ∧ (∀ k ≠ slot, t.slot k = s.slot k)
      ∧ (∃ k, t.engine.counter = (n + k) % 255 + 1 ∧ (∀ e ∈ t.engine.slots, e.2.number ≠ t.engine.counter)
          ∧ ∀ j < k, ∃ e ∈ t.engine.slots, e.2.number = (n + j) % 255 + 1)
      ∧ t.engine = { s.engine with slots := t.engine.slots, counter := t.engine.counter }
      ∧ (s.planner.plan = none → t.planner = ⟨[], some (newPlan n [segment])⟩)
      ∧ (∀ p, s.planner.plan = some p → t.planner = ⟨s.planner.queue ++ [n], some { p with stale := true }⟩)
      ∧ t = { s with engine := t.engine, planner := t.planner,
                     reports := s.raised .incidentState (.incident n) 1 [some 0, some 0, some 1, some 0] })
  ∧ ∀ (s : State) (segment group always : Nat), s.store.mode = .run → 1 ≤ segment → segment ≤ 511 → group ≤ 14 →
    always ≤ 1 →
    (Table.has s.map.segments segment = false → Answers (.declare segment group always) s 0x30#8 .unknownId [] s)
    ∧ (Table.has s.map.segments segment = true → s.RegionsDisjoint → ∀ inc ∈ s.activeIncidents, segment ∈ inc.region →
        Answers (.declare segment group always) s 0x30#8 .absorbed (be1 inc.number) s)
    ∧ (Table.has s.map.segments segment = true → (∀ inc ∈ s.activeIncidents, segment ∉ inc.region) →
        (∀ k ≤ 3, s.slot k ≠ none) → Answers (.declare segment group always) s 0x30#8 .noRoom [] s)

/-- CONSENT for an incident in AWAIT_CONSENT is DONE and CONSENT_TIMEOUT resolves the oldest entry of the consent queue: the
incident leaves the queue, and the timer starts anew for the next oldest when the oldest left; with consent it enters
CLOSING, or ISOLATED at once when its boundary is closed-confirmed, when it is released or has no release group, and ARMED
otherwise; without consent it becomes UNCONTAINED with the cause DECLINED. When a CONSENT is taken for the oldest first, the
expiries that wait in the queue of commands do not happen: each CONSENT_TIMEOUT so called off only uses up its place in the
model's count of them (log 68). -/
def Obligations.ConsentIsResolvedByHostOrTimer : Prop :=
  (∀ s : State, s.engine.voidExpiries ≠ 0 →
    Yields .consentTimeout s { s with engine := { s.engine with voidExpiries := s.engine.voidExpiries - 1 } })
  ∧ ∀ (s : State) (slot : Nat) (inc : Incident) (i : Instr) (c : ConsentState), s.SlotsSound → s.ConsentSound →
    (slot, inc) ∈ s.engine.slots → inc.state = .awaitConsent →
    (s.store.mode = .run ∧ i = .consent inc.number 0 ∧ c = .granted
      ∨ s.store.mode = .run ∧ i = .consent inc.number 1 ∧ c = .declined
      ∨ i = .consentTimeout ∧ s.engine.voidExpiries = 0 ∧ s.engine.consentLeft ≠ none
        ∧ s.engine.consentQueue.head? = some inc.number
        ∧ (s.map.policy.timeoutAction = .proceed ∧ c = .proceededOnTimeout
          ∨ s.map.policy.timeoutAction = .decline ∧ c = .declined)) →
    ∃ t, (if i = .consentTimeout then Yields i s t else Answers i s 0x31#8 .done [] t)
      ∧ t.engine.consentQueue = s.engine.consentQueue.filter (· != inc.number)
      ∧ t.engine.consentLeft =
          (if s.engine.consentQueue.head? = some inc.number then
            (if s.engine.consentQueue = [inc.number] ∨ s.map.policy.consentTimeout = 0 then none
              else some (s.map.policy.consentTimeout * 1000))
          else s.engine.consentLeft)
      ∧ t.engine.voidExpiries =
          (if i ≠ .consentTimeout ∧ s.engine.consentQueue.head? = some inc.number then s.pending.count .consentTimeout
          else s.engine.voidExpiries)
      ∧ (c = .declined →
          t.slot slot = some { inc with consent := c, state := .uncontained, cause := some .declined })
      ∧ (c ≠ .declined → inc.released = false → inc.group ≠ 0 →
          t.slot slot = some { inc with consent := c, state := .armed })
      ∧ (c ≠ .declined → inc.released = true ∨ inc.group = 0 →
          t.slot slot = some
            { inc with consent := c, released := true,
                       state := if ∀ v ∈ inc.boundary, (s.dyn v).confirmed = true then .isolated else .closing }
          ∧ ∀ v ∈ inc.boundary, inc.number ∈ (t.dyn v).holders)
      ∧ OnlyControl s t

/-- RELEASE with a code of 0 to 15 in RUN brings every ARMED incident of that group, or of any group for 15, into CLOSING
(ISOLATED at once when its boundary is closed-confirmed) as released; the others stay in their slots as they are, RESTORING
ones apart. A unicast RELEASE is DONE with the number released; a broadcast is not answered, and has no effect outside
RUN. -/
def Obligations.ReleaseClosesArmedIncidents : Prop :=
  ∀ (s : State) (code : Nat), code ≤ 15 → s.SlotsSound →
    (s.store.mode ≠ .run → Yields (.release true code) s s)
    ∧ (s.store.mode = .run →
      let freed (inc : Incident) : Bool := decide (inc.state = .armed ∧ (inc.group = code ∨ code = 15))
      ∃ t, Yields (.release true code) s t
        ∧ Answers (.release false code) s 0x36#8 .done (be1 (s.engine.slots.countP fun e => freed e.2)) t
        ∧ (∀ e ∈ s.engine.slots, freed e.2 = true →
            t.slot e.1 = some
              { e.2 with released := true,
                         state := if ∀ v ∈ e.2.boundary, (s.dyn v).confirmed = true then .isolated else .closing }
            ∧ ∀ v ∈ e.2.boundary, e.2.number ∈ (t.dyn v).holders)
        ∧ (∀ e ∈ s.engine.slots, freed e.2 = false → e.2.state ≠ .restoring → t.slot e.1 = some e.2)
        ∧ OnlyControl s t)

/-- REPLAN of an incident that is neither PLANNING nor RESTORING is ACCEPTED, sets its replan-pending flag and sends a plan
request: the plan in progress, when it is the incident's, becomes stale; an incident that waits in the plan queue keeps its
place; else it joins the tail, and starts at once when no plan is in progress. In PLANNING and RESTORING it is refused with
WRONG_STATE, and for a number of no incident with UNKNOWN_ID. -/
def Obligations.ReplanSendsAPlanRequest : Prop :=
  ∀ s : State, s.store.mode = .run → s.SlotsSound → s.PlannerSound →
    (∀ n, (∀ e ∈ s.engine.slots, e.2.number ≠ n) → Answers (.replan n) s 0x33#8 .unknownId [] s)
    ∧ ∀ (slot : Nat) (inc : Incident), (slot, inc) ∈ s.engine.slots →
      (inc.state = .planning ∨ inc.state = .restoring → Answers (.replan inc.number) s 0x33#8 .wrongState [] s)
      ∧ (inc.state ≠ .planning → inc.state ≠ .restoring →
        let marked : State :=
          { s with engine := { s.engine with
              slots := Table.put s.engine.slots slot { inc with replanPending := true } } }
        (∀ p, s.planner.plan = some p → p.incident = inc.number →
          Answers (.replan inc.number) s 0x33#8 .accepted []
            { marked with planner := ⟨s.planner.queue, some { p with stale := true }⟩ })
        ∧ (∀ p, s.planner.plan = some p → p.incident ≠ inc.number →
          Answers (.replan inc.number) s 0x33#8 .accepted []
            { marked with planner :=
                ⟨if inc.number ∈ s.planner.queue then s.planner.queue else s.planner.queue ++ [inc.number], some p⟩ })
        ∧ (s.planner.plan = none →
          Answers (.replan inc.number) s 0x33#8 .accepted []
            { marked with planner := ⟨[], some (newPlan inc.number inc.region)⟩ }))

/-- RESTORE of a RESTORING incident is DONE and changes nothing; of a PLANNING incident that holds no valve it is DONE and
makes the slot FREE; of any other it is ACCEPTED: the incident leaves the consent queue and the planner and is RESTORING,
with INCIDENT_STATE raised before any other report, its restore list what is left of its held valves, those of the boundary
set in reverse order before the others in descending id. A valve that is not left on the list is no longer held by the
incident; while no other incident is RESTORING, valves are left only with as many of its opening moves in flight as the
policy allows, and with none left the slot is FREE unless an opening move of the incident is in flight. The slot is FREE
only with no valve held and no opening move of the incident in flight; and an incident that holds no valve and has no
opening move in flight is FREE at once, with INCIDENT_STATE. The plan
in progress afterwards is another incident's and stale; that this holds too of a plan that starts at this very RESTORE is the
model's reading (log 31). -/
def Obligations.RestoreReleasesInReverseOrder : Prop :=
  ∀ (s : State) (slot : Nat) (inc : Incident), s.store.mode = .run → s.SlotsSound → s.ConsentSound → s.PlannerSound →
    (slot, inc) ∈ s.engine.slots →
    let held := (s.drive.valves.filter fun e => e.2.holders.contains inc.number).map (·.1)
    (inc.state = .restoring → Answers (.restore inc.number) s 0x34#8 .done [] s)
    ∧ (inc.state = .planning → held = [] →
      ∃ t, Answers (.restore inc.number) s 0x34#8 .done [] t
        ∧ t.engine = { s.engine with slots := Table.erase s.engine.slots slot }
        ∧ inc.number ∉ t.planner.queue
        ∧ (∀ p, t.planner.plan = some p → p.incident ≠ inc.number ∧ p.stale = true)
        ∧ t = { s with engine := t.engine, planner := t.planner,
                       reports := s.raised .incidentState (.incident inc.number) 0
                         [some 1, some inc.planCount, some inc.region.length, some inc.boundary.length] })
    ∧ (inc.state ≠ .restoring → ¬(inc.state = .planning ∧ held = []) →
      ∃ t, Answers (.restore inc.number) s 0x34#8 .accepted [] t
        ∧ inc.number ∉ t.engine.consentQueue ∧ inc.number ∉ t.planner.queue
        ∧ (∀ p, t.planner.plan = some p → p.incident ≠ inc.number ∧ p.stale = true)
        ∧ (s.raised .incidentState (.incident inc.number) 7
            [some inc.state.code, some inc.planCount, some inc.region.length, some inc.boundary.length]).queue
              <+: t.reports.queue
        ∧ (∀ u, t.slot slot = some u → u.number = inc.number ∧ u.state = .restoring
            ∧ u.restoreList <:+ (inc.boundary.reverse.filter fun v => held.contains v)
                ++ (held.reverse.filter fun v => !inc.boundary.contains v))
        ∧ (∀ v, inc.number ∈ (t.dyn v).holders → ∃ u, t.slot slot = some u ∧ v ∈ u.restoreList)
        ∧ ((∀ e ∈ s.engine.slots, e.2.state ≠ .restoring) → s.ValvesSound →
            ∀ u, t.slot slot = some u → t.RestoreWaits u)
        ∧ (t.slot slot = none → ∀ v, inc.number ∉ (t.dyn v).holders ∧ ¬t.Opens inc.number v)
        ∧ (s.ValvesSound → held = [] → (∀ v, ¬s.Opens inc.number v) → t.slot slot = none
            ∧ t.reports.Keeps ⟨.incidentState, s.reports.timeBase, .incident inc.number, 0,
                [some 7, some inc.planCount, some inc.region.length, some inc.boundary.length]⟩)
        ∧ OnlyControl s t)

/-- CREW_RESULT for a present MANUAL valve in RUN is DONE: CLOSED puts the position at 1000 with the closed-confirmed flag
set and OPENED at 0 with it clear, and a SUSPECT valve becomes OPERABLE; FAILED makes the valve INOPERABLE and leaves
position and flag; no other valve's position, flag or operability changes. For an ACTUATED valve it is refused with
WRONG_STATE, for an absent one with UNKNOWN_ID. -/
def Obligations.CrewResultSetsTheValve : Prop :=
  ∀ (s : State) (valve result : Nat), s.store.mode = .run → 1 ≤ valve → valve ≤ 1023 → result ≤ 2 →
    (Table.get s.map.valves valve = none → Answers (.crewResult valve result) s 0x32#8 .unknownId [] s)
    ∧ ∀ r, Table.get s.map.valves valve = some r →
      (∀ p, r.kind = .actuated p → Answers (.crewResult valve result) s 0x32#8 .wrongState [] s)
      ∧ (r.kind = .manual →
        ∃ t, Answers (.crewResult valve result) s 0x32#8 .done [] t
          ∧ (t.dyn valve).position =
              (if result = 0 then some 1000 else if result = 1 then some 0 else (s.dyn valve).position)
          ∧ (t.dyn valve).confirmed =
              (if result = 0 then true else if result = 1 then false else (s.dyn valve).confirmed)
          ∧ (t.dyn valve).operability =
              (if result = 2 then .inoperable
               else if (s.dyn valve).operability = .suspect then .operable else (s.dyn valve).operability)
          ∧ (∀ u ≠ valve, (t.dyn u).position = (s.dyn u).position ∧ (t.dyn u).confirmed = (s.dyn u).confirmed
              ∧ (t.dyn u).operability = (s.dyn u).operability)
          ∧ OnlyControl s t)

/-- SET_OPERABILITY for a present valve in RUN or CONFIG gives it the operability and makes a plan in progress stale when
that is a change; no valve's position or closed-confirmed flag and no other valve's operability changes. INOPERABLE for a
valve with an active move or a crew request outstanding is refused with WRONG_STATE. -/
def Obligations.SetOperabilityMarksTheValve : Prop :=
  ∀ (s : State) (valve : Nat) (x : Operability), s.store.mode = .run ∨ s.store.mode = .config → 1 ≤ valve →
    valve ≤ 1023 → Table.has s.map.valves valve = true →
    let busy := (s.dyn valve).move ≠ none ∨ (s.dyn valve).motion = .crewClose ∨ (s.dyn valve).motion = .crewOpen
    (x = .inoperable ∧ busy → Answers (.setOperability valve x.code) s 0x35#8 .wrongState [] s)
    ∧ (¬(x = .inoperable ∧ busy) →
      ∃ t, Answers (.setOperability valve x.code) s 0x35#8 .done [] t
        ∧ (t.dyn valve).operability = x ∧ (∀ u ≠ valve, (t.dyn u).operability = (s.dyn u).operability)
        ∧ (∀ u, (t.dyn u).position = (s.dyn u).position ∧ (t.dyn u).confirmed = (s.dyn u).confirmed)
        ∧ ((s.dyn valve).operability ≠ x → ∀ p, t.planner.plan = some p → p.stale = true)
        ∧ OnlyControl s t)

/-- PLAN_COMPLETE with no plan in progress does nothing (log 2); a stale plan starts again unstale, from the region
recorded; an unstale plan of an incident that notes no other incident is published: the record takes the plan, its count
rises, its flag is cleared, and the incident becomes UNCONTAINED, AWAIT_CONSENT, ARMED or CLOSING (ISOLATED at once when
the boundary is closed-confirmed) by the cause, the consent result and the release; the next incident's plan starts. -/
def Obligations.PlanCompletionPublishes : Prop :=
  ∀ s : State,
    (s.planner.plan = none → Yields .planComplete s s)
    ∧ (∀ p, s.planner.plan = some p → p.stale = true →
      Yields .planComplete s
        { s with planner := { s.planner with plan := some (newPlan p.incident (s.recordedRegion p.incident)) } })
    ∧ ∀ (slot : Nat) (inc : Incident) (q : PlanInProgress), s.planner.plan = some q → q.incident = inc.number →
      q.stale = false → (slot, inc) ∈ s.engine.slots → s.SlotsSound → inc.state ≠ .restoring →
      (s.makePlan inc).noted = [] →
      let p := s.makePlan inc
      ∃ t u, Yields .planComplete s t ∧ t.slot slot = some u
        ∧ u.number = inc.number ∧ u.region = p.region ∧ u.boundary = p.boundary ∧ u.outage = p.outage
        ∧ u.customersInRegion = p.customersInRegion ∧ u.customersInOutage = p.customersInOutage
        ∧ u.priorityHit = p.priorityHit ∧ u.cause = p.cause ∧ u.replanPending = false
        ∧ u.planCount = (inc.planCount + 1) % 256
        ∧ u.state =
            (if p.cause ≠ none then .uncontained
             else if p.consentNeeded = true then .awaitConsent
             else if inc.released = false ∧ inc.group ≠ 0 then .armed
             else if ∀ v ∈ p.boundary, (s.dyn v).confirmed = true then .isolated
             else .closing)
        ∧ (s.ConsentSound → (inc.number ∈ t.engine.consentQueue ↔ u.state = .awaitConsent))
        ∧ t.planner.queue = s.planner.queue.drop 1 ∧ t.planner.plan.map (·.incident) = s.planner.queue.head?
        ∧ OnlyControl s t

/-- PLAN_COMPLETE of an unstale plan that notes other incidents merges them: the earliest declared of those concerned, in
the lowest slot on equal times, survives under its number; the others' slots become FREE, they leave the consent and plan
queues, and in every holder set the survivor stands in their place. The survivor's region is the plan's when the plan was its
own, and else its own followed by more. Other incidents stay as they are, RESTORING ones apart. -/
def Obligations.MergeLeavesTheEarliestIncident : Prop :=
  ∀ (s : State) (slot : Nat) (inc : Incident) (q : PlanInProgress), s.planner.plan = some q → q.incident = inc.number →
    q.stale = false → (slot, inc) ∈ s.engine.slots → s.SlotsSound → inc.state ≠ .restoring → (s.makePlan inc).noted ≠ [] →
    let concerned (y : Incident) : Prop := y.number = inc.number ∨ y.number ∈ (s.makePlan inc).noted
    ∃ w ∈ s.engine.slots, concerned w.2
      ∧ (∀ e ∈ s.engine.slots, concerned e.2 →
          w.2.declaredAt < e.2.declaredAt ∨ w.2.declaredAt = e.2.declaredAt ∧ w.1 ≤ e.1)
      ∧ ∃ t u, Yields .planComplete s t ∧ t.slot w.1 = some u ∧ u.number = w.2.number
        ∧ (w.2.number = inc.number → u.region = (s.makePlan inc).region)
        ∧ (w.2.number ≠ inc.number → w.2.region <+: u.region)
        ∧ (∀ e ∈ s.engine.slots, concerned e.2 → e.1 ≠ w.1 →
            t.slot e.1 = none ∧ e.2.number ∉ t.engine.consentQueue ∧ e.2.number ∉ t.planner.queue
              ∧ ∀ v, e.2.number ∉ (t.dyn v).holders ∧ (e.2.number ∈ (s.dyn v).holders → w.2.number ∈ (t.dyn v).holders))
        ∧ (∀ e ∈ s.engine.slots, ¬concerned e.2 → e.2.state ≠ .restoring → t.slot e.1 = some e.2)
        ∧ OnlyControl s t

/-- A plan without an uncontained cause is contained: its boundary set is exactly the valves with one end in its region, at
most 64, every one of them usable for the incident, and it stands in closing sequence order: by closing rank, then
operability (OPERABLE, SUSPECT, INOPERABLE), then id. -/
def Obligations.ContainedPlanHasAUsableBoundary : Prop :=
  ∀ (s : State) (inc : Incident), Table.Wf s.map.valves → (s.makePlan inc).cause = none →
    let p := s.makePlan inc
    (∀ v, v ∈ p.boundary ↔ ∃ r, Table.get s.map.valves v = some r
        ∧ ((r.endA ≠ 0 ∧ r.endA ∈ p.region) ∧ ¬(r.endB ≠ 0 ∧ r.endB ∈ p.region)
          ∨ ¬(r.endA ≠ 0 ∧ r.endA ∈ p.region) ∧ (r.endB ≠ 0 ∧ r.endB ∈ p.region)))
    ∧ p.boundary.length ≤ 64
    ∧ (∀ v ∈ p.boundary, ∀ r, Table.get s.map.valves v = some r → s.usable inc v r = true)
    ∧ p.boundary.Pairwise fun u v =>
        s.rankOf u < s.rankOf v
          ∨ s.rankOf u = s.rankOf v
            ∧ ((s.dyn u).operability.code < (s.dyn v).operability.code
              ∨ (s.dyn u).operability = (s.dyn v).operability ∧ u < v)

/-- A plan's region begins with the recorded region in its order, holds no segment twice and no more than 48 when the
recorded region does; a segment of another active incident's region is taken only with that incident noted. -/
def Obligations.PlanRegionGrowsFromTheRecord : Prop :=
  ∀ (s : State) (inc : Incident), inc.region.Nodup → inc.region.length ≤ 48 →
    let p := s.makePlan inc
    inc.region <+: p.region ∧ p.region.Nodup ∧ p.region.length ≤ 48
      ∧ ∀ other ∈ s.activeIncidents, other.number ≠ inc.number → (∀ x ∈ other.region, x ∉ inc.region) →
          s.RegionsDisjoint → (∃ x ∈ other.region, x ∈ p.region) → other.number ∈ p.noted

/-- The walk of the supply computation finds exactly the segments that a SOURCE feeds through passable valves without
entering a segment that is out. -/
def Obligations.SupplyIsReachabilityFromSources : Prop :=
  ∀ (s : State) (number : Nat) (shut cut : List Nat) (x : Nat),
    x ∈ s.supplied number shut cut ↔ s.Fed number shut cut x

/-- A plan's new outage is the present segments outside its region that were supplied before and are not with the boundary
shut and the region cut off; its tallies sum the customers; and consent is needed for PRIORITY, for more customers than the
threshold, or for an incident declared so. -/
def Obligations.PlanTalliesOutageAndConsent : Prop :=
  ∀ (s : State) (inc : Incident), Table.Wf s.map.segments → (s.makePlan inc).cause = none →
    let p := s.makePlan inc
    let customers (x : Nat) : Nat := ((Table.get s.map.segments x).map (·.customers)).getD 0
    let priority (x : Nat) : Prop := ∃ r, Table.get s.map.segments x = some r ∧ r.priority = true
    (∀ x, x ∈ p.outage ↔ Table.has s.map.segments x = true ∧ x ∉ p.region ∧ s.Fed inc.number [] [] x
        ∧ ¬s.Fed inc.number p.boundary p.region x)
    ∧ p.outage.Pairwise (· < ·)
    ∧ p.customersInRegion = (p.region.map customers).sum ∧ p.customersInOutage = (p.outage.map customers).sum
    ∧ (p.priorityHit = true ↔ ∃ x, (x ∈ p.region ∨ x ∈ p.outage) ∧ priority x)
    ∧ (p.consentNeeded = true ↔ p.priorityHit = true ∨ s.map.policy.threshold < p.customersInRegion + p.customersInOutage
        ∨ inc.always = true)

/-! ### The valve drive (04) -/

/-- MOVE_TIMER_EXPIRY. The first of a move makes an OPERABLE valve SUSPECT and issues the DRIVE of the phase again from the
position as it stands, with the timer to be set when that DRIVE is acknowledged: in BACKOFF with its target kept, in
CLOSING_FAST and CLOSING_SLOW that of the position's band (at 995 or more the move completes instead), in CHARGING and
OPENING that of the same phase. The second ends the move with the valve INOPERABLE; that of a closing move with a starter asks
for the replanning of the incidents that hold the valve, RESTORING ones apart; and a restore whose opening move has ended goes
on. All this for a valve on no RESTORING incident's restore list. A timer that is not RUNNING has nothing to expire (the
model's choice, log 2). -/
def Obligations.MoveTimerExpiresTwice : Prop :=
  ∀ (s : State) (v : Nat) (p : ActuatedPart) (m : Move), s.SlotsSound → s.actuated v = some p →
    (s.dyn v).move = some m → s.Unlisted v →
    (m.standing ≠ .running → Yields (.moveTimerExpiry v) s s)
    ∧ (m.standing = .running → m.expiries = 0 →
        let d := s.dyn v
        let position := d.position.getD 0
        let again (motion : Motion) (target rate preset : Nat) : ValveDyn :=
          { d with
            operability := if d.operability = .operable then .suspect else d.operability
            motion := motion
            move := some { m with
              expiries := 1, timerLeft := 0, phaseTarget := target, rate := rate, standing := .stopped
              command := some ⟨.drive target rate, s.drive.serial, false⟩
              setsTimer := some (s.drive.serial, preset) } }
        ∃ t, Yields (.moveTimerExpiry v) s t
          ∧ (d.motion = .backoff → t.dyn v = again .backoff m.phaseTarget p.fast (timerOf (ceilDiv 20 p.fast)))
          ∧ (d.motion = .closingFast ∨ d.motion = .closingSlow →
              (position < p.throttlePoint → position < 995 →
                t.dyn v = again .closingFast p.throttlePoint p.fast (timerOf (p.closeTime position)))
              ∧ (p.throttlePoint ≤ position → position < 995 →
                t.dyn v = again .closingSlow 1000 p.slow (timerOf (p.closeTime position)))
              ∧ (995 ≤ position → d.confirmed = true →
                t.dyn v = { d with
                  motion := .idle, move := none
                  operability := if d.operability = .inoperable then .inoperable else .operable }))
          ∧ (d.motion = .charging →
              t.dyn v = again .charging (1000 - p.chargeOpening) p.slow
                (timerOf (ceilDiv (d.position.getD 1000 - (1000 - p.chargeOpening)) p.slow)))
          ∧ (d.motion = .opening →
              t.dyn v = again .opening 0 p.fast (timerOf (ceilDiv (d.position.getD 1000) p.fast)))
          ∧ OnlyControl s t)
    ∧ (m.standing = .running → m.expiries ≠ 0 →
        ∃ t, Yields (.moveTimerExpiry v) s t
          ∧ t.dyn v = { s.dyn v with operability := .inoperable, move := none, motion := .idle }
          ∧ (m.direction = .close → m.starter ≠ none →
              ∀ e ∈ s.engine.slots, e.2.state ≠ .restoring → e.2.number ∈ (s.dyn v).holders → t.Replans e)
          ∧ RestoreGoesOn s t ∧ OnlyControl s t)

/-- The rates and times of a closing move: the fast rate is 1000 over the stroke time rounded up; the slow rate is the fast
rate over the slow ratio, rounded down, and at least 1; the timer's preset is the time expected for what is left of the two
bands, a quarter of it more, and 10 s, held in milliseconds (log 3). -/
def Obligations.ClosureTimersFollowTheStroke : Prop :=
  ∀ (p : ActuatedPart) (position : Nat), 10 ≤ p.strokeTime → p.strokeTime ≤ 1000 → 500 ≤ p.throttlePoint →
    p.throttlePoint ≤ 990 → 1 ≤ p.slowRatio → p.slowRatio ≤ 8 → position ≤ 1000 →
    (1000 ≤ p.fast * p.strokeTime ∧ p.fast * p.strokeTime < 1000 + p.strokeTime)
    ∧ 1 ≤ p.slow ∧ (p.slowRatio ≤ p.fast → p.slow * p.slowRatio ≤ p.fast ∧ p.fast < (p.slow + 1) * p.slowRatio)
    ∧ ∃ a b, p.closeTime position = a + b
      ∧ (p.throttlePoint - position ≤ a * p.fast ∧ a * p.fast < p.throttlePoint - position + p.fast)
      ∧ (1000 - max position p.throttlePoint ≤ b * p.slow ∧ b * p.slow < 1000 - max position p.throttlePoint + p.slow)
      ∧ timerOf (p.closeTime position) = (a + b + (a + b) / 4 + 10) * 1000

/-- SURGE_STALL of a HOLDING valve with a maximum hold, not yet reported, notes the maximum hold as elapsed and raises
SURGE_STALL with the station's last pressure (the model's reading, log 15), and changes nothing else; DWELL_END of a valve
in DWELL issues the DRIVE to fully open at the fast rate, with its timer to be set at the acknowledgement. In any other
condition neither does anything (the model's choice, log 2). -/
def Obligations.SurgeStallAndDwellEnd : Prop :=
  ∀ (s : State) (v : Nat) (p : ActuatedPart) (m : Move), s.actuated v = some p → (s.dyn v).move = some m →
    ((s.dyn v).motion = .holding → p.maximumHold ≠ 0 → m.stallReported = false →
      ∃ t, Yields (.surgeStall v) s t
        ∧ t.dyn v = { s.dyn v with
            move := some { m with holdElapsed := p.maximumHold * 1000, stallReported := true } }
        ∧ (∀ u ≠ v, t.dyn u = s.dyn u)
        ∧ t = { s with drive := { s.drive with valves := t.drive.valves }
                       reports := s.raised .surgeStall (.valve v) 0
                         [(s.station p.line p.address).pressure, some p.maximumHold, (s.dyn v).position] })
    ∧ (¬((s.dyn v).motion = .holding ∧ p.maximumHold ≠ 0 ∧ m.stallReported = false) → Yields (.surgeStall v) s s)
    ∧ ((s.dyn v).motion = .dwell →
      let position := min ((s.dyn v).position.getD 1000) (1000 - p.chargeOpening)
      ∃ t, Yields (.dwellEnd v) s t
        ∧ t.dyn v = { s.dyn v with
            motion := .opening
            move := some { m with
              dwellLeft := 0, phaseTarget := 0, rate := p.fast, standing := .stopped
              command := some ⟨.drive 0 p.fast, s.drive.serial, false⟩
              setsTimer := some (s.drive.serial, timerOf (ceilDiv position p.fast)) } }
        ∧ (∀ u ≠ v, t.dyn u = s.dyn u)
        ∧ ((s.control.get p.line).queue.length < 16 →
            ∃ e ∈ (t.control.get p.line).queue,
              e = ⟨p.address, p.channel, .drive 0 p.fast, v, s.drive.serial⟩)
        ∧ (∀ l ≠ p.line, t.control.get l = s.control.get l)
        ∧ t = { s with drive := t.drive, control := t.control })
    ∧ ((s.dyn v).motion ≠ .dwell → Yields (.dwellEnd v) s s)

/-- CREW_OVERDUE of a valve with a crew timer raises CREW_OVERDUE, with the policy's crew timeout as the minutes waited (the
model's reading, log 15), and discards the timer; with the action REPORT nothing else
changes; with PLAN_AROUND every incident that holds the valve, RESTORING ones apart, excludes it and is to be replanned. -/
def Obligations.CrewOverdueReportsOrPlansAround : Prop :=
  ∀ (s : State) (v : Nat), s.SlotsSound → (s.dyn v).crewLeft ≠ none →
    let action := s.map.policy.overdueAction
    ∃ t, Yields (.crewOverdue v) s t
      ∧ t.reports = s.raised .crewOverdue (.valve v) (if (s.dyn v).motion = .crewOpen then 1 else 0)
          [some (match action with | .report => 0 | .planAround => 1), some s.map.policy.crewTimeout]
      ∧ t.dyn v = { s.dyn v with crewLeft := none } ∧ (∀ u ≠ v, t.dyn u = s.dyn u)
      ∧ (action = .report → t.engine = s.engine ∧ t.planner = s.planner)
      ∧ (action = .planAround → ∀ e ∈ s.engine.slots,
          t.slot e.1 = some
            (if e.2.number ∈ (s.dyn v).holders ∧ e.2.state ≠ .restoring then
              { e.2 with
                replanPending := true
                excluded :=
                  if v ∈ e.2.excluded ∨ 64 ≤ e.2.excluded.length then e.2.excluded else e.2.excluded ++ [v] }
             else e.2))
      ∧ t = { s with engine := t.engine, planner := t.planner, reports := t.reports,
                     drive := { s.drive with valves := t.drive.valves } }

/-! ### Field lines, stations and line supply (05, 06) -/

/-- EXCHANGE_START of a line in RUN that is enabled (as at the last entry to RUN), ON and without an exchange: with fewer than four urgent exchanges in a
row, or no entry due, the head of the urgent queue starts and the count rises; else the most overdue entry's poll or probe
starts, of equally overdue ones that of the lowest address, and the count is 0; with neither, nothing happens (the model's
choice, log 2). An entry is due from the very instant of its due time (the model's reading, log 28). -/
def Obligations.ExchangeStartChooses : Prop :=
  ∀ (s : State) (l : Line), s.store.mode = .run → (s.control.get l).enabled = true →
    (s.supply.get l).state = .on → (s.control.get l).exchange = none →
    let c := s.control.get l
    let dueNow := ∃ e ∈ c.schedule, e.due ≤ s.elapsed
    (∀ e rest, c.queue = e :: rest → (c.urgentCount < 4 ∨ ¬dueNow) →
      Yields (.exchangeStart l) s
        { s with
          control := s.control.set l
            { c with exchange := some (started e.address (.command e)), queue := rest,
                     urgentCount := if c.urgentCount < 255 then c.urgentCount + 1 else 255 } })
    ∧ (dueNow → (c.queue = [] ∨ 4 ≤ c.urgentCount) →
      ∃ d ∈ c.schedule, d.due ≤ s.elapsed
        ∧ (∀ e ∈ c.schedule, d.due < e.due ∨ d.due = e.due ∧ d.address ≤ e.address)
        ∧ Yields (.exchangeStart l) s
            { s with
              control := s.control.set l
                { c with exchange := some (started d.address (if d.probe then .probe else .poll)), urgentCount := 0 } })
    ∧ (¬dueNow → c.queue = [] → Yields (.exchangeStart l) s s)

/-- FIELD_REQUEST_SENT opens the response window of the exchange in flight, by the line's speed (as at the last entry to RUN) and
the station's extra delay; FIELD_REPLY_START closes it with a reply begun; FIELD_UNSOLICITED_CHARS changes nothing; POLL_DUE, while the supply
is ON, makes a station's entry due, a later due time being set to now (the model's reading, log 28). OVERCURRENT_START on a
supply that is ON without the condition starts its time from 0, and on one that is not ON it does nothing (the model's
choice, log 2); OVERCURRENT_END ends the condition and sets the time to 0; TIME_ON_REACHED of a supply that is ON with its
time on still counted sets the trip count to 0. None changes anything else. -/
def Obligations.ExchangesAndSuppliesRunTheirCourse : Prop :=
  (∀ (s : State) (l : Line),
    (∀ x e, (s.control.get l).exchange = some x → x.sent = false →
      Table.get s.map.stations (Line.code l * 256 + x.address) = some e →
      Yields (.fieldRequestSent l) s
        { s with
          control := s.control.set l
            { s.control.get l with
              exchange := some { x with
                sent := true
                window := some ((match (s.control.get l).speed with
                                 | .b9600 => 60
                                 | .b19200 => 40
                                 | .b38400 => 30) + e.extraDelay * 10) } } })
    ∧ (∀ x n, (s.control.get l).exchange = some x → x.window = some n →
      Yields (.fieldReplyStart l) s
        { s with
          control := s.control.set l
            { s.control.get l with exchange := some { x with replyBegun := true, window := none } } })
    ∧ (∀ characters, Yields (.fieldUnsolicitedChars l characters) s s)
    ∧ ∀ address, (s.supply.get l).state = .on →
      Yields (.pollDue l address) s
        { s with
          control := s.control.set l
            { s.control.get l with
              schedule := (s.control.get l).schedule.map fun e =>
                if e.address = address then { e with due := min e.due s.elapsed } else e } })
  ∧ ∀ (s : State) (l : Line),
    let u := s.supply.get l
    (u.state = .on → u.overcurrent = false →
      Yields (.overcurrentStart l) s { s with supply := s.supply.set l { u with overcurrent := true, overTime := 0 } })
    ∧ (u.state ≠ .on → Yields (.overcurrentStart l) s s)
    ∧ Yields (.overcurrentEnd l) s { s with supply := s.supply.set l { u with overcurrent := false, overTime := 0 } }
    ∧ (u.state = .on → u.timeOn ≠ none →
      Yields (.timeOnReached l) s { s with supply := s.supply.set l { u with tripCount := 0, timeOn := none } })

/-- An exchange completes with an error at RESPONSE_WINDOW_EXPIRY of an open window, as NO_REPLY, and at FIELD_REPLY_END of a
reply judged CORRUPT, WRONG_ADDRESS or MALFORMED. The line has none in flight, the error is the last and is counted up to
255, the first that finds 255 being reported as LINE_LOG_OVERFLOW; the station's fault score rises by 16 for no reply and
by 8 for a bad one, held at 160, with the state that the score gives, and a change of state is reported; an OFFLINE
station's probe run is 0. In RUN and QUIESCING the station's poll entry follows: after a poll the last time is now and the
next is due an interval later, an erring command leaves it but for a change of the interval, a probe is due again in 5 s,
and a station that becomes OFFLINE has a probe entry due in 5 s. Such a station's reachable valves, those on a RESTORING
incident's restore list apart, lose their moves, keep their positions, and fail as UNREACHABLE, with a mark of the model's own
whether VALVE_FAILED is raised (log 37), and those that rely on them are replanned; restores go on. In
QUIESCING the last exchange in flight leaves the mode CONFIG, with MODE_CHANGED; else the mode stays. No other station's
record and no other line's exchange or error log changes. -/
def Obligations.ErringExchangeIsCountedAndScored : Prop :=
  ∀ (s : State) (l : Line) (x : Exchange) (i : Instr) (error : LineError), (s.control.get l).exchange = some x →
    (i = .responseWindowExpiry l ∧ x.window ≠ none ∧ error = .noReply
      ∨ ∃ reply, i = .fieldReplyEnd l reply ∧ x.replyBegun = true ∧ judgeReply x.address reply = .error error) →
    let c := s.control.get l
    let r := s.station l x.address
    let score := min 160 (r.score + if error = .noReply then 16 else 8)
    ∃ t, Yields i s t
      ∧ (t.control.get l).exchange = none ∧ (t.control.get l).lastError = error
      ∧ (t.control.get l).errorLog = (if c.errorLog < 255 then c.errorLog + 1 else 255)
      ∧ (t.control.get l).overflowReported = (c.overflowReported || decide (255 ≤ c.errorLog))
      ∧ (255 ≤ c.errorLog → c.overflowReported = false →
          t.reports.Keeps ⟨.lineLogOverflow, s.reports.timeBase, .line l, 0, [some error.code]⟩)
      ∧ (r.state = .offline → t.station l x.address = { r with probeRun := 0 })
      ∧ (r.state ≠ .offline →
          let state : StationState := if 160 ≤ score then .offline else if 64 ≤ score then .degraded else .online
          t.station l x.address = { r with score := score, state := state,
                                           probeRun := if state = .offline then 0 else r.probeRun }
          ∧ (state ≠ r.state → t.reports.Keeps
              ⟨.stationHealth, s.reports.timeBase, .station l x.address, state.code,
                [some r.state.code, some score, some error.code]⟩))
      ∧ (s.store.mode = .run ∨ s.store.mode = .quiescing → ∀ e ∈ c.schedule, e.address = x.address →
          let interval := t.interval l x.address
          let lost := decide ((t.station l x.address).state = .offline)
          ∃ e' ∈ (t.control.get l).schedule, e'.address = x.address
            ∧ (r.state ≠ .offline → e.probe = false → e'.probe = lost)
            ∧ (r.state ≠ .offline → e.probe = false → x.kind = .poll →
                e'.last = some s.elapsed ∧ e'.due = s.elapsed + if lost then 5000 else interval)
            ∧ (r.state ≠ .offline → e.probe = false → ∀ q, x.kind = .command q →
                e'.last = e.last
                ∧ e'.due = if lost then s.elapsed + 5000 else if e.interval = interval then e.due
                    else match e.last with | some last => last + interval | none => e.due)
            ∧ (r.state = .offline → e.probe = true → x.kind = .probe →
                e'.probe = true ∧ e'.last = some s.elapsed ∧ e'.due = s.elapsed + 5000))
      ∧ (s.SlotsSound → Table.Wf s.map.valves → r.state ≠ .offline → 160 ≤ score →
          ∀ v p, (v, p) ∈ s.valvesOfLine l → p.address = x.address → s.reachable v = true → s.Unlisted v →
          t.dyn v = s.lostDyn v ∧ FailsUnreachable s t v)
      ∧ RestoreGoesOn s t
      ∧ EndsQuiescing l s t
      ∧ (∀ k ≠ Line.code l * 256 + x.address, Table.get t.stations k = Table.get s.stations k)
      ∧ (∀ k ≠ l, (t.control.get k).exchange = (s.control.get k).exchange
          ∧ (t.control.get k).errorLog = (s.control.get k).errorLog)
      ∧ t.map = s.map ∧ t.supply = s.supply ∧ t.alarms = s.alarms ∧ t.link = s.link ∧ t.elapsed = s.elapsed

/-- FIELD_REPLY_END of a reply that has begun, when it is the STATION_STATE frame of the station asked: the exchange
completes as good, no error is counted, an ONLINE or DEGRADED station's score falls by 1 with the state that it gives, its
pressure is the reply's with a tap and UNKNOWN without one, its local-control flags are the reply's, and the valve of each
channel takes its position. An OFFLINE station's probe run rises by 1, and at 8 the station is ONLINE with score 0 and run
0. A change of state is reported. In RUN and QUIESCING the poll entry follows: after a poll or a command the last time is
now and the next is due an interval later; a probe is due again in 5 s; and the entry of a recovered station is a poll's,
due at once (while no valve of it has a move; a move that starts then times it anew, log 28). A reachable valve whose
channel the reply shows in local control, on no RESTORING incident's restore list, loses its move and fails as UNREACHABLE,
no command for it waits any longer (the model's reading, log 64), and those that rely on it are replanned; this comes before
the valve drive judges the reply, so that VALVE_FAILED carries the position of before (the model's reading, log 13). A held
closed-confirmed valve without a move that was in local control before, and is seen open, raises OFF_NORMAL, and VALVE_FAILED
UNREACHABLE with the replanning unless the model's mark says that this loss of reachability raised it (log 37). Restores go
on. In QUIESCING the last exchange in flight leaves the mode CONFIG, with MODE_CHANGED; else the mode stays. -/
def Obligations.GoodReplyIsTaken : Prop :=
  ∀ (s : State) (l : Line) (x : Exchange) (payload : List Byte), (s.control.get l).exchange = some x →
    x.replyBegun = true → 1 ≤ x.address → x.address ≤ 16 → payload.length = 14 →
    (∀ i ∈ [2, 5, 8, 11], ∀ b, payload[i]? = some b → b.toNat ≤ 7) → Table.Wf s.map.valves →
    let reply := readReply payload
    let r := s.station l x.address
    let recovers := r.state = .offline ∧ 8 ≤ r.probeRun + 1
    ∃ t, Yields (replyEnds l x payload) s t
      ∧ (t.control.get l).exchange = none ∧ (t.control.get l).errorLog = (s.control.get l).errorLog
      ∧ (t.control.get l).lastError = (s.control.get l).lastError
      ∧ (r.state ≠ .offline → r.score ≤ 160 →
          (t.station l x.address).score = r.score - 1
          ∧ (t.station l x.address).state = (if 64 ≤ r.score - 1 then .degraded else .online)
          ∧ (t.station l x.address).probeRun = r.probeRun)
      ∧ (r.state = .offline → ¬recovers →
          (t.station l x.address).score = r.score ∧ (t.station l x.address).state = .offline
          ∧ (t.station l x.address).probeRun = r.probeRun + 1)
      ∧ (recovers → (t.station l x.address).score = 0 ∧ (t.station l x.address).state = .online
          ∧ (t.station l x.address).probeRun = 0)
      ∧ ((t.station l x.address).state ≠ r.state → t.reports.Keeps
          ⟨.stationHealth, s.reports.timeBase, .station l x.address, (t.station l x.address).state.code,
            [some r.state.code, some (t.station l x.address).score, some (if r.state = .offline then 5 else 0)]⟩)
      ∧ (∀ e, Table.get s.map.stations (Line.code l * 256 + x.address) = some e →
          (t.station l x.address).pressure = if e.tap then reply.pressure else none)
      ∧ (∀ c, 1 ≤ c → c ≤ 4 → (t.station l x.address).localControl.get c = (reply.channels.get c).localControl)
      ∧ ((t.station l x.address).moving = true ↔ ∃ c, 1 ≤ c ∧ c ≤ 4 ∧ (reply.channels.get c).moving = true)
      ∧ (∀ c v p, 1 ≤ c → c ≤ 4 → s.valveOfChannel l x.address c = some (v, p) →
          (t.dyn v).position = (reply.channels.get c).position)
      ∧ (∀ v, (∀ c, 1 ≤ c → c ≤ 4 → ∀ p, s.valveOfChannel l x.address c ≠ some (v, p)) →
          (t.dyn v).position = (s.dyn v).position)
      ∧ (s.store.mode = .run ∨ s.store.mode = .quiescing → ∀ e ∈ (s.control.get l).schedule, e.address = x.address →
          ∃ e' ∈ (t.control.get l).schedule, e'.address = x.address
            ∧ (r.state ≠ .offline → r.score ≤ 160 → e.probe = false → x.kind ≠ .probe →
                e'.probe = false ∧ e'.last = some s.elapsed ∧ e'.due = s.elapsed + t.interval l x.address)
            ∧ (r.state = .offline → e.probe = true → x.kind = .probe →
                e'.last = some s.elapsed
                ∧ (¬recovers → e'.probe = true ∧ e'.due = s.elapsed + 5000)
                ∧ (recovers → e'.probe = false)
                ∧ (recovers → (∀ v p, (v, p) ∈ s.valvesOfLine l → p.address = x.address →
                    (s.dyn v).move = none ∧ (t.dyn v).move = none) → e'.due = s.elapsed)))
      ∧ (s.SlotsSound → r.state ≠ .offline → r.score ≤ 160 →
          ∀ c v p, 1 ≤ c → c ≤ 4 → s.valveOfChannel l x.address c = some (v, p) → s.reachable v = true → s.Unlisted v →
          (reply.channels.get c).localControl = true →
          (t.dyn v).move = none ∧ ((s.dyn v).move ≠ none → (t.dyn v).motion = .idle)
            ∧ (∀ e ∈ (t.control.get l).queue, ¬(e.address = x.address ∧ e.channel = c)) ∧ FailsUnreachable s t v)
      ∧ (s.SlotsSound → ∀ c v p n, 1 ≤ c → c ≤ 4 → s.valveOfChannel l x.address c = some (v, p) →
          r.localControl.get c = true → (reply.channels.get c).localControl = true →
          (reply.channels.get c).position = some n → n < 995 → s.Unlisted v →
          let d := s.dyn v
          d.confirmed = true → d.move = none → d.holders ≠ [] →
          (t.dyn v).confirmed = false ∧ (t.dyn v).toldUnreachable = true
            ∧ t.reports.Keeps ⟨.offNormal, s.reports.timeBase, .valve v, 0, [some n, some d.holders.length]⟩
            ∧ (d.toldUnreachable = false →
                t.reports.Keeps
                  ⟨.valveFailed, s.reports.timeBase, .valve v, 2, [some n, some d.holders.length, some 0]⟩
                ∧ ∀ e ∈ s.engine.slots, e.2.state ≠ .restoring → e.2.number ∈ d.holders → t.Replans e)
            ∧ (d.toldUnreachable = true →
                ∀ q ∈ t.reports.queue, q.kind = .valveFailed → q.subject = .valve v → q ∈ s.reports.queue))
      ∧ RestoreGoesOn s t
      ∧ EndsQuiescing l s t
      ∧ t.map = s.map ∧ t.supply = s.supply ∧ t.alarms = s.alarms ∧ t.link = s.link

/-- A good reply, to a poll, a probe or a command, moves a valve on that is reachable, with its channel in remote control, its
position known and on no RESTORING incident's restore list; the acknowledgement of a command is taken after that. A closing move completes closed and at
rest, holds above the ceiling of a guarded valve with SURGE_HOLD, or passes to its slow band 5 before the throttle point. A
HOLDING valve, which keeps the last DRIVE's target and rate (log 56) and after the hold the hold elapsed (log 66), goes on at the resume level with SURGE_RESUME, its time
in whole tenths (log 3), completing at 995, notes a torque trip if a DRIVE was acknowledged before the hold and not by the
reply that starts it (log 18), and handles a noted one at that level. A trip after the DRIVE's acknowledgement backs a valve
off by 20 at the fast rate while retries are left, its timer running on (a frozen one too, log 20; one that a line reset
STOPPED in a hold stays STOPPED, log 48); else it is INOPERABLE, and the holders of a failed closing move, RESTORING ones apart, are to be
replanned. Within 5 of the target and at rest a back-off goes on with a fresh DRIVE or completes at 995, and CHARGING goes
on to DWELL, its command discarded (log 23) and its target and rate kept (log 56), or, without one, to OPENING, which
completes at 5 or less at rest; a restore with nothing left to open is then over and its slot FREE. A DRIVE that a line reset discarded is issued again, after a completion or a hold and
before a change of band (log 19), an opening one by the phase chosen afresh (log 51). The acknowledgement of the move's
DRIVE sets the timer, after a change of band too (log 18), but not by a reply that starts a hold (log 50). A held valve without a move that is seen open loses
its flag: OFF_NORMAL is raised, in local control VALVE_FAILED UNREACHABLE too (the model's reading, log 37), an ISOLATED
incident returns to CLOSING, and if it can it is commanded again within the allowance. -/
def Obligations.GoodReplyMovesTheValveOn : Prop :=
  (∀ (s : State) (l : Line) (x : Exchange) (payload : List Byte) (c v n : Nat) (p : ActuatedPart) (m : Move)
    (moving trip : Bool),
    s.Answered l x payload c v p → s.SlotsSound → s.StationsSound → s.Unlisted v →
    Table.Wf s.map.valves → s.reachable v = true → (s.dyn v).move = some m →
    (readReply payload).channels.get c = ⟨some n, moving, trip, false⟩ →
    let d := s.dyn v
    let pressure :=
      match Table.get s.map.stations (Line.code l * 256 + x.address) with
      | some e => if e.tap then (readReply payload).pressure else none
      | none => none
    let shown := { d with position := some n, confirmed := decide (995 ≤ n) }
    let seen := trip = true ∧ ∃ target rate serial, m.command = some ⟨.drive target rate, serial, true⟩
    let surge := s.guarded p = true ∧ ∃ q, pressure = some q ∧ p.surgeCeiling < q
    let resumes := ∃ q, pressure = some q ∧ q ≤ p.surgeCeiling - p.surgeHysteresis
    let closing := m.direction = .close ∧ (d.motion = .closingFast ∨ d.motion = .closingSlow)
    let finished := { shown with motion := .idle, move := none }
    let redeemed := { finished with operability := if d.operability = .suspect then .operable else d.operability }
    let driven (motion : Motion) (target rate preset serial : Nat) (m : Move) : ValveDyn :=
      { shown with
        motion := motion
        move := some { m with
          phaseTarget := target, rate := rate, standing := .stopped, command := some ⟨.drive target rate, serial, false⟩
          setsTimer := some (serial, preset) } }
    let band (serial : Nat) (m : Move) : ValveDyn :=
      if n < p.throttlePoint then driven .closingFast p.throttlePoint p.fast (timerOf (p.closeTime n)) serial m
      else driven .closingSlow 1000 p.slow (timerOf (p.closeTime n)) serial m
    let openings (serial : Nat) (m : Move) : ValveDyn :=
      if 1000 - p.chargeOpening < n then
        driven .charging (1000 - p.chargeOpening) p.slow (timerOf (p.chargeTime n)) serial m
      else driven .opening 0 p.fast (timerOf (ceilDiv n p.fast)) serial m
    let backs := match m.direction with | .close => n - 20 | .openUp => min 1000 (n + 20)
    let backedOff (serial : Nat) (m : Move) : ValveDyn :=
      { shown with
        motion := .backoff
        move := some { m with
          retriesUsed := m.retriesUsed + 1
          resume := if d.motion = .backoff then m.resume else some d.motion
          standing := if m.standing = .frozen then .running else m.standing
          phaseTarget := backs, rate := p.fast, command := some ⟨.drive backs p.fast, serial, false⟩ } }
    let driving := d.motion = .closingFast ∨ d.motion = .closingSlow ∨ d.motion = .charging ∨ d.motion = .opening
      ∨ d.motion = .backoff
    let acked (d : ValveDyn) : ValveDyn :=
      match x.kind with
      | .command e => if e.valve = v then { d with move := d.move.map (·.acknowledged e.kind e.serial) } else d
      | _ => d
    let noted := m.tripNoted || (trip && m.notesTrips)
    let failed (t : State) : Prop :=
      t.dyn v = { finished with operability := .inoperable }
        ∧ (m.direction = .close → m.starter ≠ none →
            ∀ e ∈ s.engine.slots, e.2.state ≠ .restoring → e.2.number ∈ d.holders → t.Replans e)
    ∃ t serial, Yields (replyEnds l x payload) s t ∧ s.drive.serial ≤ serial
      ∧ (closing → ¬seen → 995 ≤ n → moving = false → t.dyn v = redeemed)
      ∧ (closing → ¬seen → ¬(995 ≤ n ∧ moving = false) → surge →
        t.dyn v = acked { shown with
          motion := .holding
          move := some { m with
            standing := .frozen, setsTimer := none, holdStart := s.reports.timeBase, holdElapsed := 0
            stallReported := false, tripNoted := false, notesTrips := m.driveAcked
            command := some ⟨.stop, serial, false⟩ } }
        ∧ t.reports.Keeps ⟨.surgeHold, s.reports.timeBase, .valve v, 0,
            [pressure, some p.surgeCeiling, some n, some (m.starter.getD 0)]⟩)
      ∧ (closing → ¬surge → m.command = none →
        (n < 995 → t.dyn v = acked (band serial m)) ∧ (995 ≤ n → t.dyn v = redeemed))
      ∧ (d.motion = .closingFast → ¬seen → ¬(995 ≤ n ∧ moving = false) → ¬surge → m.command ≠ none →
        p.throttlePoint - 5 ≤ n →
        t.dyn v = acked { shown with
          motion := .closingSlow
          move := some { m with
            phaseTarget := 1000, rate := p.slow, command := some ⟨.drive 1000 p.slow, serial, false⟩ } })
      ∧ (closing → ¬seen → ¬(995 ≤ n ∧ moving = false) → ¬surge → m.command ≠ none →
        (d.motion = .closingFast → n < p.throttlePoint - 5) → t.dyn v = acked shown)
      ∧ (d.motion = .holding →
        (¬resumes → t.dyn v = acked { shown with move := some { m with tripNoted := noted } })
        ∧ (resumes → noted = false →
          (n < 995 → t.dyn v = acked (band serial { m with tripNoted := false })) ∧ (995 ≤ n → t.dyn v = redeemed)
          ∧ t.reports.Keeps ⟨.surgeResume, s.reports.timeBase, .valve v, 0,
              [pressure, some (m.holdElapsed / 100), some n]⟩)
        ∧ (resumes → noted = true →
          (m.retriesUsed < p.torqueRetries → t.dyn v = acked (backedOff serial { m with tripNoted := false }))
          ∧ (¬m.retriesUsed < p.torqueRetries → failed t)))
      ∧ (driving → seen →
        (m.retriesUsed < p.torqueRetries → t.dyn v = acked (backedOff serial m))
        ∧ (¬m.retriesUsed < p.torqueRetries → failed t))
      ∧ (d.motion = .backoff → ¬seen → n ≤ m.phaseTarget + 5 → m.phaseTarget ≤ n + 5 → moving = false →
        (m.direction = .close →
          (n < 995 → t.dyn v = acked (band serial { m with resume := none })) ∧ (995 ≤ n → t.dyn v = redeemed))
        ∧ (m.direction = .openUp → t.dyn v = acked (openings serial { m with resume := none })))
      ∧ (d.motion = .charging → ¬seen → n ≤ 1000 - p.chargeOpening + 5 → 1000 - p.chargeOpening ≤ n + 5 →
        moving = false →
        (p.chargeDwell ≠ 0 →
          t.dyn v = acked { shown with
            motion := .dwell
            move := some { m with
              command := none, timerLeft := 0, standing := .stopped, setsTimer := none
              dwellLeft := p.chargeDwell * 1000 } })
        ∧ (p.chargeDwell = 0 →
          t.dyn v = acked (driven .opening 0 p.fast (timerOf (ceilDiv (min n (1000 - p.chargeOpening)) p.fast)) serial
            { m with timerLeft := 0, dwellLeft := 0 })))
      ∧ (d.motion = .opening → ¬seen → n ≤ 5 → moving = false → d.holders = [] →
        t.dyn v = redeemed
        ∧ (s.ValvesSound → ∀ e ∈ s.engine.slots, e.2.state = .restoring → e.2.restoreList = [] →
          (∀ u, s.Opens e.2.number u → u = v) → t.slot e.1 = none))
      ∧ (m.command = none →
        (d.motion = .backoff → ¬(n ≤ m.phaseTarget + 5 ∧ m.phaseTarget ≤ n + 5 ∧ moving = false) →
          t.dyn v = acked (driven .backoff m.phaseTarget p.fast (timerOf (ceilDiv 20 p.fast)) serial m))
        ∧ (d.motion = .charging →
          ¬(n ≤ 1000 - p.chargeOpening + 5 ∧ 1000 - p.chargeOpening ≤ n + 5 ∧ moving = false) →
          t.dyn v = acked (openings serial m))
        ∧ (d.motion = .opening → ¬(n ≤ 5 ∧ moving = false) → t.dyn v = acked (openings serial m)))
      ∧ (∀ e target rate acked, x.kind = .command e → e.valve = v → e.kind = .drive target rate →
        m.command = some ⟨e.kind, e.serial, acked⟩ → m.since ≤ e.serial →
        closing → trip = false → n < 995 → ¬surge → (d.motion = .closingFast → n < p.throttlePoint - 5) →
        (∀ preset, m.setsTimer = some (e.serial, preset) →
          t.dyn v = { shown with
            move := some { m with
              command := some ⟨e.kind, e.serial, true⟩, driveAcked := true, timerLeft := preset, standing := .running
              setsTimer := none } })
        ∧ (m.setsTimer = none →
          t.dyn v = { shown with
            move := some { m with command := some ⟨e.kind, e.serial, true⟩, driveAcked := true } })))
  ∧ ∀ (s : State) (l : Line) (x : Exchange) (payload : List Byte) (c v n : Nat) (p : ActuatedPart)
    (moving trip remote : Bool),
    s.Answered l x payload c v p → s.SlotsSound → s.StationsSound → s.Unlisted v →
    Table.Wf s.map.valves → s.reachable v = true → (s.dyn v).move = none → (s.dyn v).confirmed = true →
    (s.dyn v).holders ≠ [] → n < 995 →
    (readReply payload).channels.get c = ⟨some n, moving, trip, !remote⟩ →
    ∃ t, Yields (replyEnds l x payload) s t ∧ (t.dyn v).position = some n ∧ (t.dyn v).confirmed = false
      ∧ t.reports.Keeps ⟨.offNormal, s.reports.timeBase, .valve v, 0, [some n, some (s.dyn v).holders.length]⟩
      ∧ (remote = false →
        t.reports.Keeps
          ⟨.valveFailed, s.reports.timeBase, .valve v, 2, [some n, some (s.dyn v).holders.length, some 0]⟩)
      ∧ (∀ e ∈ s.engine.slots, e.2.state = .isolated → v ∈ e.2.boundary →
          ∃ u, t.slot e.1 = some u ∧ u.number = e.2.number ∧ u.state = .closing)
      ∧ (remote = true → s.store.mode = .run → (s.dyn v).motion = .idle → (s.dyn v).operability ≠ .inoperable →
          ∀ e ∈ t.engine.slots, e.2.state.permitted = true → e.2.number ∈ (t.dyn v).holders →
            (t.dyn v).move ≠ none ∨ s.map.policy.parallel ≤ t.closingCount e.2.number)

/-- A station's reply is judged by the first test it fails. It is CORRUPT with any character without its stop bit, without
the start marker, shorter than the envelope or longer than 20 bytes, with a length field that does not agree, or with a
wrong check word; a sound frame from another address is WRONG_ADDRESS; and a kind, a length or a condition byte (above 7)
that is not STATION_STATE's is MALFORMED. A sound STATION_STATE is read, its positions clamped to 1000 and its pressure to
4000, FFFF hexadecimal being UNKNOWN. -/
def Obligations.StationReplyIsJudgedByItsFirstDefect : Prop :=
  (∀ (address : Nat) (reply : List Character),
    let frame := reply.map (·.byte)
    ((∃ c ∈ reply, c.stopBit = false) ∨ frame.head? ≠ some 0xC3#8 ∨ frame.length < 6 ∨ 20 < frame.length
      ∨ (∀ n, frame[3]? = some n → n.toNat + 6 ≠ frame.length)
      ∨ frame.drop (frame.length - 2) ≠ be2 (checkWord ((frame.drop 1).take (frame.length - 3))).toNat) →
    judgeReply address reply = .error .corrupt)
  ∧ ∀ (address other : Nat) (payload : List Byte), address < 256 → other < 256 → other ≠ address → payload.length ≤ 14 →
    let characters (frame : List Byte) : List Character := frame.map fun b => ⟨b, true⟩
    (∀ kind, judgeReply address (characters (frameOf 0xC3#8 other kind payload)) = .error .wrongAddress)
    ∧ (∀ kind, kind ≠ 0x80#8 → judgeReply address (characters (frameOf 0xC3#8 address kind payload)) = .error .malformed)
    ∧ (payload.length ≠ 14 → judgeReply address (characters (frameOf 0xC3#8 address 0x80#8 payload)) = .error .malformed)
    ∧ (∀ i ∈ [2, 5, 8, 11], ∀ b, payload[i]? = some b → 7 < b.toNat →
        judgeReply address (characters (frameOf 0xC3#8 address 0x80#8 payload)) = .error .malformed)
    ∧ (payload.length = 14 → (∀ i ∈ [2, 5, 8, 11], ∀ b, payload[i]? = some b → b.toNat ≤ 7) →
        ∃ reply, judgeReply address (characters (frameOf 0xC3#8 address 0x80#8 payload)) = .good reply
          ∧ (∀ c, 1 ≤ c → c ≤ 4 → ∀ hi lo cond, payload[3 * c - 3]? = some hi → payload[3 * c - 2]? = some lo →
              payload[3 * c - 1]? = some cond →
              reply.channels.get c =
                ⟨if hi.toNat * 256 + lo.toNat = 65535 then none else some (min (hi.toNat * 256 + lo.toNat) 1000),
                  cond.getLsbD 0, cond.getLsbD 1, cond.getLsbD 2⟩)
          ∧ ∀ hi lo, payload[12]? = some hi → payload[13]? = some lo →
              reply.pressure =
                if hi.toNat * 256 + lo.toNat = 65535 then none else some (min (hi.toNat * 256 + lo.toNat) 4000))

/-- SUPPLY_TRIP of a supply that is ON in overcurrent: the trip counts while the supply has been ON for less than 30 s, and
at 30 s the count is 0 first; at the trip limit the supply is LOCKED_OFF and otherwise TRIPPED, with the retry interval
running in RUN; LINE_SUPPLY is raised first, ahead of the valve drive's reports (the model's reading, log 29), with the time
on in whole tenths rounded down (the model's choice, log 3); the exchange in flight is abandoned and the urgent queue emptied; the tripped
flag is set. The line's reachable valves, those on a RESTORING incident's restore list apart, lose their moves, keep their
positions, and fail as UNREACHABLE, with a mark of the model's own whether VALVE_FAILED is raised (log 37), and the incidents
that rely on them are replanned; restores go on. In QUIESCING, with no other line's exchange in flight, the
mode becomes CONFIG, with MODE_CHANGED; else it stays. No other supply changes. -/
def Obligations.SupplyTripsOrLocksOff : Prop :=
  ∀ (s : State) (l : Line), (s.supply.get l).state = .on → (s.supply.get l).overcurrent = true →
    let u := s.supply.get l
    let settings := s.map.lines.get l
    let count :=
      match u.timeOn with
      | none => u.tripCount
      | some n => if 30000 ≤ n then 0 else if u.tripCount < 15 then u.tripCount + 1 else 15
    let locked := settings.tripLimit ≤ count
    ∃ t, Yields (.supplyTrip l) s t
      ∧ (t.supply.get l).tripCount = count ∧ (t.supply.get l).trippedFlag = true
      ∧ (t.supply.get l).overcurrent = false ∧ (t.supply.get l).timeOn = none
      ∧ (locked → (t.supply.get l).state = .lockedOff ∧ (t.supply.get l).retryLeft = none)
      ∧ (¬locked → (t.supply.get l).state = .tripped
          ∧ (t.supply.get l).retryLeft =
              if s.store.mode = .run then some (settings.retryInterval * 1000) else none)
      ∧ (∀ k ≠ l, t.supply.get k = s.supply.get k)
      ∧ (s.raised .lineSupply (.line l) (if settings.tripLimit ≤ count then 3 else 2)
          [some count, some settings.tripLimit, some ((u.timeOn.map (· / 100)).getD 300)]).queue <+: t.reports.queue
      ∧ (t.control.get l).exchange = none ∧ (t.control.get l).queue = []
      ∧ (s.SlotsSound → Table.Wf s.map.valves →
          ∀ v p, (v, p) ∈ s.valvesOfLine l → s.reachable v = true → s.Unlisted v →
          t.dyn v = s.lostDyn v ∧ FailsUnreachable s t v)
      ∧ RestoreGoesOn s t
      ∧ EndsQuiescing l s t
      ∧ (∀ k ≠ l, (t.control.get k).exchange = (s.control.get k).exchange)
      ∧ t.map = s.map ∧ t.stations = s.stations ∧ t.alarms = s.alarms ∧ t.link = s.link ∧ t.elapsed = s.elapsed

/-- SUPPLY_RETRY of a TRIPPED supply in RUN, and SUPPLY_ON in RUN for an enabled line that is TRIPPED or LOCKED_OFF, switch
the supply ON: the retry ends, the positions of the line's valves are UNKNOWN, and every entry of the poll schedule is due
at once. SUPPLY_ON answers DONE with the state, leaves a supply that is ON, or OFF (log 33), alone, and is refused with
WRONG_STATE for a line that is not enabled. -/
def Obligations.SupplyIsSwitchedOnAgain : Prop :=
  ∀ (s : State) (l : Line), s.store.mode = .run →
    let u := s.supply.get l
    let switchedOn (t : State) : Prop :=
      t.supply = s.supply.set l { u with state := .on, timeOn := some 0, retryLeft := none }
        ∧ (∀ v p, (v, p) ∈ s.valvesOfLine l → (t.dyn v).position = none)
        ∧ (∀ e ∈ (t.control.get l).schedule, e.last = none ∧ e.due = s.elapsed)
        ∧ (t.control.get l).schedule.map (·.address) = (s.control.get l).schedule.map (·.address)
        ∧ t.map = s.map ∧ t.stations = s.stations ∧ t.store = s.store ∧ t.alarms = s.alarms ∧ t.link = s.link
    (u.state = .tripped → u.retryLeft ≠ none → ∃ t, Yields (.supplyRetry l) s t ∧ switchedOn t)
    ∧ ((s.map.lines.get l).enabled = false → Answers (.supplyOn (Line.code l)) s 0x52#8 .wrongState [] s)
    ∧ ((s.map.lines.get l).enabled = true → (u.state = .tripped ∨ u.state = .lockedOff) →
        ∃ t, Answers (.supplyOn (Line.code l)) s 0x52#8 .done [1#8] t ∧ switchedOn t)
    ∧ ((s.map.lines.get l).enabled = true → u.state = .on → Answers (.supplyOn (Line.code l)) s 0x52#8 .done [1#8] s)
    ∧ ((s.map.lines.get l).enabled = true → u.state = .off → Answers (.supplyOn (Line.code l)) s 0x52#8 .done [0#8] s)

/-- RESET_LINE in RUN for an enabled line is DONE: no exchange in flight, only commands issued anew in the urgent queue,
error log, flags and counts as after a full reset, every entry of the schedule a poll due at once; every station's record
ONLINE with score 0; the supply ON with trip count 0; the positions of the line's valves UNKNOWN; their moves kept, with
the command discarded and the timer STOPPED, but for valves on a RESTORING incident's restore list; a plan in progress stale; other lines'
supplies and error logs as before. For a line that is not enabled it is refused with WRONG_STATE. That a station's MOVING
mark is kept (log 24), and that a supply that is OFF is switched ON (log 33), are the model's readings; "issued anew" is
told by the serials, the model's own (log 17). -/
def Obligations.ResetLineStartsTheLineAnew : Prop :=
  ∀ (s : State) (l : Line), s.store.mode = .run →
    ((s.map.lines.get l).enabled = false → Answers (.resetLine (Line.code l)) s 0x51#8 .wrongState [] s)
    ∧ ((s.map.lines.get l).enabled = true →
      ∃ t, Answers (.resetLine (Line.code l)) s 0x51#8 .done [] t
        ∧ (t.control.get l).exchange = none ∧ (∀ e ∈ (t.control.get l).queue, s.drive.serial ≤ e.serial)
        ∧ (t.control.get l).urgentCount = 0 ∧ (t.control.get l).errorLog = 0
        ∧ (t.control.get l).overflowReported = false ∧ (t.control.get l).lastError = .none
        ∧ (∀ e ∈ (t.control.get l).schedule, e.probe = false ∧ e.last = none ∧ e.due = s.elapsed)
        ∧ (t.control.get l).schedule.map (·.address) = (s.control.get l).schedule.map (·.address)
        ∧ (∀ address ≤ 16, ∀ r, Table.get s.stations (Line.code l * 256 + address) = some r →
            t.station l address = ⟨0, .online, 0, none, ⟨false, false, false, false⟩, r.moving⟩)
        ∧ (∀ k, lineOfKey k ≠ some l → Table.get t.stations k = Table.get s.stations k)
        ∧ t.supply = s.supply.set l
            { s.supply.get l with state := .on, timeOn := some 0, tripCount := 0, retryLeft := none, overTime := 0 }
        ∧ (∀ v p, (v, p) ∈ s.valvesOfLine l → (t.dyn v).position = none)
        ∧ (Table.Wf s.map.valves →
            ∀ v p m, (v, p) ∈ s.valvesOfLine l → s.Unlisted v → Table.has s.map.stations (Line.code l * 256 + p.address) = true →
              1 ≤ p.address → p.address ≤ 16 → (s.dyn v).move = some m →
              (t.dyn v).motion = (s.dyn v).motion
                ∧ (t.dyn v).move = some { m with command := none, standing := .stopped, setsTimer := none })
        ∧ (∀ p, t.planner.plan = some p → p.stale = true)
        ∧ (∀ k ≠ l, (t.control.get k).errorLog = (s.control.get k).errorLog
            ∧ (t.control.get k).exchange = (s.control.get k).exchange)
        ∧ t.map = s.map ∧ t.store = s.store ∧ t.alarms = s.alarms ∧ t.link = s.link ∧ t.elapsed = s.elapsed)

/-! ### Alarm inputs (07) -/

/-- ALARM_LEVEL_CHANGE starts the debounce timer when the new level differs from the debounced one, with 1.0 s in the first
period, whatever time a PUT_ALARM has set (the model's choice, log 61), and stops it when they agree; DEBOUNCE_EXPIRY of a running timer takes the level: no change of assertion raises
nothing, a REPORT_ONLY assertion is latched and reported, one with DECLARE is deferred outside RUN and declares in RUN, and a
deassertion is reported. -/
def Obligations.AlarmsAreDebouncedAndJudged : Prop :=
  ∀ (s : State) (i : Fin 8),
    let x := s.alarms[i]
    let settings := s.map.alarms[i]
    let taken : AlarmInput := { x with debounced := some x.level, timer := none }
    let was := decide (x.debounced = some settings.active ∧ settings.segment ≠ 0)
    let now := decide (x.level = settings.active ∧ settings.segment ≠ 0)
    let report (detail incident : Nat) : ReportUnit :=
      s.raised .alarmInput (.input (i.val + 1)) detail
        [some settings.segment, some incident, some (Level.code x.level), some 0]
    let expiry : Instr := .debounceExpiry (i.val + 1)
    (∀ level, level ≠ x.level →
      Yields (.alarmLevelChange (i.val + 1) level) s
        { s with
          alarms := s.alarms.set i
            { x with level := level
                     timer := if x.debounced = some level then none
                              else some (if x.debounced = none then 1000 else settings.debounce * 100) } })
    ∧ (x.timer ≠ none → x.debounced ≠ some x.level →
      (was = now → Yields expiry s { s with alarms := s.alarms.set i taken })
      ∧ (was = true → now = false → Yields expiry s { s with alarms := s.alarms.set i taken, reports := report 6 0 })
      ∧ (was = false → now = true → settings.action = .reportOnly →
        Yields expiry s { s with alarms := s.alarms.set i { taken with latched := true }, reports := report 0 0 })
      ∧ (was = false → now = true → settings.action = .declare → s.store.mode ≠ .run →
        Yields expiry s
          { s with alarms := s.alarms.set i { taken with latched := true, deferred := true }, reports := report 4 0 })
      ∧ (was = false → now = true → settings.action = .declare → s.store.mode = .run →
        let latched : State := { s with alarms := s.alarms.set i { taken with latched := true } }
        (s.RegionsDisjoint → ∀ inc ∈ s.activeIncidents, settings.segment ∈ inc.region →
          Yields expiry s { latched with reports := report 2 inc.number })
        ∧ ((∀ inc ∈ s.activeIncidents, settings.segment ∉ inc.region) → (∀ k ≤ 3, s.slot k ≠ none) →
          Yields expiry s { latched with reports := report 3 0 })
        ∧ ((∀ inc ∈ s.activeIncidents, settings.segment ∉ inc.region) → ∀ k ≤ 3, s.slot k = none →
          (∀ j < k, s.slot j ≠ none) →
          ∃ t inc, Yields expiry s t ∧ t.slot k = some inc ∧ inc.number = s.engine.counter ∧ inc.state = .planning
            ∧ inc.region = [settings.segment] ∧ inc.origin = .alarm (i.val + 1) ∧ inc.group = 0
            ∧ inc.always = false ∧ inc.declaredAt = s.reports.timeBase
            ∧ t = { latched with
                engine := t.engine, planner := t.planner
                reports := (s.raised .incidentState (.incident inc.number) 1
                    [some 0, some 0, some 1, some 0]).raise
                  ⟨.alarmInput, s.reports.timeBase, .input (i.val + 1), 1,
                    [some settings.segment, some inc.number, some (Level.code x.level), some 0]⟩ })))

/-! ### Reports and attention lines (08) -/

/-- A raised record of a MASKED kind is counted and discarded; else, with 32 records waiting, it is lost and counted; else
it joins the tail, stamped with the time base, and the attention lines are derived: line n is asserted exactly when a
record of a kind routed to it waits or the queue has reached the watermark. -/
def Obligations.RaisedReportsAreMaskedLostOrQueued : Prop :=
  ∀ (s : State) (kind : ReportKind) (subject : Subject) (detail : Nat) (values : List (Option Nat)),
    let u := s.reports
    let record : Report := ⟨kind, u.timeBase, subject, detail, values⟩
    let after := (raise kind subject detail values s).reports
    raise kind subject detail values s = { s with reports := after }
    ∧ ((u.kind kind).masked = true →
        after.queue = u.queue ∧ after.lost = u.lost
        ∧ after.kind kind = { u.kind kind with
            maskedCount := if (u.kind kind).maskedCount < 255 then (u.kind kind).maskedCount + 1 else 255 }
        ∧ (∀ k ≠ kind, after.kind k = u.kind k) ∧ after = { u with kinds := after.kinds })
    ∧ ((u.kind kind).masked = false → 32 ≤ u.queue.length →
        after = { u with lost := if u.lost < 255 then u.lost + 1 else 255 })
    ∧ ((u.kind kind).masked = false → u.queue.length < 32 →
        after = { u with
          queue := u.queue ++ [record]
          attention0 := decide ((∃ r ∈ u.queue ++ [record], (u.kind r.kind).onLine1 = false)
            ∨ u.watermark ≤ u.queue.length + 1)
          attention1 := decide ((∃ r ∈ u.queue ++ [record], (u.kind r.kind).onLine1 = true)
            ∨ u.watermark ≤ u.queue.length + 1) })

/-- FETCH is DONE in every mode: with records waiting it returns the oldest (kind, time, subject, detail and values), the
number that remain and the lost count, and removes it; with none it returns no record. The lost count becomes 0 and the
attention lines are derived again. -/
def Obligations.FetchReturnsTheOldest : Prop :=
  ∀ s : State,
    let u := s.reports
    (∀ r rest, u.queue = r :: rest →
      let subject : List Byte :=
        match r.subject with
        | .part => be1 0 ++ be2 0
        | .incident n => be1 1 ++ be2 n
        | .valve v => be1 2 ++ be2 v
        | .station l address => be1 3 ++ be2 (Line.code l * 256 + address)
        | .line l => be1 4 ++ be2 (Line.code l)
        | .input i => be1 5 ++ be2 i
      let record : List Byte :=
        be1 r.kind.code ++ be4 r.time ++ subject ++ be1 r.detail ++ be1 r.values.length
          ++ r.values.flatMap fun x => match x with | some n => be4 n | none => [255#8, 255#8, 255#8, 255#8]
      Answers .fetch s 0x40#8 .done (be1 1 ++ be1 rest.length ++ be1 u.lost ++ record)
          { s with reports := { u with
              queue := rest, lost := 0
              attention0 := decide ((∃ x ∈ rest, (u.kind x.kind).onLine1 = false) ∨ u.watermark ≤ rest.length)
              attention1 := decide ((∃ x ∈ rest, (u.kind x.kind).onLine1 = true) ∨ u.watermark ≤ rest.length) } })
    ∧ (u.queue = [] → 1 ≤ u.watermark →
      Answers .fetch s 0x40#8 .done (be1 0 ++ be1 0 ++ be1 u.lost)
        { s with reports := { u with lost := 0, attention0 := false, attention1 := false } })

/-- SET_MASK for a kind other than MASKED_SUMMARY is DONE with the masked count as it stood: MASKED sets the mask; UNMASKED
of a masked kind clears it and, when the count is above 0, raises MASKED_SUMMARY with the kind and the count, and the count
becomes 0, the summary being queued, or lost and counted when the queue is full; UNMASKED of an unmasked kind changes
nothing. MASKED_SUMMARY and a kind outside the 23 are refused with BAD_FIELD naming the kind, another setting naming the
setting. -/
def Obligations.SetMaskCountsAndSums : Prop :=
  ∀ (s : State) (k : ReportKind),
    let u := s.reports
    let x := u.kind k
    (k = .maskedSummary → ∀ setting, Answers (.setMask k.code setting) s 0x41#8 .badField [1#8, 0#8, 0#8, 0#8] s)
    ∧ (∀ kind setting, kind = 0 ∨ 23 < kind → Answers (.setMask kind setting) s 0x41#8 .badField [1#8, 0#8, 0#8, 0#8] s)
    ∧ (k ≠ .maskedSummary →
      (∀ setting, 1 < setting → Answers (.setMask k.code setting) s 0x41#8 .badField [2#8, 0#8, 0#8, 0#8] s)
      ∧ Answers (.setMask k.code 1) s 0x41#8 .done (be1 x.maskedCount)
        { s with reports := u.setKind k { x with masked := true } }
      ∧ (x.masked = false → Answers (.setMask k.code 0) s 0x41#8 .done (be1 x.maskedCount) s)
      ∧ (x.masked = true → x.maskedCount = 0 →
        Answers (.setMask k.code 0) s 0x41#8 .done [0#8]
          { s with reports := u.setKind k { x with masked := false } })
      ∧ (x.masked = true → x.maskedCount ≠ 0 →
        ∃ t, Answers (.setMask k.code 0) s 0x41#8 .done (be1 x.maskedCount) t
          ∧ t = { s with reports := t.reports }
          ∧ t.reports.kind k = { x with masked := false, maskedCount := 0 }
          ∧ (∀ j, j ≠ k → j ≠ .maskedSummary → t.reports.kind j = u.kind j)
          ∧ ((u.kind .maskedSummary).masked = false → u.queue.length < 32 →
              t.reports.queue =
                  u.queue ++ [⟨.maskedSummary, u.timeBase, .part, 0, [some k.code, some x.maskedCount]⟩]
                ∧ t.reports.lost = u.lost
                ∧ t.reports.attention0 = decide ((∃ r ∈ t.reports.queue, (u.kind r.kind).onLine1 = false)
                    ∨ u.watermark ≤ t.reports.queue.length)
                ∧ t.reports.attention1 = decide ((∃ r ∈ t.reports.queue, (u.kind r.kind).onLine1 = true)
                    ∨ u.watermark ≤ t.reports.queue.length))
          ∧ ((u.kind .maskedSummary).masked = false → 32 ≤ u.queue.length →
              t.reports.queue = u.queue ∧ t.reports.lost = if u.lost < 255 then u.lost + 1 else 255)))

/-- SET_ROUTE is taken in every mode: for a kind outside the 23 it is refused with BAD_FIELD naming the kind and for a line
other than 0 or 1 naming the line; otherwise the kind's route is set, its mask and count being kept, the reply is DONE, and
the attention lines are derived again from the routes as they now stand. SET_MASK keeps every kind's route. -/
def Obligations.SetRouteMovesAKind : Prop :=
  ∀ s : State,
    (∀ kind line, kind = 0 ∨ 23 < kind → Answers (.setRoute kind line) s 0x42#8 .badField [1#8, 0#8, 0#8, 0#8] s)
    ∧ (∀ (k : ReportKind) (line : Nat), 1 < line →
        Answers (.setRoute k.code line) s 0x42#8 .badField [2#8, 0#8, 0#8, 0#8] s)
    ∧ (∀ (k : ReportKind) (setting : Nat), k ≠ .maskedSummary → setting ≤ 1 →
        ∃ data t, Answers (.setMask k.code setting) s 0x41#8 .done data t
          ∧ ∀ j, (t.reports.kind j).onLine1 = (s.reports.kind j).onLine1)
    ∧ ∀ (k : ReportKind) (line : Nat), line ≤ 1 →
        ∃ t, Answers (.setRoute k.code line) s 0x42#8 .done [] t ∧ t = { s with reports := t.reports }
          ∧ t.reports.kind k = { s.reports.kind k with onLine1 := decide (line = 1) }
          ∧ (∀ j ≠ k, t.reports.kind j = s.reports.kind j)
          ∧ (t.reports.attention0 = true ↔
              (∃ r ∈ s.reports.queue, (t.reports.kind r.kind).onLine1 = false)
                ∨ s.reports.watermark ≤ s.reports.queue.length)
          ∧ (t.reports.attention1 = true ↔
              (∃ r ∈ s.reports.queue, (t.reports.kind r.kind).onLine1 = true)
                ∨ s.reports.watermark ≤ s.reports.queue.length)
          ∧ t.reports.queue = s.reports.queue ∧ t.reports.lost = s.reports.lost
          ∧ t.reports.watermark = s.reports.watermark ∧ t.reports.timeBase = s.reports.timeBase

/-- SET_WATERMARK is taken in every mode: for a value of 0 or above 32 it is refused with BAD_FIELD naming the value;
otherwise the watermark takes the value, the reply is DONE, and the attention lines are derived again. SET_TIME gives the
time base its value in every mode; sent to the part it is DONE and as a broadcast it is not answered; TIME_BASE_WRAP sets it
to 0, from any value (the model's choice, log 2). Records that wait, declaration times and hold start times keep theirs. -/
def Obligations.WatermarkAndTimeAreSet : Prop :=
  (∀ (s : State) (value : Nat),
    (value = 0 ∨ 32 < value → Answers (.setWatermark value) s 0x43#8 .badField [1#8, 0#8, 0#8, 0#8] s)
    ∧ (1 ≤ value → value ≤ 32 →
      Answers (.setWatermark value) s 0x43#8 .done []
        { s with reports := { s.reports with
            watermark := value
            attention0 := decide ((∃ r ∈ s.reports.queue, (s.reports.kind r.kind).onLine1 = false)
              ∨ value ≤ s.reports.queue.length)
            attention1 := decide ((∃ r ∈ s.reports.queue, (s.reports.kind r.kind).onLine1 = true)
              ∨ value ≤ s.reports.queue.length) } }))
  ∧ ∀ (s : State) (time : Nat), time ≤ 4294967295 →
    Answers (.setTime false time) s 0x50#8 .done [] { s with reports := { s.reports with timeBase := time } }
    ∧ Yields (.setTime true time) s { s with reports := { s.reports with timeBase := time } }
    ∧ Yields .timeBaseWrap s { s with reports := { s.reports with timeBase := 0 } }

/-! ### The host link (09) -/

/-- HOST_CHAR_RECEIVED: in IDLE a character with its stop bit begins a frame and one without leads to DISCARDING; in
RECEIVING it joins the frame, and a 247th, or one without its stop bit, leads to DISCARDING; in DISCARDING it is lost; in
REPLYING before the reply is sent it empties the reply buffer and is taken as in IDLE, and while the reply is sent it is
only heard. When the reply that it empties is that of RESET_PART, the full reset follows at once, as RESETN makes it with
some levels of the strap pins (what they show then is free, log 5), and the character is then taken as in IDLE (the model's
choice, log 25). That a frame given up leaves the buffer empty is the model's choice (log 62). -/
def Obligations.HostCharactersFillTheFrame : Prop :=
  ∀ (s : State) (c : Character),
    let k := s.link
    (k.receiver = .idle → c.stopBit = true →
      Yields (.hostCharReceived c) s { s with link := { k with receiver := .receiving, frame := [c.byte] } })
    ∧ (k.receiver = .idle → c.stopBit = false →
      Yields (.hostCharReceived c) s { s with link := { k with receiver := .discarding, frame := [] } })
    ∧ (k.receiver = .receiving → c.stopBit = true → k.frame.length < 246 →
      Yields (.hostCharReceived c) s { s with link := { k with frame := k.frame ++ [c.byte] } })
    ∧ (k.receiver = .receiving → (c.stopBit = false ∨ 246 ≤ k.frame.length) →
      Yields (.hostCharReceived c) s { s with link := { k with receiver := .discarding, frame := [] } })
    ∧ (k.receiver = .discarding → Yields (.hostCharReceived c) s s)
    ∧ (∀ heard, k.receiver = .replying false heard → k.resetPending = false →
      Yields (.hostCharReceived c) s
        { s with link := { k with
            receiver := if c.stopBit then .receiving else .discarding
            frame := if c.stopBit then [c.byte] else []
            reply := none } })
    ∧ (∀ heard, k.receiver = .replying false heard → k.resetPending = true →
      ∃ ap sp t, ap < 64 ∧ sp < 4 ∧ Yields (.resetnAsserted ap sp) s t
        ∧ Yields (.hostCharReceived c) s
          { t with link := { t.link with
              receiver := if c.stopBit then .receiving else .discarding
              frame := if c.stopBit then [c.byte] else [] } })
    ∧ (∀ heard, k.receiver = .replying true heard →
      Yields (.hostCharReceived c) s { s with link := { k with receiver := .replying true true } })

/-- HOST_FRAME_END. Every request frame does what its command does: for every request whose fields fit their bytes, the
frame of its kind and payload sent to the part's address and ended by silence has the effect and the answer of the request;
a RELEASE or SET_TIME sent as a broadcast has the effect of the broadcast; and any other broadcast, one with a payload of
another length, and a frame to another address, whatever its kind and its payload, has none. A frame to the part of a kind that no request has is answered
UNKNOWN_KIND, and one with a payload of another length than its kind's BAD_FIELD naming field 0. A frame with a wrong
marker, a length byte above 240 or not that of its payload, or a wrong check word, has no effect. The frame buffer is emptied when the frame ends (the model's choice, log
62). In DISCARDING the receiver only goes to IDLE, and in IDLE and REPLYING nothing happens (the model's choice, log 2). -/
def Obligations.RequestFramesDoWhatTheirCommandsDo : Prop :=
  (∀ (s : State) (i : Instr) (k : Byte) (address : Nat), requestKind i = some k → i.wellFormed = true →
    1 ≤ address → address ≤ 62 → s.link.receiver = .receiving →
    (isBroadcast i = false → s.link.address = some address → s.link.frame = requestFrameTo address k i →
      exec .hostFrameEnd s = exec i (receiverIdle s))
    ∧ (isBroadcast i = true → s.link.frame = requestFrameTo 0 k i → exec .hostFrameEnd s = exec i (receiverIdle s))
    ∧ (k ≠ 0x36#8 → k ≠ 0x50#8 → s.link.frame = requestFrameTo 0 k i → Yields .hostFrameEnd s (receiverIdle s))
    ∧ (s.link.address ≠ some address → s.link.frame = requestFrameTo address k i →
      Yields .hostFrameEnd s (receiverIdle s)))
  ∧ (∀ (s : State) (k : Byte) (address : Nat) (payload : List Byte), 1 ≤ address → address ≤ 62 → payload.length ≤ 240 →
    s.link.receiver = .receiving →
    (s.link.address = some address → s.link.frame = frameOf 0xA5#8 address k payload → (∀ i, requestKind i ≠ some k) →
      Yields .hostFrameEnd s (answered k ⟨receiverIdle s, .unknownKind, []⟩))
    ∧ (∀ i, requestKind i = some k → payload.length ≠ (requestPayload i).length →
      (s.link.address = some address → s.link.frame = frameOf 0xA5#8 address k payload →
        Yields .hostFrameEnd s (answered k ⟨receiverIdle s, .badField, [0#8, 0#8, 0#8, 0#8]⟩))
      ∧ (s.link.frame = frameOf 0xA5#8 0 k payload → Yields .hostFrameEnd s (receiverIdle s))))
  ∧ (∀ (s : State) (k : Byte) (payload : List Byte), payload.length ≤ 240 → s.link.receiver = .receiving →
    (k ≠ 0x36#8 → k ≠ 0x50#8 → s.link.frame = frameOf 0xA5#8 0 k payload → Yields .hostFrameEnd s (receiverIdle s))
    ∧ ∀ address, 1 ≤ address → address ≤ 255 → s.link.address ≠ some address →
        s.link.frame = frameOf 0xA5#8 address k payload → Yields .hostFrameEnd s (receiverIdle s))
  ∧ (∀ s : State, s.link.receiver = .receiving →
    (s.link.frame.head? ≠ some 0xA5#8 ∨ (∀ n, s.link.frame[3]? = some n → 240 < n.toNat ∨ n.toNat + 6 ≠ s.link.frame.length)
      ∨ s.link.frame.drop (s.link.frame.length - 2)
          ≠ be2 (checkWord ((s.link.frame.drop 1).take (s.link.frame.length - 3))).toNat) →
    Yields .hostFrameEnd s (receiverIdle s))
  ∧ ∀ s : State,
    (s.link.receiver = .discarding → Yields .hostFrameEnd s { s with link := { s.link with receiver := .idle } })
    ∧ (s.link.receiver = .idle → Yields .hostFrameEnd s s)
    ∧ ∀ sending heard, s.link.receiver = .replying sending heard → Yields .hostFrameEnd s s

/-! ### What every step keeps -/

/-- Every step keeps the report unit sound (at most 32 records, counts up to 255, a watermark of 1 to 32, and both attention
lines as the queue, the routes and the watermark give them), every station's state as its score gives it, and every line
sound (at most 16 commands in an urgent queue with no channel twice, and every count in its range). -/
def Obligations.StepsKeepReportsStationsAndLinesSound : Prop :=
  ∀ s t : State, step s = .next t →
    (s.reports.Sound → t.reports.Sound) ∧ (s.StationsSound → t.StationsSound) ∧ (s.LinesSound → t.LinesSound)

/-- Every step keeps the tables of the map and of its saved image, and the dynamic records of the valves, in their canonical
form, positions within 0 to 1000 and holder sets in ascending number; and the host's frame within 246 bytes. -/
def Obligations.StepsKeepTablesCanonical : Prop :=
  ∀ s t : State, s.MapsSound → s.ValvesSound → s.FrameFits → step s = .next t →
    t.MapsSound ∧ t.ValvesSound ∧ t.FrameFits

/-- Every step keeps the slots sound (at most four incidents, of different numbers, the counter at a number not in use), the
planner sound, and every slot FREE while the part is not in RUN. -/
def Obligations.StepsKeepSlotsAndPlannerSound : Prop :=
  ∀ s t : State, s.SlotsSound → s.PlannerSound → s.IdleOutsideRun → step s = .next t →
    t.SlotsSound ∧ t.PlannerSound ∧ t.IdleOutsideRun

/-- Every step keeps the regions of the active incidents disjoint. -/
def Obligations.StepsKeepRegionsDisjoint : Prop :=
  ∀ s t : State, s.SlotsSound → s.RegionsDisjoint → step s = .next t → t.RegionsDisjoint

/-- Every step keeps the consent queue to the incidents in AWAIT_CONSENT, each once. -/
def Obligations.StepsKeepTheConsentQueue : Prop :=
  ∀ s t : State, s.SlotsSound → s.ConsentSound → step s = .next t → t.ConsentSound

/-- Every step keeps every holder set to incidents that are not FREE, and what a RESTORING incident still holds on its
restore list. -/
def Obligations.StepsKeepHoldersToIncidents : Prop :=
  ∀ s t : State, s.SlotsSound → s.ValvesSound → s.HoldersSound → step s = .next t → t.HoldersSound

/-- The state after reset has every one of these properties. -/
def Obligations.ResetStateIsSound : Prop :=
  State.reset.reports.Sound ∧ State.reset.StationsSound ∧ State.reset.LinesSound ∧ State.reset.MapsSound
    ∧ State.reset.ValvesSound ∧ State.reset.FrameFits ∧ State.reset.SlotsSound ∧ State.reset.PlannerSound
    ∧ State.reset.IdleOutsideRun ∧ State.reset.RegionsDisjoint ∧ State.reset.ConsentSound ∧ State.reset.HoldersSound
end

