-- ==== Sys2Proof/Laws/Clock.lean ====
section
/-! SUPPORT. What a millisecond of elapsed time leaves as it was and what it writes, and the small lemmas of the counts. -/

namespace Sys2Proof.Machine

open Sys2Proof

@[simp] theorem endsNext_none : endsNext none = false := rfl
@[simp] theorem endsNext_some (n : Nat) : endsNext (some n) = decide (n ≤ 1) := rfl

/-- A time ends with the next millisecond exactly when it runs and no more than one is left. -/
theorem endsNext_iff (left : Option Nat) : endsNext left = true ↔ ∃ n ≤ 1, left = some n := by
  cases left <;> simp

@[simp] theorem countDown_none : countDown none = none := rfl
@[simp] theorem countDown_some (n : Nat) : countDown (some n) = some (n - 1) := rfl

/-- A preset of whole tenths shows as that many tenths left. -/
@[simp] theorem tenthsLeft_preset (n : Nat) : tenthsLeft (n * 100) = n := by
  unfold tenthsLeft ceilDiv; omega

/-- A tenth is counted off only with its last millisecond. -/
theorem tenthsLeft_within (n k : Nat) (h : k < 100) : tenthsLeft ((n + 1) * 100 - k) = n + 1 := by
  unfold tenthsLeft ceilDiv; omega

@[simp] theorem tenthsPassed_whole (n : Nat) : tenthsPassed (n * 100) = n := by
  unfold tenthsPassed; omega

@[simp] theorem PerLine.get_map {α : Type} (f : α → α) (p : PerLine α) (l : Line) : (p.map f).get l = f (p.get l) := by
  cases l <;> rfl

@[simp] theorem enqueue_fields (events : List Instr) (s : State) :
    (enqueue events s).pending = s.pending ++ events ∧ (enqueue events s).store = s.store
      ∧ (enqueue events s).map = s.map ∧ (enqueue events s).planner = s.planner
      ∧ (enqueue events s).engine = s.engine ∧ (enqueue events s).drive = s.drive
      ∧ (enqueue events s).control = s.control ∧ (enqueue events s).supply = s.supply
      ∧ (enqueue events s).stations = s.stations ∧ (enqueue events s).alarms = s.alarms
      ∧ (enqueue events s).reports = s.reports ∧ (enqueue events s).link = s.link
      ∧ (enqueue events s).elapsed = s.elapsed ∧ (enqueue events s).freeCount = s.freeCount :=
  ⟨rfl, rfl, rfl, rfl, rfl, rfl, rfl, rfl, rfl, rfl, rfl, rfl, rfl, rfl⟩

@[simp] theorem millisecond_fields (s : State) :
    s.millisecond.elapsed = s.elapsed + 1 ∧ s.millisecond.store = s.store ∧ s.millisecond.map = s.map
      ∧ s.millisecond.planner = s.planner ∧ s.millisecond.engine.slots = s.engine.slots
      ∧ s.millisecond.engine.counter = s.engine.counter
      ∧ s.millisecond.engine.consentQueue = s.engine.consentQueue
      ∧ s.millisecond.engine.consentLeft = countDown s.engine.consentLeft
      ∧ s.millisecond.drive.serial = s.drive.serial ∧ s.millisecond.stations = s.stations
      ∧ s.millisecond.reports.queue = s.reports.queue ∧ s.millisecond.link = s.link
      ∧ s.millisecond.freeCount = s.freeCount ∧ s.millisecond.pending = s.pending :=
  ⟨rfl, rfl, rfl, rfl, rfl, rfl, rfl, rfl, rfl, rfl, rfl, rfl, rfl, rfl⟩

/-- What a millisecond makes of each line's records. -/
@[simp] theorem millisecond_lines (s : State) (l : Line) :
    s.millisecond.control.get l = (s.control.get l).millisecond
      ∧ s.millisecond.supply.get l = (s.supply.get l).millisecond s.store.mode := by
  cases l <;> exact ⟨rfl, rfl⟩

/-- What a millisecond makes of each input. -/
theorem millisecond_alarms (s : State) (i : Fin 8) : s.millisecond.alarms[i] = s.alarms[i].millisecond := by
  fin_cases i <;> simp [State.millisecond, allInputs]

/-- A step on an empty queue is a millisecond: the counters count, and what they reach waits. -/
theorem step_idle (s : State) (h : s.pending = []) :
    step s = .next { s.millisecond with pending := s.marks } := by
  simp [step, h, tick, enqueue]

end Sys2Proof.Machine
end

