-- ==== Sys2Proof/Laws/State.lean ====
section
/-! SUPPORT. What each update of the state leaves as it was and what it writes: for each, one lemma of which every part is
true by rfl, so that no later proof unfolds a record update. -/

namespace Sys2Proof.Machine

open Sys2Proof

@[simp] theorem onControl_fields (l : Line) (f : LineControl → LineControl) (s : State) :
    (onControl l f s).control = s.control.set l (f (s.control.get l)) ∧ (onControl l f s).store = s.store
      ∧ (onControl l f s).map = s.map ∧ (onControl l f s).planner = s.planner ∧ (onControl l f s).engine = s.engine
      ∧ (onControl l f s).drive = s.drive ∧ (onControl l f s).supply = s.supply
      ∧ (onControl l f s).stations = s.stations ∧ (onControl l f s).alarms = s.alarms
      ∧ (onControl l f s).reports = s.reports ∧ (onControl l f s).link = s.link
      ∧ (onControl l f s).elapsed = s.elapsed ∧ (onControl l f s).freeCount = s.freeCount
      ∧ (onControl l f s).pending = s.pending :=
  ⟨rfl, rfl, rfl, rfl, rfl, rfl, rfl, rfl, rfl, rfl, rfl, rfl, rfl, rfl⟩

@[simp] theorem onSupply_fields (l : Line) (f : Supply → Supply) (s : State) :
    (onSupply l f s).supply = s.supply.set l (f (s.supply.get l)) ∧ (onSupply l f s).store = s.store
      ∧ (onSupply l f s).map = s.map ∧ (onSupply l f s).planner = s.planner ∧ (onSupply l f s).engine = s.engine
      ∧ (onSupply l f s).drive = s.drive ∧ (onSupply l f s).control = s.control
      ∧ (onSupply l f s).stations = s.stations ∧ (onSupply l f s).alarms = s.alarms
      ∧ (onSupply l f s).reports = s.reports ∧ (onSupply l f s).link = s.link ∧ (onSupply l f s).elapsed = s.elapsed
      ∧ (onSupply l f s).freeCount = s.freeCount ∧ (onSupply l f s).pending = s.pending :=
  ⟨rfl, rfl, rfl, rfl, rfl, rfl, rfl, rfl, rfl, rfl, rfl, rfl, rfl, rfl⟩

@[simp] theorem setDyn_fields (v : Nat) (d : ValveDyn) (s : State) :
    (setDyn v d s).drive.serial = s.drive.serial ∧ (setDyn v d s).store = s.store ∧ (setDyn v d s).map = s.map
      ∧ (setDyn v d s).planner = s.planner ∧ (setDyn v d s).engine = s.engine ∧ (setDyn v d s).control = s.control
      ∧ (setDyn v d s).supply = s.supply ∧ (setDyn v d s).stations = s.stations ∧ (setDyn v d s).alarms = s.alarms
      ∧ (setDyn v d s).reports = s.reports ∧ (setDyn v d s).link = s.link ∧ (setDyn v d s).elapsed = s.elapsed
      ∧ (setDyn v d s).freeCount = s.freeCount ∧ (setDyn v d s).pending = s.pending :=
  ⟨rfl, rfl, rfl, rfl, rfl, rfl, rfl, rfl, rfl, rfl, rfl, rfl, rfl, rfl⟩

@[simp] theorem onDyn_fields (v : Nat) (f : ValveDyn → ValveDyn) (s : State) :
    (onDyn v f s).drive.serial = s.drive.serial ∧ (onDyn v f s).store = s.store ∧ (onDyn v f s).map = s.map
      ∧ (onDyn v f s).planner = s.planner ∧ (onDyn v f s).engine = s.engine ∧ (onDyn v f s).control = s.control
      ∧ (onDyn v f s).supply = s.supply ∧ (onDyn v f s).stations = s.stations ∧ (onDyn v f s).alarms = s.alarms
      ∧ (onDyn v f s).reports = s.reports ∧ (onDyn v f s).link = s.link ∧ (onDyn v f s).elapsed = s.elapsed
      ∧ (onDyn v f s).freeCount = s.freeCount ∧ (onDyn v f s).pending = s.pending :=
  ⟨rfl, rfl, rfl, rfl, rfl, rfl, rfl, rfl, rfl, rfl, rfl, rfl, rfl, rfl⟩

@[simp] theorem onMove_fields (v : Nat) (f : Move → Move) (s : State) :
    (onMove v f s).drive.serial = s.drive.serial ∧ (onMove v f s).store = s.store ∧ (onMove v f s).map = s.map
      ∧ (onMove v f s).planner = s.planner ∧ (onMove v f s).engine = s.engine ∧ (onMove v f s).control = s.control
      ∧ (onMove v f s).supply = s.supply ∧ (onMove v f s).stations = s.stations ∧ (onMove v f s).alarms = s.alarms
      ∧ (onMove v f s).reports = s.reports ∧ (onMove v f s).link = s.link ∧ (onMove v f s).elapsed = s.elapsed
      ∧ (onMove v f s).freeCount = s.freeCount ∧ (onMove v f s).pending = s.pending :=
  ⟨rfl, rfl, rfl, rfl, rfl, rfl, rfl, rfl, rfl, rfl, rfl, rfl, rfl, rfl⟩

@[simp] theorem setStation_fields (l : Line) (a : Nat) (r : StationRec) (s : State) :
    (setStation l a r s).stations = Table.put s.stations (stationKey l a) r ∧ (setStation l a r s).store = s.store
      ∧ (setStation l a r s).map = s.map ∧ (setStation l a r s).planner = s.planner
      ∧ (setStation l a r s).engine = s.engine ∧ (setStation l a r s).drive = s.drive
      ∧ (setStation l a r s).control = s.control ∧ (setStation l a r s).supply = s.supply
      ∧ (setStation l a r s).alarms = s.alarms ∧ (setStation l a r s).reports = s.reports
      ∧ (setStation l a r s).link = s.link ∧ (setStation l a r s).elapsed = s.elapsed
      ∧ (setStation l a r s).freeCount = s.freeCount ∧ (setStation l a r s).pending = s.pending :=
  ⟨rfl, rfl, rfl, rfl, rfl, rfl, rfl, rfl, rfl, rfl, rfl, rfl, rfl, rfl⟩

@[simp] theorem putSlot_fields (k : Nat) (inc : Incident) (s : State) :
    (putSlot k inc s).engine = { s.engine with slots := Table.put s.engine.slots k inc }
      ∧ (putSlot k inc s).store = s.store ∧ (putSlot k inc s).map = s.map ∧ (putSlot k inc s).planner = s.planner
      ∧ (putSlot k inc s).drive = s.drive ∧ (putSlot k inc s).control = s.control
      ∧ (putSlot k inc s).supply = s.supply ∧ (putSlot k inc s).stations = s.stations
      ∧ (putSlot k inc s).alarms = s.alarms ∧ (putSlot k inc s).reports = s.reports ∧ (putSlot k inc s).link = s.link
      ∧ (putSlot k inc s).elapsed = s.elapsed ∧ (putSlot k inc s).freeCount = s.freeCount
      ∧ (putSlot k inc s).pending = s.pending :=
  ⟨rfl, rfl, rfl, rfl, rfl, rfl, rfl, rfl, rfl, rfl, rfl, rfl, rfl, rfl⟩

@[simp] theorem freeSlot_fields (k : Nat) (s : State) :
    (freeSlot k s).engine = { s.engine with slots := Table.erase s.engine.slots k } ∧ (freeSlot k s).store = s.store
      ∧ (freeSlot k s).map = s.map ∧ (freeSlot k s).planner = s.planner ∧ (freeSlot k s).drive = s.drive
      ∧ (freeSlot k s).control = s.control ∧ (freeSlot k s).supply = s.supply ∧ (freeSlot k s).stations = s.stations
      ∧ (freeSlot k s).alarms = s.alarms ∧ (freeSlot k s).reports = s.reports ∧ (freeSlot k s).link = s.link
      ∧ (freeSlot k s).elapsed = s.elapsed ∧ (freeSlot k s).freeCount = s.freeCount
      ∧ (freeSlot k s).pending = s.pending :=
  ⟨rfl, rfl, rfl, rfl, rfl, rfl, rfl, rfl, rfl, rfl, rfl, rfl, rfl, rfl⟩

@[simp] theorem raise_fields (k : ReportKind) (x : Subject) (d : Nat) (vs : List (Option Nat)) (s : State) :
    (raise k x d vs s).reports = s.reports.raise ⟨k, s.reports.timeBase, x, d, vs⟩
      ∧ (raise k x d vs s).store = s.store ∧ (raise k x d vs s).map = s.map ∧ (raise k x d vs s).planner = s.planner
      ∧ (raise k x d vs s).engine = s.engine ∧ (raise k x d vs s).drive = s.drive
      ∧ (raise k x d vs s).control = s.control ∧ (raise k x d vs s).supply = s.supply
      ∧ (raise k x d vs s).stations = s.stations ∧ (raise k x d vs s).alarms = s.alarms
      ∧ (raise k x d vs s).link = s.link ∧ (raise k x d vs s).elapsed = s.elapsed
      ∧ (raise k x d vs s).freeCount = s.freeCount ∧ (raise k x d vs s).pending = s.pending :=
  ⟨rfl, rfl, rfl, rfl, rfl, rfl, rfl, rfl, rfl, rfl, rfl, rfl, rfl, rfl⟩

@[simp] theorem markStale_fields (s : State) :
    (markStale s).planner.queue = s.planner.queue ∧ (markStale s).store = s.store ∧ (markStale s).map = s.map
      ∧ (markStale s).engine = s.engine ∧ (markStale s).drive = s.drive ∧ (markStale s).control = s.control
      ∧ (markStale s).supply = s.supply ∧ (markStale s).stations = s.stations ∧ (markStale s).alarms = s.alarms
      ∧ (markStale s).reports = s.reports ∧ (markStale s).link = s.link ∧ (markStale s).elapsed = s.elapsed
      ∧ (markStale s).freeCount = s.freeCount ∧ (markStale s).pending = s.pending :=
  ⟨rfl, rfl, rfl, rfl, rfl, rfl, rfl, rfl, rfl, rfl, rfl, rfl, rfl, rfl⟩

@[simp] theorem markStaleForOthers_fields (n : Nat) (s : State) :
    (markStaleForOthers n s).planner.queue = s.planner.queue ∧ (markStaleForOthers n s).store = s.store
      ∧ (markStaleForOthers n s).map = s.map ∧ (markStaleForOthers n s).engine = s.engine
      ∧ (markStaleForOthers n s).drive = s.drive ∧ (markStaleForOthers n s).control = s.control
      ∧ (markStaleForOthers n s).supply = s.supply ∧ (markStaleForOthers n s).stations = s.stations
      ∧ (markStaleForOthers n s).alarms = s.alarms ∧ (markStaleForOthers n s).reports = s.reports
      ∧ (markStaleForOthers n s).link = s.link ∧ (markStaleForOthers n s).elapsed = s.elapsed
      ∧ (markStaleForOthers n s).freeCount = s.freeCount ∧ (markStaleForOthers n s).pending = s.pending :=
  ⟨rfl, rfl, rfl, rfl, rfl, rfl, rfl, rfl, rfl, rfl, rfl, rfl, rfl, rfl⟩

@[simp] theorem markStaleFor_fields (n : Nat) (s : State) :
    (markStaleFor n s).planner.queue = s.planner.queue ∧ (markStaleFor n s).store = s.store
      ∧ (markStaleFor n s).map = s.map ∧ (markStaleFor n s).engine = s.engine ∧ (markStaleFor n s).drive = s.drive
      ∧ (markStaleFor n s).control = s.control ∧ (markStaleFor n s).supply = s.supply
      ∧ (markStaleFor n s).stations = s.stations ∧ (markStaleFor n s).alarms = s.alarms
      ∧ (markStaleFor n s).reports = s.reports ∧ (markStaleFor n s).link = s.link
      ∧ (markStaleFor n s).elapsed = s.elapsed ∧ (markStaleFor n s).freeCount = s.freeCount
      ∧ (markStaleFor n s).pending = s.pending :=
  ⟨rfl, rfl, rfl, rfl, rfl, rfl, rfl, rfl, rfl, rfl, rfl, rfl, rfl, rfl⟩

@[simp] theorem startNextPlan_fields (s : State) :
    (startNextPlan s).planner = s.planner.startNext s.recordedRegion ∧ (startNextPlan s).store = s.store
      ∧ (startNextPlan s).map = s.map ∧ (startNextPlan s).engine = s.engine ∧ (startNextPlan s).drive = s.drive
      ∧ (startNextPlan s).control = s.control ∧ (startNextPlan s).supply = s.supply
      ∧ (startNextPlan s).stations = s.stations ∧ (startNextPlan s).alarms = s.alarms
      ∧ (startNextPlan s).reports = s.reports ∧ (startNextPlan s).link = s.link
      ∧ (startNextPlan s).elapsed = s.elapsed ∧ (startNextPlan s).freeCount = s.freeCount
      ∧ (startNextPlan s).pending = s.pending :=
  ⟨rfl, rfl, rfl, rfl, rfl, rfl, rfl, rfl, rfl, rfl, rfl, rfl, rfl, rfl⟩

@[simp] theorem newPlan_fields (n : Nat) (region : List Nat) :
    (newPlan n region).incident = n ∧ (newPlan n region).stale = false ∧ (newPlan n region).sets.region = region
      ∧ (newPlan n region).sets.noted = [] ∧ (newPlan n region).sets.boundary = [] :=
  ⟨rfl, rfl, rfl, rfl, rfl⟩

@[simp] theorem workOutPlan_fields (inc : Incident) (p : PlanInProgress) (s : State) :
    (workOutPlan inc p s).planner = ⟨s.planner.queue, some { p with sets := s.makePlan inc }⟩
      ∧ (workOutPlan inc p s).store = s.store ∧ (workOutPlan inc p s).map = s.map
      ∧ (workOutPlan inc p s).engine = s.engine ∧ (workOutPlan inc p s).drive = s.drive
      ∧ (workOutPlan inc p s).control = s.control ∧ (workOutPlan inc p s).supply = s.supply
      ∧ (workOutPlan inc p s).stations = s.stations ∧ (workOutPlan inc p s).alarms = s.alarms
      ∧ (workOutPlan inc p s).reports = s.reports ∧ (workOutPlan inc p s).link = s.link
      ∧ (workOutPlan inc p s).elapsed = s.elapsed ∧ (workOutPlan inc p s).freeCount = s.freeCount
      ∧ (workOutPlan inc p s).pending = s.pending :=
  ⟨rfl, rfl, rfl, rfl, rfl, rfl, rfl, rfl, rfl, rfl, rfl, rfl, rfl, rfl⟩

/-- 10 R200: what a cut save leaves in the place of the sum never matches. -/
theorem wrongSum_ne (content : NetworkMap) (word : BitVec 16) : wrongSum content word ≠ imageSum content := by
  unfold wrongSum
  split
  · next h => subst h; bv_omega
  · assumption

@[simp] theorem nextFree_fields (s : State) :
    (nextFree s).freeCount = s.freeCount + 1 ∧ (nextFree s).store = s.store ∧ (nextFree s).map = s.map
      ∧ (nextFree s).planner = s.planner ∧ (nextFree s).engine = s.engine ∧ (nextFree s).drive = s.drive
      ∧ (nextFree s).control = s.control ∧ (nextFree s).supply = s.supply ∧ (nextFree s).stations = s.stations
      ∧ (nextFree s).alarms = s.alarms ∧ (nextFree s).reports = s.reports ∧ (nextFree s).link = s.link
      ∧ (nextFree s).elapsed = s.elapsed ∧ (nextFree s).pending = s.pending :=
  ⟨rfl, rfl, rfl, rfl, rfl, rfl, rfl, rfl, rfl, rfl, rfl, rfl, rfl, rfl⟩

/-- 04 R89: a valve's mark, and nothing else of the state but its record. -/
@[simp] theorem tellUnreachable_fields (v : Nat) (told : Bool) (s : State) :
    (tellUnreachable v told s).drive.serial = s.drive.serial ∧ (tellUnreachable v told s).store = s.store
      ∧ (tellUnreachable v told s).map = s.map ∧ (tellUnreachable v told s).planner = s.planner
      ∧ (tellUnreachable v told s).engine = s.engine ∧ (tellUnreachable v told s).control = s.control
      ∧ (tellUnreachable v told s).supply = s.supply ∧ (tellUnreachable v told s).stations = s.stations
      ∧ (tellUnreachable v told s).alarms = s.alarms ∧ (tellUnreachable v told s).reports = s.reports
      ∧ (tellUnreachable v told s).link = s.link ∧ (tellUnreachable v told s).elapsed = s.elapsed
      ∧ (tellUnreachable v told s).freeCount = s.freeCount ∧ (tellUnreachable v told s).pending = s.pending :=
  ⟨rfl, rfl, rfl, rfl, rfl, rfl, rfl, rfl, rfl, rfl, rfl, rfl, rfl, rfl⟩

/-- 03 R66, R68: what leaving the consent queue can change: the queue, the timer and the count of expiries called off. -/
theorem leaveConsent_only (number : Nat) (byTimer : Bool) (s : State) :
    leaveConsent number byTimer s = { s with engine := { s.engine with
      consentQueue := (leaveConsent number byTimer s).engine.consentQueue
      consentLeft := (leaveConsent number byTimer s).engine.consentLeft
      voidExpiries := (leaveConsent number byTimer s).engine.voidExpiries } } := by
  unfold leaveConsent callOffExpiry; dsimp only; repeat' split
  all_goals rfl

/-- 03 R66: the number is gone from the queue, and the others keep their order. -/
@[simp] theorem leaveConsent_queue (number : Nat) (byTimer : Bool) (s : State) :
    (leaveConsent number byTimer s).engine.consentQueue = s.engine.consentQueue.filter (· != number) := by
  unfold leaveConsent callOffExpiry; dsimp only; split
  · repeat' split
    all_goals rfl
  · rename_i h
    refine (List.filter_eq_self.2 fun n hn => ?_).symm
    simp only [bne_iff_ne, ne_eq]
    rintro rfl
    exact h (by simpa using hn)

/-- 03 R68: the expiries that wait are called off exactly when the oldest entry leaves, and not by the timer. -/
theorem leaveConsent_voidExpiries (number : Nat) (byTimer : Bool) (s : State) :
    (leaveConsent number byTimer s).engine.voidExpiries =
      if s.engine.consentQueue.head? = some number ∧ byTimer = false then s.pending.count .consentTimeout
      else s.engine.voidExpiries := by
  by_cases h : s.engine.consentQueue.head? = some number
  · have hc : number ∈ s.engine.consentQueue := List.mem_of_mem_head? h
    cases byTimer <;> simp [leaveConsent, callOffExpiry, h, hc]
  · unfold leaveConsent; dsimp only; split <;> simp [h]

@[simp] theorem takeSerial_fields (s : State) :
    (takeSerial s).drive = { s.drive with serial := s.drive.serial + 1 } ∧ (takeSerial s).store = s.store
      ∧ (takeSerial s).map = s.map ∧ (takeSerial s).planner = s.planner ∧ (takeSerial s).engine = s.engine
      ∧ (takeSerial s).control = s.control ∧ (takeSerial s).supply = s.supply ∧ (takeSerial s).stations = s.stations
      ∧ (takeSerial s).alarms = s.alarms ∧ (takeSerial s).reports = s.reports ∧ (takeSerial s).link = s.link
      ∧ (takeSerial s).elapsed = s.elapsed ∧ (takeSerial s).freeCount = s.freeCount
      ∧ (takeSerial s).pending = s.pending :=
  ⟨rfl, rfl, rfl, rfl, rfl, rfl, rfl, rfl, rfl, rfl, rfl, rfl, rfl, rfl⟩

@[simp] theorem onAlarm_fields (i : Fin 8) (f : AlarmInput → AlarmInput) (s : State) :
    (onAlarm i f s).alarms = s.alarms.set i (f s.alarms[i]) ∧ (onAlarm i f s).store = s.store
      ∧ (onAlarm i f s).map = s.map ∧ (onAlarm i f s).planner = s.planner ∧ (onAlarm i f s).engine = s.engine
      ∧ (onAlarm i f s).drive = s.drive ∧ (onAlarm i f s).control = s.control ∧ (onAlarm i f s).supply = s.supply
      ∧ (onAlarm i f s).stations = s.stations ∧ (onAlarm i f s).reports = s.reports ∧ (onAlarm i f s).link = s.link
      ∧ (onAlarm i f s).elapsed = s.elapsed ∧ (onAlarm i f s).freeCount = s.freeCount
      ∧ (onAlarm i f s).pending = s.pending :=
  ⟨rfl, rfl, rfl, rfl, rfl, rfl, rfl, rfl, rfl, rfl, rfl, rfl, rfl, rfl⟩

@[simp] theorem onMap_fields (f : NetworkMap → NetworkMap) (s : State) :
    (onMap f s).map = f s.map ∧ (onMap f s).store = s.store ∧ (onMap f s).planner = s.planner
      ∧ (onMap f s).engine = s.engine ∧ (onMap f s).drive = s.drive ∧ (onMap f s).control = s.control
      ∧ (onMap f s).supply = s.supply ∧ (onMap f s).stations = s.stations ∧ (onMap f s).alarms = s.alarms
      ∧ (onMap f s).reports = s.reports ∧ (onMap f s).link = s.link ∧ (onMap f s).elapsed = s.elapsed
      ∧ (onMap f s).freeCount = s.freeCount ∧ (onMap f s).pending = s.pending :=
  ⟨rfl, rfl, rfl, rfl, rfl, rfl, rfl, rfl, rfl, rfl, rfl, rfl, rfl, rfl⟩

@[simp] theorem onLink_fields (f : HostLink → HostLink) (s : State) :
    (onLink f s).link = f s.link ∧ (onLink f s).store = s.store ∧ (onLink f s).map = s.map
      ∧ (onLink f s).planner = s.planner ∧ (onLink f s).engine = s.engine ∧ (onLink f s).drive = s.drive
      ∧ (onLink f s).control = s.control ∧ (onLink f s).supply = s.supply ∧ (onLink f s).stations = s.stations
      ∧ (onLink f s).alarms = s.alarms ∧ (onLink f s).reports = s.reports ∧ (onLink f s).elapsed = s.elapsed
      ∧ (onLink f s).freeCount = s.freeCount ∧ (onLink f s).pending = s.pending :=
  ⟨rfl, rfl, rfl, rfl, rfl, rfl, rfl, rfl, rfl, rfl, rfl, rfl, rfl, rfl⟩

end Sys2Proof.Machine
end

