-- ==== Sys2Proof/Laws/Tables.lean ====
section
/-! SUPPORT. The laws of tables, of the parts of a line and of a valve's dynamic record: what was written is read, every other
entry reads as before, and the canonical form is kept. -/

namespace Sys2Proof.Machine

open Sys2Proof

/-! ### Tables -/

section tables
variable {α : Type}

@[simp] theorem Table.get_nil (j : Nat) : Table.get ([] : Table α) j = none := rfl

theorem Table.get_put (t : Table α) (k j : Nat) (x : α) :
    Table.get (Table.put t k x) j = if j = k then some x else Table.get t j := by
  induction t with
  | nil => simp [Table.put, Table.get]
  | cons e t ih =>
    obtain ⟨k', x'⟩ := e
    simp only [Table.put]
    split
    · simp [Table.get]
    · split
      · subst_vars; simp only [Table.get]; split <;> simp_all
      · simp only [Table.get, ih]; split <;> split <;> simp_all

@[simp] theorem Table.get_put_same (t : Table α) (k : Nat) (x : α) : Table.get (Table.put t k x) k = some x := by
  simp [Table.get_put]

theorem Table.get_erase (t : Table α) (k j : Nat) :
    Table.get (Table.erase t k) j = if j = k then none else Table.get t j := by
  induction t with
  | nil => simp [Table.erase]
  | cons e t ih =>
    obtain ⟨k', x'⟩ := e
    simp only [Table.erase] at ih ⊢
    by_cases h : k' = k
    · subst h; simp [ih, Table.get]; split <;> simp_all
    · simp [h, Table.get, ih]; split <;> split <;> simp_all

/-- The entries of a table after a put are entries from before, or the new one. -/
theorem Table.mem_put {t : Table α} {k : Nat} {x : α} {e : Nat × α} (h : e ∈ Table.put t k x) : e = (k, x) ∨ e ∈ t := by
  induction t with
  | nil => simpa [Table.put] using h
  | cons a t ih =>
    obtain ⟨k', x'⟩ := a
    simp only [Table.put] at h
    split at h
    · simpa using h
    · split at h
      · simp only [List.mem_cons] at h ⊢; tauto
      · simp only [List.mem_cons] at h ⊢; rcases h with h | h
        · tauto
        · rcases ih h with h | h <;> tauto

theorem Table.mem_erase {t : Table α} {k : Nat} {e : Nat × α} : e ∈ Table.erase t k ↔ e ∈ t ∧ e.1 ≠ k := by
  simp [Table.erase]

theorem Table.wf_erase {t : Table α} (k : Nat) (h : Table.Wf t) : Table.Wf (Table.erase t k) := by
  simp only [Table.Wf, Table.keys, Table.erase] at *
  exact h.sublist (List.filter_sublist.map _)

theorem Table.wf_put {t : Table α} (k : Nat) (x : α) (h : Table.Wf t) : Table.Wf (Table.put t k x) := by
  induction t with
  | nil => simp [Table.put, Table.Wf, Table.keys]
  | cons a t ih =>
    obtain ⟨k', x'⟩ := a
    simp only [Table.Wf, Table.keys, List.map_cons, List.pairwise_cons] at h ih ⊢
    simp only [Table.put]
    split
    · simp only [List.map_cons, List.pairwise_cons, List.mem_cons]
      refine ⟨?_, h⟩
      rintro b (rfl | hb)
      · assumption
      · exact lt_trans ‹_› (h.1 b hb)
    · split
      · subst_vars; simpa using h
      · simp only [List.map_cons, List.pairwise_cons]
        refine ⟨fun b hb => ?_, ih h.2⟩
        obtain ⟨e, he, rfl⟩ := List.mem_map.1 hb
        rcases Table.mem_put he with rfl | he
        · show k' < k; omega
        · exact h.1 _ (List.mem_map_of_mem he)

/-- In a table of canonical form an entry is what its identifier reads. -/
theorem Table.get_of_mem {t : Table α} (h : Table.Wf t) {k : Nat} {x : α} (he : (k, x) ∈ t) : Table.get t k = some x := by
  induction t with
  | nil => simp at he
  | cons a t ih =>
    obtain ⟨k', x'⟩ := a
    simp only [Table.Wf, Table.keys, List.map_cons, List.pairwise_cons] at h ih
    simp only [Table.get]
    rcases List.mem_cons.1 he with he | he
    · cases he; simp
    · have := h.1 k (List.mem_map_of_mem he)
      rw [if_neg (by omega)]; exact ih h.2 he

theorem Table.mem_of_get {t : Table α} {k : Nat} {x : α} (h : Table.get t k = some x) : (k, x) ∈ t := by
  induction t with
  | nil => simp at h
  | cons a t ih =>
    obtain ⟨k', x'⟩ := a
    simp only [Table.get] at h
    split at h
    · cases h; subst_vars; simp
    · simp [ih h]

theorem Table.has_iff {t : Table α} {k : Nat} : Table.has t k = true ↔ ∃ x, Table.get t k = some x := by
  simp [Table.has, Option.isSome_iff_exists]

/-- Writing an entry twice leaves the second. -/
@[simp] theorem Table.put_put (t : Table α) (k : Nat) (x y : α) : Table.put (Table.put t k x) k y = Table.put t k y := by
  induction t with
  | nil => simp [Table.put]
  | cons a t ih =>
    obtain ⟨k', x'⟩ := a
    simp only [Table.put]
    split
    · simp [Table.put]
    · split
      · subst_vars; simp [Table.put]
      · simp [Table.put, *]

end tables

/-! ### Lines -/

section lines
variable {α : Type}

@[simp] theorem PerLine.get_set (p : PerLine α) (l k : Line) (x : α) : (p.set l x).get k = if k = l then x else p.get k := by
  cases l <;> cases k <;> simp [PerLine.set, PerLine.get]

@[simp] theorem PerLine.set_set (p : PerLine α) (l : Line) (x y : α) : (p.set l x).set l y = p.set l y := by
  cases l <;> rfl

@[simp] theorem PerLine.set_get (p : PerLine α) (l : Line) : p.set l (p.get l) = p := by
  cases l <;> rfl

/-- Two records of the lines are the same when each line's is. -/
theorem PerLine.ext_get {p q : PerLine α} (h : ∀ l, p.get l = q.get l) : p = q := by
  obtain ⟨a, b, c, d⟩ := p; obtain ⟨a', b', c', d'⟩ := q
  have ha := h .a; have hb := h .b; have hc := h .c; have hd := h .d
  simp_all [PerLine.get]

@[simp] theorem lineOfCode_code (l : Line) : lineOfCode (Line.code l) = some l := by cases l <;> rfl

theorem Line.code_le (l : Line) : Line.code l ≤ 3 := by cases l <;> decide

end lines

/-! ### Dynamic records -/

theorem dyn_setDyn (s : State) (v u : Nat) (d : ValveDyn) : (setDyn v d s).dyn u = if u = v then d else s.dyn u := by
  simp only [State.dyn, setDyn]
  split
  · subst_vars; rw [Table.get_erase]; split <;> simp_all
  · rw [Table.get_put]; split <;> simp_all

@[simp] theorem dyn_setDyn_same (s : State) (v : Nat) (d : ValveDyn) : (setDyn v d s).dyn v = d := by simp [dyn_setDyn]

theorem dyn_setDyn_ne {s : State} {v u : Nat} {d : ValveDyn} (h : u ≠ v) : (setDyn v d s).dyn u = s.dyn u := by
  simp [dyn_setDyn, h]

theorem dyn_onDyn (s : State) (v u : Nat) (f : ValveDyn → ValveDyn) :
    (onDyn v f s).dyn u = if u = v then f (s.dyn v) else s.dyn u := by simp [onDyn, dyn_setDyn]

@[simp] theorem dyn_onDyn_same (s : State) (v : Nat) (f : ValveDyn → ValveDyn) : (onDyn v f s).dyn v = f (s.dyn v) := by
  simp [dyn_onDyn]

/-- A move changes under `onMove` where there is one; every other part of the record stays. -/
theorem dyn_onMove (s : State) (v u : Nat) (f : Move → Move) :
    (onMove v f s).dyn u = if u = v then { s.dyn v with move := (s.dyn v).move.map f } else s.dyn u := by
  simp [onMove, dyn_onDyn]

@[simp] theorem dyn_raise (k : ReportKind) (x : Subject) (d : Nat) (vs : List (Option Nat)) (s : State) (v : Nat) :
    (raise k x d vs s).dyn v = s.dyn v := rfl

@[simp] theorem dyn_onControl (l : Line) (f : LineControl → LineControl) (s : State) (v : Nat) :
    (onControl l f s).dyn v = s.dyn v := rfl

@[simp] theorem dyn_onSupply (l : Line) (f : Supply → Supply) (s : State) (v : Nat) :
    (onSupply l f s).dyn v = s.dyn v := rfl

@[simp] theorem dyn_markStale (s : State) (v : Nat) : (markStale s).dyn v = s.dyn v := rfl

@[simp] theorem dyn_markStaleForOthers (n : Nat) (s : State) (v : Nat) : (markStaleForOthers n s).dyn v = s.dyn v := rfl

@[simp] theorem dyn_putSlot (k : Nat) (inc : Incident) (s : State) (v : Nat) : (putSlot k inc s).dyn v = s.dyn v := rfl

@[simp] theorem dyn_freeSlot (k : Nat) (s : State) (v : Nat) : (freeSlot k s).dyn v = s.dyn v := rfl

/-! ### Slots -/

theorem slot_putSlot (s : State) (k j : Nat) (inc : Incident) :
    (putSlot k inc s).slot j = if j = k then some inc else s.slot j := by
  simp [putSlot, State.slot, Table.get_put]

@[simp] theorem slot_putSlot_same (s : State) (k : Nat) (inc : Incident) : (putSlot k inc s).slot k = some inc := by
  simp [slot_putSlot]

theorem slot_freeSlot (s : State) (k j : Nat) : (freeSlot k s).slot j = if j = k then none else s.slot j := by
  simp [freeSlot, State.slot, Table.get_erase]

end Sys2Proof.Machine
end

