-- ==== Sys2Proof/Laws/Driven.lean ====
section
/-! SUPPORT. What the valve drive's own operations, and the settling that ends a step, can do at all: `Driven s t` gathers
everything that they leave as it was. One lemma for each operation says so; later proofs cite these and unfold nothing. -/

namespace Sys2Proof.Machine

open Sys2Proof

/-! ### Nothing but the control blocks -/

theorem OnlyControl.refl (s : State) : OnlyControl s s := rfl

theorem OnlyControl.trans {s t u : State} (h : OnlyControl s t) (h' : OnlyControl t u) : OnlyControl s u := by
  unfold OnlyControl at *
  rw [h'] ; rw [h]

/-- The fields that an `OnlyControl` change leaves. -/
theorem OnlyControl.fields {s t : State} (h : OnlyControl s t) :
    t.store = s.store ∧ t.map = s.map ∧ t.supply = s.supply ∧ t.stations = s.stations ∧ t.alarms = s.alarms
      ∧ t.link = s.link ∧ t.elapsed = s.elapsed ∧ t.pending = s.pending := by
  rw [h]; exact ⟨rfl, rfl, rfl, rfl, rfl, rfl, rfl, rfl⟩

/-- A change that leaves the eight other fields is an `OnlyControl` change. -/
theorem OnlyControl.intro {s t : State} (h : t.store = s.store) (h1 : t.map = s.map) (h2 : t.supply = s.supply)
    (h3 : t.stations = s.stations) (h4 : t.alarms = s.alarms) (h5 : t.link = s.link) (h6 : t.elapsed = s.elapsed)
    (h7 : t.pending = s.pending) : OnlyControl s t := by
  obtain ⟨_, _, _, _, _, _, _, _, _, _, _, _, _, _⟩ := t
  simp only at *; subst_vars; rfl

/-! ### Reports -/

@[simp] theorem raise_queue_prefix (u : ReportUnit) (r : Report) : u.queue <+: (u.raise r).queue := by
  simp only [ReportUnit.raise]; split
  · exact List.prefix_refl _
  · split
    · exact List.prefix_refl _
    · exact List.prefix_append _ _

@[simp] theorem raise_timeBase (u : ReportUnit) (r : Report) : (u.raise r).timeBase = u.timeBase := by
  simp only [ReportUnit.raise]; split
  · rfl
  · split <;> rfl

/-! ### Everything that driving and settling leave -/

/-- The part of a line controller that driving leaves: all but the urgent queue, what it refused, and the times of the poll
entries. -/
structure SameCourse (c d : LineControl) : Prop where
  exchange : d.exchange = c.exchange
  urgentCount : d.urgentCount = c.urgentCount
  errorLog : d.errorLog = c.errorLog
  overflowReported : d.overflowReported = c.overflowReported
  lastError : d.lastError = c.lastError
  enabled : d.enabled = c.enabled
  speed : d.speed = c.speed
  stations : d.schedule.map (fun e => (e.address, e.probe, e.last)) = c.schedule.map (fun e => (e.address, e.probe, e.last))

/-- What driving and settling leave as it was. -/
structure Driven (s t : State) : Prop where
  only : OnlyControl s t
  position : ∀ v, (t.dyn v).position = (s.dyn v).position
  confirmed : ∀ v, (t.dyn v).confirmed = (s.dyn v).confirmed
  operability : ∀ v, (t.dyn v).operability = (s.dyn v).operability
  told : ∀ v, (t.dyn v).toldUnreachable = (s.dyn v).toldUnreachable
  serial : s.drive.serial ≤ t.drive.serial
  counter : t.engine.counter = s.engine.counter
  consentQueue : t.engine.consentQueue = s.engine.consentQueue
  consentLeft : t.engine.consentLeft = s.engine.consentLeft
  voidExpiries : t.engine.voidExpiries = s.engine.voidExpiries
  planQueue : t.planner.queue = s.planner.queue
  plan : t.planner.plan.map (·.incident) = s.planner.plan.map (·.incident)
  stale : ∀ p q, s.planner.plan = some p → t.planner.plan = some q → p.stale = true → q.stale = true
  reports : s.reports.queue <+: t.reports.queue
  timeBase : t.reports.timeBase = s.reports.timeBase
  lines : ∀ l, SameCourse (s.control.get l) (t.control.get l)
  slots : ∀ k inc, s.slot k = some inc → inc.state ≠ .restoring → t.slot k = some inc

theorem SameCourse.refl (c : LineControl) : SameCourse c c := ⟨rfl, rfl, rfl, rfl, rfl, rfl, rfl, rfl⟩

theorem SameCourse.trans {c d e : LineControl} (h : SameCourse c d) (h' : SameCourse d e) : SameCourse c e :=
  ⟨h'.1.trans h.1, h'.2.trans h.2, h'.3.trans h.3, h'.4.trans h.4, h'.5.trans h.5, h'.6.trans h.6,
    h'.7.trans h.7, h'.8.trans h.8⟩

theorem Driven.refl (s : State) : Driven s s where
  only := .refl s
  position _ := rfl
  confirmed _ := rfl
  operability _ := rfl
  told _ := rfl
  serial := Nat.le_refl _
  counter := rfl
  consentQueue := rfl
  consentLeft := rfl
  voidExpiries := rfl
  planQueue := rfl
  plan := rfl
  stale p q h h' hp := by rw [h] at h'; cases h'; exact hp
  reports := List.prefix_refl _
  timeBase := rfl
  lines _ := .refl _
  slots _ _ h _ := h

theorem Driven.trans {s t u : State} (h : Driven s t) (h' : Driven t u) : Driven s u where
  only := h.only.trans h'.only
  position v := (h'.position v).trans (h.position v)
  confirmed v := (h'.confirmed v).trans (h.confirmed v)
  operability v := (h'.operability v).trans (h.operability v)
  told v := (h'.told v).trans (h.told v)
  serial := h.serial.trans h'.serial
  counter := h'.counter.trans h.counter
  consentQueue := h'.consentQueue.trans h.consentQueue
  consentLeft := h'.consentLeft.trans h.consentLeft
  voidExpiries := h'.voidExpiries.trans h.voidExpiries
  planQueue := h'.planQueue.trans h.planQueue
  plan := h'.plan.trans h.plan
  stale p q hp hq hs := by
    have hm := h.plan
    rw [hp] at hm
    cases ht : t.planner.plan with
    | none => simp [ht] at hm
    | some r => exact h'.stale r q ht hq (h.stale p r hp ht hs)
  reports := h.reports.trans h'.reports
  timeBase := h'.timeBase.trans h.timeBase
  lines l := (h.lines l).trans (h'.lines l)
  slots k inc hk hr := h'.slots k inc (h.slots k inc hk hr) hr

/-- A change of a line's urgent queue and of what it refused. -/
theorem driven_onControl {l : Line} {f : LineControl → LineControl} (s : State)
    (h : ∀ c, SameCourse c (f c)) : Driven s (onControl l f s) :=
  { Driven.refl s with
    only := rfl
    lines := fun k => by
      simp only [onControl_fields, PerLine.get_set]
      split
      · subst_vars; exact h _
      · exact .refl _ }

/-- A change of a valve's record that leaves its position, its flag, its operability and its mark. -/
theorem driven_onDyn {v : Nat} {f : ValveDyn → ValveDyn} (s : State) (h1 : ∀ d, (f d).position = d.position)
    (h2 : ∀ d, (f d).confirmed = d.confirmed) (h3 : ∀ d, (f d).operability = d.operability)
    (h4 : ∀ d, (f d).toldUnreachable = d.toldUnreachable) : Driven s (onDyn v f s) :=
  { Driven.refl s with
    only := rfl
    position := fun u => by rw [dyn_onDyn]; split <;> simp [*]
    confirmed := fun u => by rw [dyn_onDyn]; split <;> simp [*]
    operability := fun u => by rw [dyn_onDyn]; split <;> simp [*]
    told := fun u => by rw [dyn_onDyn]; split <;> simp [*] }

theorem driven_onMove (v : Nat) (f : Move → Move) (s : State) : Driven s (onMove v f s) := by
  apply driven_onDyn <;> intro _ <;> rfl

theorem driven_setMotion (v : Nat) (m : Motion) (s : State) : Driven s (setMotion v m s) := by
  apply driven_onDyn <;> intro _ <;> rfl

theorem driven_clearMove (v : Nat) (s : State) : Driven s (clearMove v s) := by
  apply driven_onDyn <;> intro _ <;> rfl

theorem driven_raise (k : ReportKind) (x : Subject) (d : Nat) (vs : List (Option Nat)) (s : State) :
    Driven s (raise k x d vs s) :=
  { Driven.refl s with only := rfl, reports := by simp, timeBase := by simp }

theorem driven_nextFree (s : State) : Driven s (nextFree s) := { Driven.refl s with only := rfl }

theorem driven_takeSerial (s : State) : Driven s (takeSerial s) :=
  { Driven.refl s with only := rfl, serial := by simp }

theorem driven_markStale (s : State) : Driven s (markStale s) :=
  { Driven.refl s with
    only := rfl
    plan := by simp [markStale, Function.comp_def]
    stale := fun p q hp hq hs => by simp [markStale, hp] at hq; subst hq; rfl }

theorem driven_markStaleForOthers (n : Nat) (s : State) : Driven s (markStaleForOthers n s) :=
  { Driven.refl s with
    only := rfl
    plan := by
      simp only [markStaleForOthers, Option.map_map, Function.comp_def]
      congr 1; funext p; split <;> rfl
    stale := fun p q hp hq hs => by
      simp only [markStaleForOthers, hp, Option.map_some, Option.some.injEq] at hq
      subst hq; split <;> simp [*] }

/-- A change of the record of a RESTORING incident's slot. -/
theorem driven_putSlot {k : Nat} {inc : Incident} (s : State) (old : Incident) (h : s.slot k = some old)
    (hr : old.state = .restoring) : Driven s (putSlot k inc s) :=
  { Driven.refl s with
    only := rfl
    slots := fun j x hj hx => by
      rw [slot_putSlot]; split
      · subst_vars; rw [h] at hj; cases hj; exact absurd hr hx
      · exact hj }

theorem driven_freeSlot {k : Nat} (s : State) (old : Incident) (h : s.slot k = some old)
    (hr : old.state = .restoring) : Driven s (freeSlot k s) :=
  { Driven.refl s with
    only := rfl
    slots := fun j x hj hx => by
      rw [slot_freeSlot]; split
      · subst_vars; rw [h] at hj; cases hj; exact absurd hr hx
      · exact hj }

/-! ### Commands and moves -/

theorem driven_offer (l : Line) (e : QueueEntry) (s : State) : Driven s (offer l e s) := by
  apply driven_onControl; intro c; split <;> exact ⟨rfl, rfl, rfl, rfl, rfl, rfl, rfl, rfl⟩

theorem driven_offerOnce (l : Line) (e : QueueEntry) (s : State) : Driven s (offerOnce l e s) := by
  apply driven_onControl; intro c; split <;> exact ⟨rfl, rfl, rfl, rfl, rfl, rfl, rfl, rfl⟩

theorem driven_withdraw (v : Nat) (p : ActuatedPart) (s : State) : Driven s (withdraw v p s) := by
  apply driven_onControl; intro _; exact ⟨rfl, rfl, rfl, rfl, rfl, rfl, rfl, rfl⟩

theorem driven_emptyUrgent (l : Line) (s : State) : Driven s (emptyUrgent l s) := by
  apply driven_onControl; intro _; exact ⟨rfl, rfl, rfl, rfl, rfl, rfl, rfl, rfl⟩

theorem driven_issue (v : Nat) (p : ActuatedPart) (k : CommandKind) (s : State) : Driven s (issue v p k s) :=
  ((driven_takeSerial s).trans (driven_onMove _ _ _)).trans (driven_offer _ _ _)

theorem driven_issueTimed (v : Nat) (p : ActuatedPart) (target rate preset : Nat) (s : State) :
    Driven s (issueTimed v p target rate preset s) := (driven_onMove _ _ _).trans (driven_issue _ _ _ _)

theorem driven_issueUntimed (v : Nat) (p : ActuatedPart) (target rate : Nat) (s : State) :
    Driven s (issueUntimed v p target rate s) := (driven_onMove _ _ _).trans (driven_issue _ _ _ _)

theorem driven_reoffer (vs : List Nat) (l : Line) (s : State) : Driven s (reoffer vs l s) := by
  induction vs generalizing s with
  | nil => exact .refl s
  | cons v rest ih =>
    simp only [reoffer]
    split
    · split
      · exact driven_offer _ _ _
      · exact (driven_offer _ _ _).trans (ih _)
    · refine Driven.trans ?_ (ih _)
      apply driven_onControl; intro _; exact ⟨rfl, rfl, rfl, rfl, rfl, rfl, rfl, rfl⟩

theorem driven_endMove (v : Nat) (p : ActuatedPart) (s : State) : Driven s (endMove v p s) :=
  (driven_withdraw _ _ _).trans (driven_clearMove _ _)

theorem driven_endAnyMove (v : Nat) (p : ActuatedPart) (s : State) : Driven s (endAnyMove v p s) := by
  unfold endAnyMove; split
  · exact driven_endMove _ _ _
  · exact .refl s

theorem driven_driveBand (v : Nat) (p : ActuatedPart) (s : State) : Driven s (driveBand v p s) := by
  unfold driveBand; dsimp only; split <;> exact (driven_setMotion _ _ _).trans (driven_issueTimed _ _ _ _ _ _)

theorem driven_startClosing (v : Nat) (p : ActuatedPart) (n : Nat) (s : State) : Driven s (startClosing v p n s) := by
  unfold startClosing; split
  · exact .refl s
  · refine Driven.trans ?_ (driven_driveBand _ _ _)
    apply driven_onDyn <;> intro _ <;> rfl

theorem driven_driveCharge (v : Nat) (p : ActuatedPart) (s : State) : Driven s (driveCharge v p s) :=
  (driven_setMotion _ _ _).trans (driven_issueTimed _ _ _ _ _ _)

theorem driven_driveOpen (v : Nat) (p : ActuatedPart) (n : Nat) (s : State) : Driven s (driveOpen v p n s) :=
  (driven_setMotion _ _ _).trans (driven_issueTimed _ _ _ _ _ _)

theorem driven_driveOpening (v : Nat) (p : ActuatedPart) (s : State) : Driven s (driveOpening v p s) := by
  unfold driveOpening; dsimp only; split
  · exact driven_driveCharge _ _ _
  · exact driven_driveOpen _ _ _ _

theorem driven_startOpening (v : Nat) (p : ActuatedPart) (n : Nat) (s : State) : Driven s (startOpening v p n s) := by
  refine Driven.trans ?_ (driven_driveOpening _ _ _)
  apply driven_onDyn <;> intro _ <;> rfl

/-! ### Holders and crews -/

theorem driven_requestCrew (v : Nat) (d : Direction) (n : Nat) (s : State) : Driven s (requestCrew v d n s) := by
  unfold requestCrew
  refine (driven_raise .crewRequest (.valve v) d.code
    [some n, some (s.rankOf v), some s.map.policy.crewTimeout] s).trans ?_
  apply driven_onDyn <;> intro _ <;> rfl

theorem driven_setStarter (v : Nat) (n : Option Nat) (s : State) : Driven s (setStarter v n s) := driven_onMove _ _ _

theorem driven_releaseActuated (v : Nat) (p : ActuatedPart) (n : Nat) (s : State) :
    Driven s (releaseActuated v p n s) := by
  unfold releaseActuated; split
  · split
    · exact driven_endAnyMove _ _ _
    · exact (driven_endAnyMove _ _ _).trans (driven_startOpening _ _ _ _)
  · exact driven_raise _ _ _ _ _

theorem driven_releaseLast (v n : Nat) (s : State) : Driven s (releaseLast v n s) := by
  unfold releaseLast; split
  · exact .refl s
  · split
    · exact driven_setStarter _ _ _
    · exact driven_releaseActuated _ _ _ _
    · split
      · exact driven_requestCrew _ _ _ _
      · exact .refl s

theorem driven_handMove (v n : Nat) (s : State) : Driven s (handMove v n s) := by
  unfold handMove; split
  · exact driven_setStarter _ _ _
  · exact .refl s

theorem driven_releaseOrder (v n : Nat) (s : State) : Driven s (releaseOrder v n s) := by
  unfold releaseOrder; split
  · have h : Driven s (markStaleForOthers n (onDyn v (fun d => { d with holders := d.holders.filter (· != n) }) s)) := by
      refine Driven.trans ?_ (driven_markStaleForOthers _ _)
      apply driven_onDyn <;> intro _ <;> rfl
    dsimp only; split
    · exact h.trans (driven_releaseLast _ _ _)
    · exact h.trans (driven_handMove _ _ _)
  · exact .refl s

theorem driven_firstHold (v n : Nat) (s : State) : Driven s (firstHold v n s) := by
  unfold firstHold; split
  · split
    · exact (driven_endMove _ _ _).trans (driven_startClosing _ _ _ _)
    · exact driven_setStarter _ _ _
    · exact .refl s
  · split
    · apply driven_onDyn <;> intro _ <;> rfl
    · exact .refl s

theorem driven_holdOrder (n : Nat) (s : State) (v : Nat) : Driven s (holdOrder n s v) := by
  unfold holdOrder; split
  · exact .refl s
  · have h : Driven s (markStaleForOthers n (onDyn v (fun d => { d with holders := insertAscending n d.holders }) s)) := by
      refine Driven.trans ?_ (driven_markStaleForOthers _ _)
      apply driven_onDyn <;> intro _ <;> rfl
    dsimp only; split
    · exact h.trans (driven_firstHold _ _ _)
    · exact h

theorem driven_foldl {α : Type} (f : State → α → State) (h : ∀ s x, Driven s (f s x)) (xs : List α) (s : State) :
    Driven s (xs.foldl f s) := by
  induction xs generalizing s with
  | nil => exact .refl s
  | cons x xs ih => exact (h s x).trans (ih _)

theorem driven_holdBoundary (inc : Incident) (s : State) : Driven s (holdBoundary inc s) :=
  driven_foldl _ (fun s v => driven_holdOrder _ s v) _ _

/-- Slot by slot, with the incident that the slot holds at its turn. -/
theorem driven_forSlots {f : Nat → Incident → State → State}
    (h : ∀ k inc s, s.slot k = some inc → Driven s (f k inc s)) (s : State) : Driven s (forSlots f s) :=
  driven_foldl _ (fun s k => by
    split
    · exact h _ _ _ ‹_›
    · exact .refl s) _ _

/-! ### Holder orders leave the incidents -/

theorem engine_endAnyMove (v : Nat) (p : ActuatedPart) (s : State) : (endAnyMove v p s).engine = s.engine := by
  unfold endAnyMove; split <;> rfl

theorem engine_onDyn (v : Nat) (f : ValveDyn → ValveDyn) (s : State) : (onDyn v f s).engine = s.engine := rfl

theorem engine_onMove (v : Nat) (f : Move → Move) (s : State) : (onMove v f s).engine = s.engine := rfl

theorem engine_setMotion (v : Nat) (motion : Motion) (s : State) : (setMotion v motion s).engine = s.engine := rfl

theorem engine_offer (l : Line) (e : QueueEntry) (s : State) : (offer l e s).engine = s.engine := rfl

theorem engine_issue (v : Nat) (p : ActuatedPart) (k : CommandKind) (s : State) :
    (issue v p k s).engine = s.engine := by
  unfold issue; rw [engine_offer, engine_onMove]; rfl

theorem engine_issueTimed (v : Nat) (p : ActuatedPart) (target rate preset : Nat) (s : State) :
    (issueTimed v p target rate preset s).engine = s.engine := by
  unfold issueTimed; rw [engine_issue, engine_onMove]

theorem engine_driveBand (v : Nat) (p : ActuatedPart) (s : State) : (driveBand v p s).engine = s.engine := by
  unfold driveBand; dsimp only; split <;> rw [engine_issueTimed, engine_setMotion]

theorem engine_driveOpening (v : Nat) (p : ActuatedPart) (s : State) : (driveOpening v p s).engine = s.engine := by
  unfold driveOpening driveCharge driveOpen; dsimp only; split <;> rw [engine_issueTimed, engine_setMotion]

theorem engine_startOpening (v : Nat) (p : ActuatedPart) (n : Nat) (s : State) :
    (startOpening v p n s).engine = s.engine := by
  unfold startOpening; rw [engine_driveOpening, engine_onDyn]

theorem engine_releaseActuated (v : Nat) (p : ActuatedPart) (n : Nat) (s : State) :
    (releaseActuated v p n s).engine = s.engine := by
  unfold releaseActuated; split
  · split
    · exact engine_endAnyMove _ _ _
    · rw [engine_startOpening, engine_endAnyMove]
  · rfl

theorem engine_releaseLast (v n : Nat) (s : State) : (releaseLast v n s).engine = s.engine := by
  unfold releaseLast; split
  · rfl
  · split
    · rfl
    · exact engine_releaseActuated _ _ _ _
    · split <;> rfl

theorem engine_releaseOrder (v n : Nat) (s : State) : (releaseOrder v n s).engine = s.engine := by
  unfold releaseOrder; split
  · dsimp only; split
    · rw [engine_releaseLast]; rfl
    · unfold handMove; split <;> rfl
  · rfl

theorem engine_startClosing (v : Nat) (p : ActuatedPart) (n : Nat) (s : State) :
    (startClosing v p n s).engine = s.engine := by
  unfold startClosing; split
  · rfl
  · rw [engine_driveBand, engine_onDyn]

theorem engine_holdOrder (n : Nat) (s : State) (v : Nat) : (holdOrder n s v).engine = s.engine := by
  unfold holdOrder; split
  · rfl
  · dsimp only; split
    · unfold firstHold; split
      · split
        · rw [engine_startClosing]; rfl
        · rfl
        · rfl
      · split <;> rfl
    · rfl

theorem engine_holdBoundary (inc : Incident) (s : State) : (holdBoundary inc s).engine = s.engine := by
  unfold holdBoundary
  generalize inc.boundary = vs
  induction vs generalizing s with
  | nil => rfl
  | cons v vs ih => rw [List.foldl_cons, ih, engine_holdOrder]

/-! ### Settling -/

theorem driven_startOne {s t : State} (h : startOne s = some t) : Driven s t := by
  unfold startOne at h
  split at h
  · cases h
  · dsimp only at h
    split at h
    · cases h
      split
      · exact driven_startClosing _ _ _ _
      · exact (driven_nextFree s).trans (driven_startClosing _ _ _ _)
    · cases h

theorem driven_startRounds (n : Nat) (s : State) : Driven s (startRounds n s) := by
  induction n generalizing s with
  | zero => exact .refl s
  | succ n ih =>
    simp only [startRounds]
    split
    · exact (driven_startOne ‹_›).trans (ih _)
    · exact .refl s

theorem driven_startMoves (s : State) : Driven s (startMoves s) := by
  unfold startMoves; split
  · exact driven_startRounds _ _
  · exact .refl s

theorem driven_crewRequests (s : State) : Driven s (crewRequests s) := by
  unfold crewRequests; split
  · refine driven_forSlots (fun k inc s _ => ?_) s
    split
    · refine driven_foldl _ (fun s v => ?_) _ _
      split
      · exact driven_requestCrew _ _ _ _
      · exact .refl s
    · exact .refl s
  · exact .refl s

theorem driven_releaseOrders (n k : Nat) (s : State) (old : Incident) (h : s.slot k = some old)
    (hr : old.state = .restoring) :
    Driven s (releaseOrders n k s) ∧ ∀ inc, (releaseOrders n k s).slot k = some inc →
      inc.number = old.number ∧ inc.state = .restoring ∧ inc.restoreList <:+ old.restoreList := by
  induction n generalizing s old with
  | zero => exact ⟨.refl s, fun inc hi => by simp only [releaseOrders, h] at hi; cases hi; simp [hr]⟩
  | succ n ih =>
    have stay : Driven s s ∧ ∀ inc, s.slot k = some inc →
        inc.number = old.number ∧ inc.state = .restoring ∧ inc.restoreList <:+ old.restoreList :=
      ⟨.refl s, fun inc hi => by rw [h] at hi; cases hi; simp [hr]⟩
    simp only [releaseOrders, h]
    split
    · split
      · rename_i v rest hl _
        have hd : Driven s (putSlot k { old with restoreList := rest } s) := driven_putSlot s old h hr
        have hslot : (releaseOrder v old.number (putSlot k { old with restoreList := rest } s)).slot k
            = some { old with restoreList := rest } := by
          simp only [State.slot, engine_releaseOrder]
          exact slot_putSlot_same s k _
        have := ih _ _ hslot hr
        refine ⟨hd.trans ((driven_releaseOrder _ _ _).trans this.1), fun inc hi => ?_⟩
        obtain ⟨h1, h2, h3⟩ := this.2 inc hi
        exact ⟨h1, h2, h3.trans (by rw [hl]; exact List.suffix_cons v rest)⟩
      · exact stay
    · exact stay

theorem driven_completeRestore (k : Nat) (inc : Incident) (s : State) (h : s.slot k = some inc)
    (hr : inc.state = .restoring) : Driven s (completeRestore k inc s) := by
  unfold completeRestore; split
  · exact ((driven_freeSlot s inc h hr).trans (driven_raise _ _ _ _ _)).trans (driven_markStaleForOthers _ _)
  · exact .refl s

/-- A restore goes on: everything but the restore's own slot is left, and that slot is FREE or still RESTORING with less of
its list. -/
theorem driven_progressRestore (k : Nat) (old : Incident) (s : State) (h : s.slot k = some old)
    (hr : old.state = .restoring) :
    Driven s (progressRestore k old s) ∧ ∀ inc, (progressRestore k old s).slot k = some inc →
      inc.number = old.number ∧ inc.state = .restoring ∧ inc.restoreList <:+ old.restoreList := by
  obtain ⟨h1, h2⟩ := driven_releaseOrders old.restoreList.length k s old h hr
  unfold progressRestore; dsimp only
  split
  · rename_i inc hi
    obtain ⟨h3, h4, h5⟩ := h2 inc hi
    refine ⟨h1.trans (driven_completeRestore _ _ _ hi h4), fun x hx => ?_⟩
    unfold completeRestore at hx
    split at hx
    · simp [markStaleForOthers, raiseState, raise, State.slot, freeSlot, Table.get_erase] at hx
    · rw [hi] at hx; cases hx; exact ⟨h3, h4, h5⟩
  · rename_i hn
    exact ⟨h1, fun inc hi => by rw [hn] at hi; cases hi⟩

theorem driven_progressRestores (s : State) : Driven s (progressRestores s) :=
  driven_forSlots (fun k inc s h => by
    split
    · exact (driven_progressRestore _ _ _ h ‹_›).1
    · exact .refl s) s

theorem driven_retimePolls (s : State) : Driven s (retimePolls s) := by
  unfold retimePolls; split
  · apply driven_foldl
    intro s l
    apply driven_onControl
    refine fun c => ⟨rfl, rfl, rfl, rfl, rfl, rfl, rfl, ?_⟩
    simp only [List.map_map]
    congr 1; funext e
    simp only [Function.comp, PollEntry.retime]
    split <;> rfl
  · exact .refl s

/-- The settling that ends a step leaves everything that `Driven` gathers. -/
theorem driven_settle (s : State) : Driven s (settle s) :=
  ((driven_progressRestores s).trans (driven_startMoves _)).trans
    ((driven_crewRequests _).trans (driven_retimePolls _))

/-- A line that takes its settings from the map leaves every other line's controller and the rest of its own. -/
@[simp] theorem adoptSettings_control (l k : Line) (s : State) :
    (adoptSettings l s).control.get k =
      if k = l then { s.control.get l with enabled := (s.map.lines.get l).enabled, speed := (s.map.lines.get l).speed }
      else s.control.get k := by
  simp [adoptSettings]

/-- The reoffers after an exchange do. -/
theorem driven_reofferRefused (l : Line) (s : State) : Driven s (reofferRefused l s) := driven_reoffer _ _ _

end Sys2Proof.Machine
end

