-- ==== Sys2Proof/Laws/Reports.lean ====
section
/-! SUPPORT. The report unit's laws: the attention lines as propositions, the settings of the kinds, and all that raising a
report can do (08 R171, R177). -/

namespace Sys2Proof.Machine

open Sys2Proof

/-- 08 R177: the condition of an attention line. -/
theorem attention_eq (u : ReportUnit) (line1 : Bool) :
    u.attention line1 =
      decide ((∃ r ∈ u.queue, (u.kind r.kind).onLine1 = line1) ∨ u.watermark ≤ u.queue.length) := by
  simp only [ReportUnit.attention]
  rw [Bool.eq_iff_iff]
  simp

theorem kind_setKind (u : ReportUnit) (k j : ReportKind) (x : KindSetting) :
    (u.setKind k x).kind j = if j = k then x else u.kind j := by
  cases j <;> cases k <;> simp [ReportUnit.setKind, ReportUnit.kind, ReportKind.index]

@[simp] theorem kind_derive (u : ReportUnit) (k : ReportKind) : u.derive.kind k = u.kind k := rfl

theorem kindOfCode_code (k : ReportKind) : kindOfCode k.code = some k := by cases k <;> rfl

theorem code_range (k : ReportKind) : 1 ≤ k.code ∧ k.code ≤ 23 := by cases k <;> decide

/-- A raised record is masked, lost or queued, and nothing else changes. -/
theorem raise_cases (u : ReportUnit) (r : Report) :
    ((u.kind r.kind).masked = true
        ∧ u.raise r = u.setKind r.kind
            { u.kind r.kind with maskedCount := saturate 255 (u.kind r.kind).maskedCount })
      ∨ ((u.kind r.kind).masked = false ∧ 32 ≤ u.queue.length ∧ u.raise r = { u with lost := saturate 255 u.lost })
      ∨ ((u.kind r.kind).masked = false ∧ u.queue.length < 32
          ∧ u.raise r = ReportUnit.derive { u with queue := u.queue ++ [r] }) := by
  simp only [ReportUnit.raise, reportCapacity]
  cases (u.kind r.kind).masked with
  | true => exact .inl ⟨rfl, rfl⟩
  | false =>
    by_cases h : 32 ≤ u.queue.length
    · exact .inr (.inl ⟨rfl, h, by simp [h]⟩)
    · exact .inr (.inr ⟨rfl, by omega, by simp [h]⟩)

end Sys2Proof.Machine
end

