-- ==== Sys2Proof/Tests/Slice0.lean ====
section
/-! SUPPORT. Small tests: the well-formedness checks, single steps against the spec's own values, and for every obligation
with hypotheses a state and operands that meet them. -/

namespace Sys2Proof.Tests

open Sys2Proof Sys2Proof.Machine

/-! ### States -/

/-- The actuated part of valve 1: line A, station 3, channel 1, stroke 240 s. -/
def part : ActuatedPart := ⟨.a, 3, 1, 240, 800, 4, 600, 100, 120, 2, 50, 60⟩

/-- Segments 1 (SOURCE), 2 and 3 in a row; valve 1 ACTUATED between 1 and 2, valve 2 MANUAL between 2 and 3. -/
def smallMap : NetworkMap :=
  { emptyMap with
    segments := [(1, ⟨0, true, false⟩), (2, ⟨120, false, false⟩), (3, ⟨300, false, false⟩)]
    valves := [(1, ⟨1, 2, .actuated part, .normallyOpen, 5⟩), (2, ⟨2, 3, .manual, .normallyOpen, 2⟩)]
    stations := [(3, ⟨.a, 40, 0, true⟩)]
    lines := ⟨⟨true, .b19200, 20, 15, 4⟩, emptyLineSettings, emptyLineSettings, emptyLineSettings⟩
    alarms := emptyMap.alarms.set 0 ⟨3, .high, 20, .declare⟩ }

/-- RUN with the small map, its line ON and its station ONLINE. -/
def running : State :=
  { State.reset with
    store := ⟨.run, false, .written smallMap 0#16⟩, map := smallMap, stations := [(3, freshStation)]
    control := ⟨{ resetControl with schedule := [⟨3, false, none, 0, 2000⟩], enabled := true, speed := .b19200 },
      resetControl, resetControl, resetControl⟩
    supply := ⟨{ resetSupply with state := .on, timeOn := some 0 }, resetSupply, resetSupply, resetSupply⟩
    drive := ⟨[(2, { blankDyn with position := some 0 })], 0⟩ }

/-- CONFIG with the small map. -/
def configuring : State := { running with store := ⟨.config, false, .written smallMap 0#16⟩ }

/-- An incident with its burst in segment 3. -/
def incident (number : Nat) (state : IncidentState) : Incident :=
  { number := number, state := state, burst := 3, origin := .host, declaredAt := 0, group := 0, always := false,
    released := false, region := [3], boundary := [2], outage := [], excluded := [], customersInRegion := 300,
    customersInOutage := 0, priorityHit := false, consent := .notNeeded, replanPending := false, planCount := 1,
    cause := none, restoreList := [] }

/-- RUN with one incident of number 1 in slot 0. -/
def withIncident (state : IncidentState) : State :=
  { running with engine := ⟨[(0, incident 1 state)], 2, if state = .awaitConsent then [1] else [],
      if state = .awaitConsent then some 300000 else none, 0⟩ }

/-- A closing move of valve 1. -/
def closingMove : Move :=
  { direction := .close, phaseTarget := 800, rate := 5, command := none, timerLeft := 100, standing := .running,
    setsTimer := none, expiries := 0, retriesUsed := 0, resume := none, tripNoted := false, since := 0,
    driveAcked := true, notesTrips := true,
    holdStart := 0, holdElapsed := 0, stallReported := false, dwellLeft := 0, starter := some 1 }

/-- RUN with valve 1 in a motion state with a closing move, held by incident 1. -/
def moving (motion : Motion) (position : Nat) (m : Move) : State :=
  { withIncident .closing with
    drive := ⟨[(1, { blankDyn with position := some position, motion := motion, holders := [1], move := some m })], 0⟩ }

/-- A closing move whose DRIVE is acknowledged, one whose retries are used up, and an opening one. -/
def driven : Move := { closingMove with command := some ⟨.drive 800 5, 0, true⟩ }
def spent : Move := { driven with retriesUsed := 2 }
def opener : Move := { driven with direction := .openUp }

/-- RUN with valve 1 in a motion state with an opening move of incident 1, which is RESTORING and has let go of all. -/
def reopening (motion : Motion) (position : Nat) (m : Move) : State :=
  { running with
    engine := ⟨[(0, { incident 1 .restoring with boundary := [1] })], 2, [], none, 0⟩
    drive := ⟨[(1, { blankDyn with position := some position, motion := motion, move := some m })], 0⟩ }

/-- A state with an exchange in flight on line A. -/
def withExchange (x : Exchange) (s : State) : State := onControl .a (fun c => { c with exchange := some x }) s

/-- An exchange with station 3. -/
def asking (kind : ExchangeKind) (begun : Bool) (window : Option Nat) : Exchange :=
  { address := 3, kind := kind, sent := true, window := window, replyBegun := begun }

/-- A state after a command. -/
def after (i : Instr) (s : State) : State :=
  match exec i s with
  | .next t => t
  | .fault _ => s
  | .refused _ => s

/-- What the reply buffer holds after a command. -/
def answer (i : Instr) (s : State) : Option (Status × List Byte) :=
  (after i s).link.reply.map fun r => (r.status, r.data)

/-! ### Well-formedness -/

theorem test_wellFormed_fits :
    (Instr.putSegment 65535 65535 255 255).wellFormed = true ∧ (Instr.setTime true 4294967295).wellFormed = true
      ∧ (Instr.surgeStall 1023).wellFormed = true ∧ (Instr.pollDue .d 16).wellFormed = true
      ∧ (Instr.debounceExpiry 8).wellFormed = true := by decide

theorem test_illFormed_two_bytes : (Instr.dropSegment 65536).wellFormed = false := by decide
theorem test_illFormed_one_byte : (Instr.putSegment 1 0 256 0).wellFormed = false := by decide
theorem test_illFormed_four_bytes : (Instr.setTime false 4294967296).wellFormed = false := by decide
theorem test_illFormed_valve_fields :
    (Instr.putValve ⟨1, 2, 3, 256, 0, 0, 0, 0, 0, 0, 0, 0, 0, 0, 0, 0, 0, 0⟩).wellFormed = false := by decide
theorem test_illFormed_valve_event : (Instr.moveTimerExpiry 0).wellFormed = false := by decide
theorem test_illFormed_valve_event_high : (Instr.dwellEnd 1024).wellFormed = false := by decide
theorem test_illFormed_station_event : (Instr.pollDue .a 17).wellFormed = false := by decide
theorem test_illFormed_input_event : (Instr.debounceExpiry 9).wellFormed = false := by decide
theorem test_illFormed_pins : (Instr.powerOn 64 0).wellFormed = false := by decide
theorem test_illFormed_speed_pins : (Instr.resetnAsserted 1 4).wellFormed = false := by decide
theorem test_illFormed_no_characters : (Instr.fieldReplyEnd .a []).wellFormed = false := by decide
theorem test_illFormed_no_unsolicited : (Instr.fieldUnsolicitedChars .a []).wellFormed = false := by decide

/-- The table gives no row any bits, so that no word spells a command. -/
theorem test_no_word_spells_a_command : decodeTableWord 8 0 = none := by decide

/-! ### Values that the spec works out -/

/-- 09 R183: over the digits 1 to 9 the check word is 29B1. -/
theorem test_check_word :
    checkWord [0x31#8, 0x32#8, 0x33#8, 0x34#8, 0x35#8, 0x36#8, 0x37#8, 0x38#8, 0x39#8] = 0x29B1#16 := by
  decide +kernel

/-- 09, section 9.5: the payload sizes of the catalogue, request by request. -/
theorem test_catalogue_sizes :
    ([.putSegment 0 0 0 0, .putValve ⟨0, 0, 0, 0, 0, 0, 0, 0, 0, 0, 0, 0, 0, 0, 0, 0, 0, 0⟩, .putStation 0 0 0 0 0 0,
      .putLine 0 0 0 0 0 0, .putAlarm 0 0 0 0 0, .putPolicy 0 0 0 0 0 0, .dropStation 0 0, .readSegment 0 0,
      .readPlan 0 0 0, .declare 0 0 0, .crewResult 0 0, .setMask 0 0, .setTime true 0, .fetch] : List Instr).map
        (fun i => (requestPayload i).length) = [6, 27, 6, 6, 6, 11, 2, 4, 4, 4, 3, 2, 4, 0] := by decide

/-- 11, sections 11.2 and 11.5: stroke 240 s, throttle point 800 and slow ratio 4 give rates 5 and 1, a timer of 460 s from
0 and of 285 s from 700. -/
theorem test_worked_timers :
    part.fast = 5 ∧ part.slow = 1 ∧ timerOf (part.closeTime 0) = 460000
      ∧ timerOf (part.closeTime 700) = 285000 := by decide

/-- A valve of the district of 01, ACTUATED at a station. -/
def actuatedValve (a b : Nat) (normal : NormalState) (rank : Nat) (l : Line) (address channel : Nat) : ValveRec :=
  ⟨a, b, .actuated { part with line := l, address := address, channel := channel }, normal, rank⟩

/-- The S1 to S7 district of 01. -/
def district : NetworkMap :=
  { smallMap with
    segments := [(1, ⟨0, true, false⟩), (2, ⟨120, false, false⟩), (3, ⟨300, false, false⟩), (4, ⟨80, false, false⟩),
      (5, ⟨450, false, false⟩), (6, ⟨60, false, false⟩), (7, ⟨200, false, true⟩)]
    valves := [(1, actuatedValve 1 2 .normallyOpen 5 .a 3 1), (2, actuatedValve 2 3 .normallyOpen 2 .a 5 1),
      (3, ⟨3, 4, .manual, .normallyOpen, 0⟩), (4, actuatedValve 3 5 .normallyOpen 5 .a 5 2),
      (5, actuatedValve 5 6 .normallyOpen 1 .b 7 1), (6, actuatedValve 4 6 .normallyOpen 4 .b 7 2),
      (7, actuatedValve 6 7 .normallyOpen 4 .b 7 3), (8, actuatedValve 1 5 .normallyOpen 3 .a 3 2),
      (9, ⟨2, 4, .manual, .normallyClosed, 5⟩), (10, actuatedValve 5 0 .normallyClosed 3 .b 2 1)]
    stations := [(3, ⟨.a, 40, 0, true⟩), (5, ⟨.b, 4, 0, true⟩), (258, ⟨.c, 14, 0, false⟩), (263, ⟨.b, 9, 3, true⟩)]
    lines := ⟨⟨true, .b19200, 20, 15, 4⟩, ⟨true, .b19200, 20, 15, 4⟩, emptyLineSettings, emptyLineSettings⟩ }

/-- 02, section 2.10: channel 2 of A05 is in local control; V9 and V10 are closed-confirmed. -/
def districtRunning : State :=
  { running with
    map := district
    stations := [(3, freshStation), (5, { freshStation with localControl := ⟨false, true, false, false⟩ }),
      (258, freshStation), (263, freshStation)]
    supply := ⟨{ resetSupply with state := .on }, { resetSupply with state := .on }, resetSupply, resetSupply⟩
    control := ⟨{ resetControl with enabled := true }, { resetControl with enabled := true }, resetControl, resetControl⟩
    drive := ⟨[(9, { blankDyn with position := some 1000, confirmed := true }),
      (10, { blankDyn with position := some 1000, confirmed := true })], 0⟩ }

/-- 02, section 2.10: the plan for a burst in S3. -/
theorem test_worked_plan :
    let p := districtRunning.makePlan { incident 1 .planning with boundary := [], customersInRegion := 0 }
    p.region = [3, 5] ∧ p.noted = [] ∧ p.boundary = [3, 5, 2, 8, 10] ∧ p.outage = [4, 6, 7] ∧ p.customersInRegion = 750
      ∧ p.customersInOutage = 340 ∧ p.priorityHit = true ∧ p.consentNeeded = true ∧ p.cause = none := by decide

/-- 02, section 2.11: V5 INOPERABLE brings S6 into the region. -/
theorem test_worked_replan :
    let s := { districtRunning with
      drive := ⟨(5, { blankDyn with operability := .inoperable }) :: districtRunning.drive.valves, 0⟩ }
    let p := s.makePlan { incident 1 .closing with region := [3, 5] }
    p.region = [3, 5, 6] ∧ p.boundary = [3, 2, 8, 10, 6, 7] ∧ p.customersInRegion = 810 ∧ p.customersInOutage = 280 := by
  decide

/-! ### Single steps -/

/-- 03 R57: DECLARE is ACCEPTED with the number and the slot. -/
theorem test_declare : answer (.declare 2 0 0) running = some (.accepted, [1#8, 0#8]) := by decide

/-- 03 R58: a burst in an active region is ABSORBED. -/
theorem test_declare_absorbed : answer (.declare 3 0 0) (withIncident .closing) = some (.absorbed, [1#8]) := by decide

/-- 01 R19: an alarm input's number out of range is the first bad field. -/
theorem test_putAlarm_bad_input : answer (.putAlarm 9 0 0 1 0) configuring = some (.badField, [1#8, 0#8, 0#8, 0#8]) := by
  decide

/-- 10 R201: valve 2 with an absent end is named by kind 2 and its identifier. -/
theorem test_leaveConfig_names_the_valve :
    answer .leaveConfig { configuring with map := { smallMap with segments := smallMap.segments.take 2 } }
      = some (.badField, [0#8, 2#8, 0#8, 2#8]) := by decide

/-- 08 R169: the state after reset has watermark 24 and counter 1. -/
theorem test_reset_values :
    State.reset.reports.watermark = 24 ∧ State.reset.engine.counter = 1 ∧ State.reset.store.mode = .starting := by decide

/-- 08 R178: SET_WATERMARK. -/
theorem test_setWatermark : (after (.setWatermark 32) running).reports.watermark = 32 := by decide

/-- 08 R179: FETCH on an empty queue. -/
theorem test_fetch_empty : answer .fetch running = some (.done, [0#8, 0#8, 0#8]) := by decide

/-- 06 R153: the fourth trip within 30 s locks the supply off. -/
theorem test_supplyTrip_locks_off :
    let u : Supply := { resetSupply with state := .on, timeOn := some 0, tripCount := 3, overcurrent := true }
    (after (.supplyTrip .a) { running with supply := running.supply.set .a u }).supply.a.state = .lockedOff := by decide

/-- 05 R125: at 19200 the response window is 40 ms. -/
theorem test_window_opens :
    ((after (.fieldRequestSent .a)
      (withExchange { asking .poll false none with sent := false } running)).control.a.exchange.bind (·.window)) = some 40 := by
  decide

/-- 06 R145: no reply adds 16 to the score. -/
theorem test_noReply_scores :
    (((after (.responseWindowExpiry .a) (withExchange (asking .poll false (some 1)) running)).station .a 3).score) = 16 := by
  decide

/-- 04 R102: a pressure of 640 above the ceiling of 600 holds the stroke. -/
theorem test_surge_hold :
    ((after (.fieldReplyEnd .a ((frameOf 0xC3#8 3 0x80#8
        (be2 700 ++ be1 0 ++ be2 0 ++ be1 0 ++ be2 0 ++ be1 0 ++ be2 0 ++ be1 0 ++ be2 640)).map fun b => ⟨b, true⟩))
      (withExchange (asking .poll true none) (moving .closingFast 690 closingMove))).dyn 1).motion = .holding := by
  decide +kernel

/-- 04 R105: a hold notes trips when a DRIVE of its move was acknowledged before it. -/
theorem test_hold_notes_trips :
    ((after (.fieldReplyEnd .a ((frameOf 0xC3#8 3 0x80#8
        (be2 700 ++ be1 0 ++ be2 0 ++ be1 0 ++ be2 0 ++ be1 0 ++ be2 0 ++ be1 0 ++ be2 640)).map fun b => ⟨b, true⟩))
      (withExchange (asking .poll true none)
        (moving .closingFast 690 { closingMove with notesTrips := false }))).dyn 1).move.map (·.notesTrips) = some true := by
  decide +kernel

/-- 04 R105: the acknowledgement of a DRIVE taken while its move is held counts for a later hold, not for this one. -/
theorem test_acknowledged_in_a_hold :
    let m := { closingMove with driveAcked := false, notesTrips := false }.acknowledged (.drive 800 5) 0
    m.driveAcked = true ∧ m.notesTrips = false := by decide

/-- 07 R161: a debounce of one tenth that starts at 99 ms of a tenth of the clock does not end with it. -/
theorem test_debounce_has_its_own_time :
    let s := { running with elapsed := 99, alarms := running.alarms.set 0 ⟨.high, some .low, some 100, false, false⟩ }
    (match step s with | .next t => t.pending | _ => [.fetch]) = []
      ∧ (match step s with | .next t => t.alarms[0].timer | _ => none) = some 99 := by decide

/-- 04 R108: a crew's CLOSED puts a MANUAL valve at 1000, closed-confirmed. -/
theorem test_crewResult_closed :
    let d := (after (.crewResult 2 0) running).dyn 2
    d.position = some 1000 ∧ d.confirmed = true := by decide

/-- 07 R161: the debounced level of an input after reset is taken at the first expiry. -/
theorem test_debounce_takes_the_level :
    ((after (.debounceExpiry 1) running).alarms[0]).debounced = some .low := by decide

/-! ### States and operands that meet the hypotheses of the obligations, clause by clause -/

theorem witness_IdleStepCountsElapsedTime :
    running.pending = [] ∧ Table.Wf running.drive.valves ∧ ({ running with elapsed := 98 }.elapsed + 1) % 100 ≠ 0
      ∧ ({ running with elapsed := 99 }.elapsed + 1) % 100 = 0 := by decide

theorem witness_RequestsAreAnsweredAndRefusalsChangeNothing :
    requestKind .fetch = some 0x40#8 ∧ isBroadcast .fetch = false
      ∧ requestKind (.setTime false 4294967295) = some 0x50#8 ∧ isBroadcast (.setTime false 4294967295) = false
      ∧ answer .clearMap running = some (.wrongMode, []) := by decide

theorem witness_WrongModeAndBusyGateTheRequests :
    requestKind .clearMap = some 0x0A#8 ∧ isBroadcast .clearMap = false ∧ takenIn .clearMap .run = false
      ∧ { configuring with store := ⟨.config, true, .blank⟩ }.store.busy = true
      ∧ ∀ m, takenIn .clearMap m = decide (m = .config) :=
  ⟨by decide, by decide, by decide, by decide, fun m => by cases m <;> rfl⟩

theorem witness_FirstBadFieldIsNamed :
    configuring.store.mode = .config ∧ configuring.store.busy = false ∧ running.store.mode = .run
      ∧ running.store.mode ≠ .starting ∧ ¬(1 ≤ 0 ∧ 0 ≤ 511) ∧ ¬(1 ≤ 512 ∧ 512 ≤ 511) ∧ (1 ≤ 511 ∧ 511 ≤ 511)
      ∧ ¬(1 ≤ 1024 ∧ 1024 ≤ 1023) ∧ ¬(511 ≤ 511 ∧ 511 ≠ 511) ∧ ¬2 ≤ 1 ∧ ¬4 ≤ 3 ∧ ¬(1 ≤ 17 ∧ 17 ≤ 16)
      ∧ ¬(0 = 0 → (10 ≤ 500 ∧ 500 ≤ 500) ∧ (500 = 0 ∨ 500 < 500)) ∧ (0 = 0 → (10 ≤ 500 ∧ 500 ≤ 500) ∧ (0 = 0 ∨ 500 < 0))
      ∧ (1 = 0 → 9 ≤ 3)
      ∧ ¬((if 0 = 0 then 2 else 0) ≤ 1 ∧ 1 ≤ 63) ∧ ¬((if 2 = 0 then 2 else 0) ≤ 64 ∧ 64 ≤ 63)
      ∧ ((if 1 = 0 then 2 else 0) ≤ 0 ∧ 0 ≤ 63) ∧ ¬16 ≤ 15 ∧ ¬(1 ≤ 61 ∧ 61 ≤ 60) ∧ ¬(1 ≤ 0 ∧ 0 ≤ 255)
      ∧ ¬1000001 ≤ 1000000 ∧ ¬(1 ≤ 5 ∧ 5 ≤ 4) := by decide

theorem witness_PutsReplaceTheRecordWhole :
    configuring.store.mode = .config ∧ configuring.store.busy = false ∧ (1 ≤ 511 ∧ 511 ≤ 511 ∧ 65535 ≤ 65535)
      ∧ (1 ≤ 16 ∧ 16 ≤ 16 ∧ (PollClass.a = .a → 2 ≤ 2) ∧ 63 ≤ 63 ∧ 15 ≤ 15 ∧ 1 ≤ 1)
      ∧ (1 ≤ 255 ∧ 255 ≤ 255 ∧ 1 ≤ 60 ∧ 60 ≤ 60 ∧ 1 ≤ 15 ∧ 15 ≤ 15)
      ∧ 1000000 ≤ 1000000 ∧ 3600 ≤ 3600 ∧ 480 ≤ 480 ∧ 1 ≤ 4 ∧ 4 ≤ 4 := by decide

/-- The fields of an ACTUATED valve with every part at a bound, and of a MANUAL one with the part's fields out of range. -/
def boundFields : ValveFields := ⟨1023, 511, 0, 0, 1, 15, 3, 16, 4, 1000, 990, 8, 2500, 500, 3600, 3, 200, 600⟩
def boundPart : ActuatedPart := ⟨.d, 16, 4, 1000, 990, 8, 2500, 500, 3600, 3, 200, 600⟩
def manualFields : ValveFields := ⟨1, 1, 2, 1, 0, 0, 9, 0, 9, 0, 0, 0, 1, 0, 0, 9, 0, 9⟩

theorem boundFields_valid : FieldsValid boundFields := by decide
theorem manualFields_valid : FieldsValid manualFields := by decide

theorem witness_PutValveWritesEntryAndRecord :
    configuring.store.mode = .config ∧ configuring.store.busy = false ∧ boundFields.kind = 0 ∧ manualFields.kind ≠ 0
      ∧ (boundFields.stationLine = Line.code boundPart.line ∧ boundFields.stationAddress = boundPart.address
        ∧ boundFields.channel = boundPart.channel ∧ boundFields.strokeTime = boundPart.strokeTime
        ∧ boundFields.throttlePoint = boundPart.throttlePoint ∧ boundFields.slowRatio = boundPart.slowRatio
        ∧ boundFields.surgeCeiling = boundPart.surgeCeiling ∧ boundFields.surgeHysteresis = boundPart.surgeHysteresis
        ∧ boundFields.maximumHold = boundPart.maximumHold ∧ boundFields.torqueRetries = boundPart.torqueRetries
        ∧ boundFields.chargeOpening = boundPart.chargeOpening ∧ boundFields.chargeDwell = boundPart.chargeDwell) := by decide

/-- CONFIG with input 1 debounced HIGH and its settings. -/
def configuringInput (segment : Nat) : State :=
  { configuring with
    map := { smallMap with alarms := smallMap.alarms.set 0 ⟨segment, .high, 20, .declare⟩ }
    alarms := configuring.alarms.set 0 ⟨.high, some .high, none, false, false⟩ }

theorem witness_PutAlarmWritesAndJudges :
    let was (s : State) := decide (s.alarms[0].debounced = some s.map.alarms[0].active ∧ s.map.alarms[0].segment ≠ 0)
    let now (s : State) (x : AlarmSettings) := decide (s.alarms[0].debounced = some x.active ∧ x.segment ≠ 0)
    (configuringInput 0).store.mode = .config ∧ (configuringInput 0).store.busy = false
      ∧ (511 ≤ 511 ∧ 1 ≤ 255 ∧ 255 ≤ 255)
      ∧ was (configuringInput 3) = now (configuringInput 3) ⟨511, .high, 255, .declare⟩
      ∧ was (configuringInput 0) = false ∧ now (configuringInput 0) ⟨511, .high, 1, .reportOnly⟩ = true
      ∧ now (configuringInput 0) ⟨1, .high, 255, .declare⟩ = true
      ∧ was (configuringInput 3) = true ∧ now (configuringInput 3) ⟨0, .high, 1, .declare⟩ = false
      ∧ now (configuringInput 3) ⟨3, .low, 1, .declare⟩ = false := by decide

theorem witness_DropsRemoveEntries :
    configuring.store.mode = .config ∧ configuring.store.busy = false
      ∧ Table.has configuring.map.segments 1 = true ∧ Table.has configuring.map.segments 511 = false
      ∧ Table.has configuring.map.valves 2 = true ∧ Table.has configuring.map.valves 1023 = false
      ∧ Table.has configuring.map.stations (Line.code .a * 256 + 3) = true
      ∧ Table.has configuring.map.stations (Line.code .d * 256 + 16) = false := by decide

theorem witness_ClearMapLeavesTheEmptyMap :
    configuring.store.mode = .config ∧ configuring.store.busy = false ∧ (∀ i, configuring.asserted i = false)
      ∧ (configuringInput 3).asserted 0 = true := by decide

theorem witness_EnterConfigQuiescesTheLines :
    running.store.mode = .run ∧ (withIncident .closing).engine.slots ≠ [] ∧ running.engine.slots = []
      ∧ (∀ l, (running.control.get l).exchange = none)
      ∧ ¬∀ l, ((withExchange (asking .poll false none) running).control.get l).exchange = none :=
  ⟨by decide, by decide, by decide, fun l => by cases l <;> rfl, fun h => absurd (h .a) (by decide)⟩

theorem smallMap_valid : smallMap.Valid := by
  refine ⟨?_, ?_, ?_⟩
  · intro e he
    simp only [smallMap, List.mem_cons, List.not_mem_nil, or_false] at he
    obtain rfl | rfl := he
    · refine ⟨by decide, by decide, by decide, fun p hp => ?_⟩
      cases hp
      refine ⟨by decide, fun e h lt => ?_⟩
      simp only [smallMap, List.mem_cons, List.not_mem_nil, or_false] at h
      rcases h with rfl | rfl <;> simp at lt
    · exact ⟨by decide, by decide, by decide, fun p hp => by cases hp⟩
  · intro e he
    simp only [smallMap, List.mem_cons, List.not_mem_nil, or_false] at he
    subst he
    exact ⟨.a, by decide, by decide⟩
  · decide

/-- CONFIG with a deferred declaration of input 1, whose settings declare, and of input 8, which has no segment. -/
def deferring : State :=
  { configuring with
    alarms := (configuring.alarms.set 0 ⟨.high, some .high, none, true, true⟩).set 7 ⟨.high, some .high, none, true, true⟩ }

theorem witness_LeaveConfigEntersRun :
    configuring.store.mode = .config ∧ configuring.store.busy = false ∧ configuring.map.Sound ∧ configuring.map.Valid
      ∧ (configuring.map.lines.get .a).enabled = true ∧ (configuring.map.lines.get .d).enabled = false
      ∧ (∀ i : Fin 8, configuring.alarms[i].deferred = false)
      ∧ deferring.store.mode = .config ∧ deferring.store.busy = false ∧ deferring.map = smallMap
      ∧ deferring.alarms[0].deferred = true ∧ deferring.map.alarms[0] = ⟨3, .high, 20, .declare⟩
      ∧ deferring.alarms[7].deferred = true ∧ deferring.map.alarms[7].segment = 0
      ∧ (∀ s ∈ [configuring, deferring], s.IdleOutsideRun ∧ s.SlotsSound ∧ s.PlannerSound) :=
  ⟨by decide, by decide, by decide, smallMap_valid, by decide, by decide, by decide, by decide, by decide, rfl, by decide,
    by decide, by decide, by decide, by decide⟩

/-- CONFIG with an absent segment 3, named by valve 2 and by input 1. -/
def configuringInvalid : State :=
  { configuring with map := { smallMap with segments := smallMap.segments.take 2 } }

/-- CONFIG with a station on a line that is not enabled. -/
def configuringNoLine : State :=
  { configuring with map := { smallMap with lines := emptyMap.lines } }

/-- CONFIG with an alarm input for an absent segment. -/
def configuringNoSegment : State :=
  { configuring with map := { smallMap with alarms := smallMap.alarms.set 7 ⟨511, .high, 20, .declare⟩ } }

theorem witness_InvalidMapIsNamedAndKept :
    (∀ s ∈ [configuringInvalid, configuringNoLine, configuringNoSegment],
        s.store.mode = .config ∧ s.store.busy = false ∧ s.map.Sound)
      ∧ ¬configuringInvalid.map.Valid ∧ ¬configuringNoLine.map.Valid ∧ ¬configuringNoSegment.map.Valid := by
  refine ⟨by decide, fun h => ?_, fun h => ?_, fun h => ?_⟩
  · exact absurd (h.1 (2, ⟨2, 3, .manual, .normallyOpen, 2⟩) (by decide)).2.1 (by decide)
  · obtain ⟨l, _, hl⟩ := h.2.1 (3, ⟨.a, 40, 0, true⟩) (by decide)
    cases l <;> exact absurd hl (by decide)
  · exact absurd (h.2.2 7) (by decide)

/-- STARTING with an image of the small map under a sum, and input 1, whose segment it sets, debounced HIGH. -/
def loading (sum : BitVec 16) : State :=
  { State.reset with
    store := ⟨.starting, false, .written smallMap sum⟩
    alarms := State.reset.alarms.set 0 ⟨.high, some .high, none, false, false⟩ }

theorem witness_TheImageIsSavedAndLoaded :
    configuring.store.mode = .config ∧ configuring.store.busy = false ∧ configuring.map.Sound ∧ configuring.map.Valid
      ∧ { configuring with store := ⟨.config, true, .saving smallMap⟩ }.store.image = .saving smallMap
      ∧ (∀ content, configuring.store.image ≠ .saving content)
      ∧ (∃ sum, sum ≠ sum16 smallMap)
      ∧ State.reset.store.mode = .starting ∧ State.reset.store.image = .blank
      ∧ (loading (sum16 smallMap)).store.mode = .starting
      ∧ (∀ sum, (loading sum).store.image = .written smallMap sum) ∧ (loading 0#16).alarms[0].debounced = some .high
      ∧ smallMap.Sound ∧ Table.get smallMap.valves 1 = some ⟨1, 2, .actuated part, .normallyOpen, 5⟩
      ∧ Table.get smallMap.valves 2 = some ⟨2, 3, .manual, .normallyOpen, 2⟩
      ∧ (∀ sum, (loading sum).IdleOutsideRun ∧ (loading sum).SlotsSound ∧ (loading sum).PlannerSound) :=
  ⟨by decide, by decide, by decide, smallMap_valid, by decide, fun _ h => (by cases h), ⟨sum16 smallMap + 1#16, by bv_omega⟩,
    by decide, by decide, rfl, fun _ => rfl, by decide, by decide, by decide, by decide,
    fun _ => ⟨fun _ => rfl, (by decide : State.reset.SlotsSound), (by decide : State.reset.PlannerSound)⟩⟩

theorem witness_FullResetSetsEveryBlock :
    63 < 64 ∧ 3 < 4 ∧ { running with store := ⟨.run, true, .saving smallMap⟩ }.store.image = .saving smallMap
      ∧ ∀ content, running.store.image ≠ .saving content :=
  ⟨by decide, by decide, rfl, fun _ h => by cases h⟩

theorem witness_ResetPartFollowsItsReply :
    let replying (sending heard pending : Bool) : State :=
      { running with link := { running.link with receiver := .replying sending heard, resetPending := pending } }
    (replying false false false).link.receiver = .replying false false
      ∧ (replying true true false).link.receiver = .replying true true ∧ (replying true true false).link.resetPending = false
      ∧ (replying true false true).link.receiver = .replying true false
      ∧ (replying true false true).link.resetPending = true := by decide

theorem witness_ReadSegmentAndPlanReturnPages :
    running.store.mode ≠ .starting ∧ Table.get running.map.segments 2 = some ⟨120, false, false⟩
      ∧ (running.map.valves.filter fun e => e.2.endA = 2 || e.2.endB = 2).length = 2
      ∧ (withIncident .closing).store.mode = .run ∧ (withIncident .closing).SlotsSound
      ∧ (0, incident 1 .closing) ∈ (withIncident .closing).engine.slots
      ∧ 1 ≤ (incident 1 .closing).region.length ∧ (incident 1 .closing).region.length < 2 := by decide

theorem witness_ReadsOfValveStationAndIncident :
    running.store.mode ≠ .starting
      ∧ Table.get running.map.valves 1 = some ⟨1, 2, .actuated part, .normallyOpen, 5⟩
      ∧ Table.get running.map.valves 2 = some ⟨2, 3, .manual, .normallyOpen, 2⟩
      ∧ Table.get running.map.stations (Line.code .a * 256 + 3) = some ⟨.a, 40, 0, true⟩
      ∧ Table.get configuring.stations (Line.code .d * 256 + 16) = none
      ∧ Table.has running.stations (Line.code .a * 256 + 3) = true
      ∧ (running.control.get .a).schedule.find? (fun q => q.address = 3) = some ⟨3, false, none, 0, 2000⟩
      ∧ running.slot 3 = none ∧ (withIncident .awaitConsent).slot 0 = some (incident 1 .awaitConsent)
      ∧ (withIncident .awaitConsent).engine.consentQueue.head? = some 1 := by decide

/-- 03 R52, R83, 06 R158: valve 1 moves for incident 1, which it alone bounds; READ_STATION returns its station. -/
theorem test_reads_of_incident_and_station :
    let s := { moving .closingFast 300 closingMove with
      engine := ⟨[(0, { incident 1 .closing with boundary := [1] })], 2, [], none, 0⟩ }
    (answer (.readIncident 0) s).map (fun r => (r.2.drop 30).take 5) = some [0#8, 0#8, 1#8, 0#8, 0#8]
      ∧ (answer (.readStation 0 3) s).map (fun r => r.2.drop 13) =
          some [1#8, 0#8, 0#8, 10#8, 0#8, 0#8, 0#8, 0#8, 1#8, 1#8, 0#8, 1#8, 1#8] := by decide

theorem witness_ReadLineAndPartClearWhatTheyReturn : running.store.mode ≠ .starting := by decide

/-- RUN with a second incident in slot 1, ARMED in group 14, with its region beside the first's. -/
def second : Incident :=
  { incident 2 .armed with burst := 2, region := [2], boundary := [1], group := 14, declaredAt := 5 }

/-- RUN with every slot taken. -/
def full : State :=
  { running with engine := ⟨[(0, incident 1 .closing), (1, second), (2, { second with number := 3, region := [] }),
      (3, { second with number := 255, region := [] })], 4, [], none, 0⟩ }

/-- RUN with incident 1 PLANNING and its plan in progress. -/
def planning (stale : Bool) : State :=
  { withIncident .planning with planner := ⟨[], some { newPlan 1 [3] with stale := stale }⟩ }

theorem witness_DeclareCreatesOrIsTurnedAway :
    running.store.mode = .run ∧ Table.has running.map.segments 3 = true ∧ Table.has running.map.segments 511 = false
      ∧ running.SlotsSound ∧ running.PlannerSound ∧ (∀ inc ∈ running.activeIncidents, 3 ∉ inc.region)
      ∧ running.slot 0 = none ∧ (∀ k < 0, running.slot k ≠ none) ∧ running.planner.plan = none
      ∧ (withIncident .planning).slot 1 = none ∧ (∀ k < 1, (withIncident .planning).slot k ≠ none)
      ∧ (planning false).SlotsSound ∧ (planning false).PlannerSound
      ∧ (∀ inc ∈ (planning false).activeIncidents, 2 ∉ inc.region)
      ∧ full.RegionsDisjoint ∧ incident 1 .closing ∈ full.activeIncidents ∧ 3 ∈ (incident 1 .closing).region
      ∧ (∀ inc ∈ full.activeIncidents, 1 ∉ inc.region) ∧ Table.has full.map.segments 1 = true
      ∧ ∀ k ≤ 3, full.slot k ≠ none := by
  and_intros <;> decide

/-- RUN with incidents 4 and 5 in the consent queue, and commands that wait. -/
def awaitingTwo (waiting : List Instr) : State :=
  { running with
    engine := ⟨[(0, incident 4 .awaitConsent), (1, { incident 5 .awaitConsent with burst := 2, region := [2] })], 6, [4, 5],
      some 0, 0⟩
    pending := waiting }

/-- 03 R68: of a CONSENT and the expiry for the same entry, the one that is taken first counts. -/
theorem test_consent_calls_off_the_expiry :
    let states (s : State) := s.engine.slots.map fun e => e.2.state
    let first := after (.consent 4 1) (awaitingTwo [.consentTimeout])
    states first = [.uncontained, .awaitConsent]
      ∧ states (after .consentTimeout { first with pending := [] }) = [.uncontained, .awaitConsent]
      ∧ (after .consentTimeout { first with pending := [] }).engine.consentLeft = some 300000
      ∧ (answer (.consent 4 1) (after .consentTimeout (awaitingTwo []))).map (·.1) = some .wrongState := by decide

theorem witness_ConsentIsResolvedByHostOrTimer :
    let s := withIncident .awaitConsent
    s.SlotsSound ∧ s.ConsentSound ∧ (0, incident 1 .awaitConsent) ∈ s.engine.slots ∧ s.store.mode = .run
      ∧ s.engine.consentLeft ≠ none ∧ s.engine.consentQueue.head? = some 1 ∧ s.engine.voidExpiries = 0
      ∧ s.map.policy.timeoutAction = .proceed ∧ (awaitingTwo [.consentTimeout]).SlotsSound
      ∧ (awaitingTwo [.consentTimeout]).ConsentSound
      ∧ (after (.consent 4 0) (awaitingTwo [.consentTimeout])).engine.voidExpiries ≠ 0
      ∧ { s with map := { s.map with policy := { s.map.policy with timeoutAction := .decline } } }.map.policy.timeoutAction
          = .decline := by decide

theorem witness_ReleaseClosesArmedIncidents :
    full.SlotsSound ∧ full.store.mode = .run ∧ configuring.store.mode ≠ .run ∧ configuring.SlotsSound
      ∧ (1, second) ∈ full.engine.slots ∧ second.state = .armed ∧ second.group = 14
      ∧ (0, incident 1 .closing) ∈ full.engine.slots := by decide

theorem witness_ReplanSendsAPlanRequest :
    let own := { withIncident .closing with planner := ⟨[], some (newPlan 1 [3])⟩ }
    let other := { full with planner := ⟨[1], some (newPlan 2 [2])⟩ }
    (withIncident .closing).store.mode = .run ∧ (withIncident .closing).SlotsSound
      ∧ (withIncident .closing).PlannerSound ∧ (withIncident .closing).planner.plan = none
      ∧ (∀ e ∈ (withIncident .closing).engine.slots, e.2.number ≠ 255)
      ∧ (0, incident 1 .closing) ∈ (withIncident .closing).engine.slots
      ∧ (0, incident 1 .planning) ∈ (withIncident .planning).engine.slots
      ∧ (0, incident 1 .restoring) ∈ (withIncident .restoring).engine.slots ∧ (withIncident .restoring).PlannerSound
      ∧ own.SlotsSound ∧ own.PlannerSound ∧ own.planner.plan = some (newPlan 1 [3])
      ∧ other.SlotsSound ∧ other.PlannerSound ∧ other.planner.plan = some (newPlan 2 [2]) := by
  and_intros <;> decide

theorem witness_RestoreReleasesInReverseOrder :
    let held (s : State) := (s.drive.valves.filter fun e => e.2.holders.contains 1).map (·.1)
    let closing := moving .closingFast 300 closingMove
    (∀ s ∈ [withIncident .restoring, withIncident .planning, closing, withIncident .isolated],
        s.store.mode = .run ∧ s.SlotsSound ∧ s.ConsentSound ∧ s.PlannerSound)
      ∧ closing.ValvesSound ∧ (∀ e ∈ closing.engine.slots, e.2.state ≠ .restoring)
      ∧ (0, incident 1 .restoring) ∈ (withIncident .restoring).engine.slots
      ∧ (0, incident 1 .planning) ∈ (withIncident .planning).engine.slots ∧ held (withIncident .planning) = []
      ∧ (0, incident 1 .closing) ∈ closing.engine.slots ∧ held closing = [1] := by decide

theorem witness_RestoreReleasesInReverseOrder_nothing_held :
    (withIncident .isolated).ValvesSound ∧ (0, incident 1 .isolated) ∈ (withIncident .isolated).engine.slots
      ∧ (∀ e ∈ (withIncident .isolated).engine.slots, e.2.state ≠ .restoring)
      ∧ ∀ e ∈ (withIncident .isolated).drive.valves, e.2.holders = [] ∧ e.2.move = none := by decide

theorem witness_CrewResultSetsTheValve :
    running.store.mode = .run ∧ Table.get running.map.valves 1023 = none
      ∧ Table.get running.map.valves 1 = some ⟨1, 2, .actuated part, .normallyOpen, 5⟩
      ∧ Table.get running.map.valves 2 = some ⟨2, 3, .manual, .normallyOpen, 2⟩ := by decide

theorem witness_SetOperabilityMarksTheValve :
    running.store.mode = .run ∧ configuring.store.mode = .config ∧ Table.has running.map.valves 1 = true
      ∧ (running.dyn 1).move = none ∧ (running.dyn 1).motion = .idle ∧ (running.dyn 1).operability ≠ .inoperable
      ∧ ((moving .closingFast 300 closingMove).dyn 1).move ≠ none := by decide

theorem witness_PlanCompletionPublishes :
    running.planner.plan = none ∧ (planning true).planner.plan = some { newPlan 1 [3] with stale := true }
      ∧ (planning false).planner.plan = some (newPlan 1 [3]) ∧ (newPlan 1 [3]).incident = (incident 1 .planning).number
      ∧ (newPlan 1 [3]).stale = false
      ∧ (0, incident 1 .planning) ∈ (planning false).engine.slots ∧ (planning false).SlotsSound
      ∧ (planning false).ConsentSound ∧ ((planning false).makePlan (incident 1 .planning)).noted = [] := by decide

/-- RUN with two incidents in a row: valve 2 is INOPERABLE, so that the plan of incident 1 grows into the region of
incident 2. -/
def touching : State :=
  { running with
    engine := ⟨[(0, incident 1 .planning), (1, second)], 3, [], none, 0⟩, planner := ⟨[], some (newPlan 1 [3])⟩
    drive := ⟨[(2, { blankDyn with position := some 0, operability := .inoperable })], 0⟩ }

theorem witness_MergeLeavesTheEarliestIncident :
    touching.planner.plan = some (newPlan 1 [3]) ∧ (newPlan 1 [3]).incident = (incident 1 .planning).number
      ∧ (newPlan 1 [3]).stale = false
      ∧ (0, incident 1 .planning) ∈ touching.engine.slots ∧ touching.SlotsSound
      ∧ (touching.makePlan (incident 1 .planning)).noted = [2] := by decide

theorem witness_ContainedPlanHasAUsableBoundary :
    Table.Wf running.map.valves ∧ (running.makePlan (incident 1 .planning)).cause = none
      ∧ (running.makePlan (incident 1 .planning)).boundary = [2] := by decide

theorem witness_PlanRegionGrowsFromTheRecord :
    (incident 1 .planning).region.Nodup ∧ (incident 1 .planning).region.length ≤ 48 ∧ second ∈ touching.activeIncidents
      ∧ second.number ≠ 1 ∧ (∀ x ∈ second.region, x ∉ (incident 1 .planning).region) ∧ touching.RegionsDisjoint
      ∧ ∃ x ∈ second.region, x ∈ (touching.makePlan (incident 1 .planning)).region := by decide

theorem witness_SupplyIsReachabilityFromSources : running.supplied 1 [] [] = [1, 2, 3] := by decide

theorem witness_PlanTalliesOutageAndConsent :
    Table.Wf districtRunning.map.segments ∧ (districtRunning.makePlan (incident 1 .planning)).cause = none
      ∧ (districtRunning.makePlan (incident 1 .planning)).outage = [4, 6, 7] := by decide

theorem witness_MoveTimerExpiresTwice :
    let stopped := { closingMove with standing := .stopped }
    let again := { closingMove with expiries := 1 }
    (∀ m ∈ [closingMove, stopped, again],
        (moving .closingFast 994 m).SlotsSound ∧ (moving .closingFast 994 m).actuated 1 = some part
          ∧ ((moving .closingFast 994 m).dyn 1).move = some m
          ∧ (moving .closingFast 994 m).Unlisted 1)
      ∧ stopped.standing ≠ .running ∧ closingMove.standing = .running ∧ closingMove.expiries = 0
      ∧ ((moving .closingFast 994 closingMove).dyn 1).motion = .closingFast
      ∧ ((moving .closingFast 994 closingMove).dyn 1).position.getD 0 < 995
      ∧ again.standing = .running ∧ again.expiries ≠ 0 ∧ closingMove.direction = .close ∧ closingMove.starter ≠ none
      ∧ 1 ∈ ((moving .closingFast 994 again).dyn 1).holders
      ∧ 799 < part.throttlePoint ∧ part.throttlePoint ≤ 800
      ∧ ((moving .backoff 680 closingMove).dyn 1).motion = .backoff
      ∧ ((onDyn 1 (fun d => { d with confirmed := true }) (moving .closingSlow 995 closingMove)).dyn 1).confirmed = true := by
  decide

theorem witness_MoveTimerExpiresTwice_opening :
    ∀ motion ∈ [Motion.charging, .opening], ∀ m ∈ [opener, { opener with expiries := 1 }],
      (reopening motion 960 m).SlotsSound ∧ (reopening motion 960 m).actuated 1 = some part
        ∧ ((reopening motion 960 m).dyn 1).move = some m ∧ (reopening motion 960 m).Unlisted 1 ∧ m.standing = .running
        ∧ ((reopening motion 960 m).dyn 1).motion = motion ∧ (reopening motion 960 m).ValvesSound
        ∧ ((reopening motion 960 m).engine.slots.filter fun e => e.2.state = .restoring).length ≤ 1 := by
  decide

theorem witness_ClosureTimersFollowTheStroke :
    let least : ActuatedPart := { part with strokeTime := 10, throttlePoint := 500, slowRatio := 1 }
    let most : ActuatedPart := { part with strokeTime := 1000, throttlePoint := 990, slowRatio := 8 }
    (∀ p ∈ [part, least, most], 10 ≤ p.strokeTime ∧ p.strokeTime ≤ 1000 ∧ 500 ≤ p.throttlePoint ∧ p.throttlePoint ≤ 990
        ∧ 1 ≤ p.slowRatio ∧ p.slowRatio ≤ 8)
      ∧ part.slowRatio ≤ part.fast ∧ most.fast < most.slowRatio := by decide

theorem witness_SurgeStallAndDwellEnd :
    let holding := moving .holding 700 { closingMove with standing := .frozen }
    let dwelling := moving .dwell 950 { closingMove with direction := .openUp, starter := none }
    holding.actuated 1 = some part ∧ (holding.dyn 1).move = some { closingMove with standing := .frozen }
      ∧ (holding.dyn 1).motion = .holding ∧ part.maximumHold ≠ 0 ∧ closingMove.stallReported = false
      ∧ dwelling.actuated 1 = some part ∧ (dwelling.dyn 1).motion = .dwell
      ∧ (dwelling.dyn 1).move = some { closingMove with direction := .openUp, starter := none }
      ∧ (dwelling.control.get part.line).queue.length < 16 ∧ (holding.dyn 1).motion ≠ .dwell
      ∧ ¬((dwelling.dyn 1).motion = .holding ∧ part.maximumHold ≠ 0 ∧ closingMove.stallReported = false) := by decide

/-- RUN with a crew asked to close valve 2 for incident 1, under an action for an overdue crew. -/
def crewAsked (action : OverdueAction) : State :=
  { withIncident .closing with
    map := { smallMap with policy := { smallMap.policy with overdueAction := action } }
    drive := ⟨[(2, { blankDyn with position := some 0, motion := .crewClose, holders := [1], crewLeft := some 1 })], 0⟩ }

theorem witness_CrewOverdueReportsOrPlansAround :
    (∀ action ∈ [OverdueAction.report, .planAround], (crewAsked action).SlotsSound
        ∧ ((crewAsked action).dyn 2).crewLeft ≠ none ∧ (crewAsked action).map.policy.overdueAction = action)
      ∧ 1 ∈ ((crewAsked .planAround).dyn 2).holders := by decide

/-- A command for channel 1 of station 3. -/
def entry : QueueEntry := ⟨3, 1, .drive 800 5, 1, 0⟩

/-- RUN with an urgent queue and a consecutive-urgent count on line A. -/
def urgent (queue : List QueueEntry) (count due : Nat) : State :=
  onControl .a (fun c => { c with queue := queue, urgentCount := count, schedule := [⟨3, false, none, due, 2000⟩] }) running

theorem witness_ExchangeStartChooses :
    (∀ s ∈ [urgent [entry] 3 0, urgent [entry] 4 0, urgent [entry] 4 1, urgent [] 0 0, urgent [] 0 1],
        s.store.mode = .run ∧ (s.control.get .a).enabled = true ∧ (s.supply.get .a).state = .on
          ∧ (s.control.get .a).exchange = none)
      ∧ (∃ e ∈ ((urgent [entry] 3 0).control.get .a).schedule, e.due ≤ (urgent [entry] 3 0).elapsed)
      ∧ ¬(∃ e ∈ ((urgent [entry] 4 1).control.get .a).schedule, e.due ≤ (urgent [entry] 4 1).elapsed)
      ∧ ¬(∃ e ∈ ((urgent [] 0 1).control.get .a).schedule, e.due ≤ (urgent [] 0 1).elapsed)
      ∧ ((urgent [entry] 3 0).control.get .a).urgentCount < 4 ∧ 4 ≤ ((urgent [entry] 4 0).control.get .a).urgentCount
      ∧ ((urgent [] 0 0).control.get .a).queue = [] := by decide

theorem witness_ExchangesAndSuppliesRunTheirCourse :
    let sent := withExchange { asking .poll false none with sent := false } running
    let open_ := withExchange (asking .poll false (some 1)) running
    (sent.control.get .a).exchange = some { asking .poll false none with sent := false }
      ∧ Table.get sent.map.stations (Line.code .a * 256 + 3) = some ⟨.a, 40, 0, true⟩
      ∧ (open_.control.get .a).exchange = some (asking .poll false (some 1))
      ∧ (running.supply.get .a).state = .on ∧ (running.supply.get .a).overcurrent = false
      ∧ (running.supply.get .b).state ≠ .on ∧ (running.supply.get .a).timeOn ≠ none := by decide

/-- RUN with station 3 of a fault score and a state. -/
def scored (score : Nat) (state : StationState) : State :=
  { running with stations := [(3, { freshStation with score := score, state := state })] }

theorem witness_ErringExchangeIsCountedAndScored :
    let x := asking .poll false (some 1)
    (∀ s ∈ [scored 47 .online, scored 48 .online, scored 143 .degraded, scored 144 .degraded, scored 160 .offline],
        ((withExchange x s).control.get .a).exchange = some x ∧ (withExchange x s).store.mode = .run
          ∧ ∃ e ∈ ((withExchange x s).control.get .a).schedule, e.address = x.address ∧ e.probe = false)
      ∧ x.window ≠ none ∧ judgeReply 3 [⟨0xC3#8, false⟩] = .error .corrupt
      ∧ judgeReply 3 ((frameOf 0xC3#8 4 0x80#8 []).map fun b => ⟨b, true⟩) = .error .wrongAddress
      ∧ judgeReply 3 ((frameOf 0xC3#8 3 0x81#8 []).map fun b => ⟨b, true⟩) = .error .malformed
      ∧ (asking .poll true none).replyBegun = true ∧ (asking (.command entry) true none).kind = .command entry
      ∧ ((scored 160 .offline).station .a x.address).state = .offline
      ∧ ((scored 144 .degraded).station .a x.address).state ≠ .offline ∧ 160 ≤ min 160 (144 + 16) := by decide +kernel

/-- 10 R198: QUIESCING with the last exchange in flight on line A, and with another line's. -/
theorem witness_EndsQuiescing :
    let s := withExchange (asking .poll false (some 1)) { running with store := ⟨.quiescing, false, .blank⟩ }
    let both : State := { s with control := s.control.set .b { resetControl with exchange := some (asking .poll true none) } }
    (s.store.mode = .quiescing ∧ ∀ k, k ≠ .a → (s.control.get k).exchange = none)
      ∧ both.store.mode = .quiescing ∧ (both.control.get .b).exchange ≠ none
      ∧ (after (.responseWindowExpiry .a) s).store.mode = .config
      ∧ (after (.responseWindowExpiry .a) both).store.mode = .quiescing := by
  refine ⟨⟨rfl, fun k h => ?_⟩, by decide, by decide, by decide, by decide⟩
  cases k <;> first | exact absurd rfl h | rfl

/-- RUN with valve 1 closing, the last time of its station's poll known, and the station's record as given. -/
def losing (r : StationRec) (m : Move) : State :=
  { onControl .a (fun c => { c with errorLog := 255, schedule := [⟨3, r.state = .offline, some 0, 0, 2000⟩] })
      (moving .closingFast 300 m) with stations := [(3, r)] }

theorem witness_ErringExchangeLosesAStation :
    let s := losing { freshStation with score := 152, state := .degraded } closingMove
    s.SlotsSound ∧ Table.Wf s.map.valves ∧ s.Unlisted 1 ∧ s.ValvesSound
      ∧ (1, part) ∈ s.valvesOfLine .a ∧ s.reachable 1 = true ∧ (s.dyn 1).move = some closingMove
      ∧ closingMove.direction = .close ∧ closingMove.starter ≠ none ∧ 1 ∈ (s.dyn 1).holders
      ∧ 255 ≤ (s.control.get .a).errorLog ∧ (s.control.get .a).overflowReported = false := by decide

theorem witness_FailsUnreachable_without_a_move :
    let s := { running with
      engine := ⟨[(0, { incident 1 .armed with boundary := [1] })], 2, [], none, 0⟩ }
    (s.dyn 1).move = none ∧ (s.dyn 1).confirmed = false ∧ (1, part) ∈ s.valvesOfLine .a ∧ s.reachable 1 = true
      ∧ ∃ e ∈ s.engine.slots, e.2.state = .armed ∧ 1 ∈ e.2.boundary := by decide

/-- A STATION_STATE payload with channel 1 at a position and every other channel at rest at 0. -/
def stationState (position condition pressure : Nat) : List Byte :=
  be2 position ++ be1 condition ++ be2 0 ++ be1 0 ++ be2 0 ++ be1 0 ++ be2 0 ++ be1 0 ++ be2 pressure

theorem witness_GoodReplyIsTaken :
    let x := asking .poll true none
    let s := withExchange x running
    (s.control.get .a).exchange = some x ∧ x.replyBegun = true ∧ 1 ≤ x.address ∧ x.address ≤ 16
      ∧ (stationState 65535 7 65535).length = 14
      ∧ (∀ i ∈ [2, 5, 8, 11], ∀ b ∈ (stationState 65535 7 65535)[i]?, b.toNat ≤ 7) ∧ Table.Wf s.map.valves
      ∧ (s.station .a x.address).state ≠ .offline
      ∧ Table.get s.map.stations (Line.code .a * 256 + x.address) = some ⟨.a, 40, 0, true⟩
      ∧ s.valveOfChannel .a x.address 1 = some (1, part)
      ∧ s.valveOfChannel .a x.address 2 = none ∧ s.valveOfChannel .a x.address 4 = none := by decide

theorem witness_GoodReplyIsTaken_offline :
    let probed (run : Nat) := { freshStation with score := 160, state := .offline, probeRun := run }
    let s (run : Nat) := withExchange (asking .probe true none) { running with
      stations := [(3, probed run)]
      control := running.control.set .a { running.control.a with schedule := [⟨3, true, none, 0, 2000⟩] } }
    ((s 6).station .a 3).state = .offline ∧ ¬8 ≤ ((s 6).station .a 3).probeRun + 1
      ∧ 8 ≤ ((s 7).station .a 3).probeRun + 1 ∧ (s 7).store.mode = .run
      ∧ (⟨3, true, none, 0, 2000⟩ : PollEntry) ∈ ((s 7).control.get .a).schedule
      ∧ (∀ e ∈ (s 7).valvesOfLine .a, ((s 7).dyn e.1).move = none
          ∧ ((after (replyEnds .a (asking .probe true none) (stationState 0 0 0)) (s 7)).dyn e.1).move = none) := by
  decide +kernel

theorem witness_GoodReplyIsTaken_local_control :
    let s := withExchange (asking .poll true none) (losing { freshStation with score := 160, state := .degraded } closingMove)
    s.SlotsSound ∧ s.Unlisted 1 ∧ s.ValvesSound ∧ (s.station .a 3).state ≠ .offline
      ∧ (s.station .a 3).score ≤ 160 ∧ s.valveOfChannel .a 3 1 = some (1, part) ∧ s.reachable 1 = true
      ∧ ((readReply (stationState 300 4 0)).channels.get 1).localControl = true := by decide +kernel

/-- RUN with the end of a reply awaited, and valve 1 at a position in a motion state with a move. -/
def awaiting (motion : Motion) (position : Nat) (m : Move) : State :=
  withExchange (asking .poll true none) (moving motion position m)

/-- RUN with the end of a reply awaited, and valve 1 held and closed-confirmed by an ISOLATED incident, without a move. -/
def isolatedValve : State :=
  { withExchange (asking .poll true none) running with
    engine := ⟨[(0, { incident 1 .isolated with boundary := [1] })], 2, [], none, 0⟩
    drive := ⟨[(1, { blankDyn with position := some 1000, confirmed := true, holders := [1] })], 0⟩ }

/-- RUN with the end of a reply awaited, and valve 1 opening at a position for a restore that has let go of all. -/
def awaitingOpen (motion : Motion) (position : Nat) (m : Move) : State :=
  withExchange (asking .poll true none) (reopening motion position m)

/-- Valve 1 in every motion state that a good reply moves on. -/
def awaitingStates : List State :=
  [awaiting .closingFast 690 closingMove, awaiting .closingFast 690 driven, awaiting .closingSlow 990 spent,
    awaiting .holding 700 { driven with standing := .frozen }, awaiting .holding 700 { driven with tripNoted := true },
    awaiting .holding 995 { spent with tripNoted := true }, awaiting .closingSlow 995 closingMove,
    awaiting .backoff 980 { driven with phaseTarget := 970 }, awaitingOpen .charging 960 opener,
    awaitingOpen .backoff 980 { opener with phaseTarget := 970 }, awaitingOpen .opening 10 opener]

theorem witness_GoodReplyMovesTheValveOn :
    (∀ s ∈ awaitingStates, s.Answered .a (asking .poll true none) (stationState 0 0 0) 1 1 part)
      ∧ (∀ s ∈ awaitingStates, s.SlotsSound) ∧ (∀ s ∈ awaitingStates, s.StationsSound)
      ∧ (∀ s ∈ awaitingStates, s.Unlisted 1 ∧ s.ValvesSound ∧ Table.Wf s.map.valves
          ∧ s.reachable 1 = true ∧ s.guarded part = true ∧ (s.dyn 1).move.isSome = true) := by
  and_intros <;> decide +kernel

/-- 03 R81: the last opening move of a restore completes, and the slot is FREE. -/
theorem test_last_opening_move_ends_the_restore :
    let s := awaitingOpen .opening 10 opener
    let t := after (replyEnds .a (asking .poll true none) (stationState 5 0 0)) s
    (∀ e ∈ s.drive.valves, e.1 = 1) ∧ (s.dyn 1).holders = [] ∧ t.slot 0 = none ∧ (t.dyn 1).move = none := by
  decide +kernel

theorem witness_GoodReplyMovesTheValveOn_operands :
    closingMove.command = none ∧ driven.command = some ⟨.drive 800 5, 0, true⟩ ∧ driven.direction = .close
      ∧ driven.retriesUsed < part.torqueRetries ∧ ¬spent.retriesUsed < part.torqueRetries
      ∧ (readReply (stationState 995 0 640)).channels.get 1 = ⟨some 995, false, false, false⟩
      ∧ (readReply (stationState 994 3 600)).channels.get 1 = ⟨some 994, true, true, false⟩
      ∧ (readReply (stationState 994 0 601)).pressure = some 601 ∧ part.surgeCeiling < 601 ∧ ¬part.surgeCeiling < 600
      ∧ part.throttlePoint - 5 ≤ 795 ∧ 794 < part.throttlePoint - 5
      ∧ 500 ≤ part.surgeCeiling - part.surgeHysteresis ∧ ¬501 ≤ part.surgeCeiling - part.surgeHysteresis
      ∧ (955 ≤ 1000 - part.chargeOpening + 5 ∧ 1000 - part.chargeOpening ≤ 945 + 5) ∧ part.chargeDwell ≠ 0
      ∧ closingMove.since ≤ entry.serial ∧ entry.kind = .drive 800 5 := by decide +kernel

theorem witness_GoodReplySeesAValveOpened :
    isolatedValve.Answered .a (asking .poll true none) (stationState 994 4 0) 1 1 part ∧ isolatedValve.SlotsSound
      ∧ isolatedValve.StationsSound ∧ isolatedValve.Unlisted 1
      ∧ Table.Wf isolatedValve.map.valves ∧ isolatedValve.reachable 1 = true ∧ (isolatedValve.dyn 1).move = none
      ∧ (isolatedValve.dyn 1).confirmed = true ∧ (isolatedValve.dyn 1).holders ≠ [] ∧ isolatedValve.store.mode = .run
      ∧ (readReply (stationState 994 4 0)).channels.get 1 = ⟨some 994, false, false, true⟩
      ∧ (readReply (stationState 994 0 0)).channels.get 1 = ⟨some 994, false, false, false⟩ := by decide +kernel

/-- 04 R116: opened from its chamber, a held valve raises OFF_NORMAL and VALVE_FAILED. -/
theorem test_opened_in_local_control :
    (after (replyEnds .a (asking .poll true none) (stationState 994 4 0)) isolatedValve).reports.queue.map (·.kind)
      = [.localControl, .offNormal, .incidentState, .valveFailed] := by decide +kernel

/-- RUN with the end of a reply awaited, and valve 1 held, closed-confirmed and in local control, VALVE_FAILED raised for it or
not. -/
def chamberWorked (told : Bool) : State :=
  { onDyn 1 (fun d => { d with toldUnreachable := told }) isolatedValve with
    stations := [(3, { freshStation with localControl := ⟨true, false, false, false⟩ })] }

theorem witness_GoodReplyIsTaken_opened_in_local_control :
    ∀ told ∈ [false, true],
      let s := chamberWorked told
      s.SlotsSound ∧ s.valveOfChannel .a 3 1 = some (1, part) ∧ (s.station .a 3).localControl.get 1 = true
        ∧ ((readReply (stationState 994 4 0)).channels.get 1).localControl = true
        ∧ ((readReply (stationState 994 4 0)).channels.get 1).position = some 994 ∧ s.Unlisted 1
        ∧ (s.dyn 1).confirmed = true ∧ (s.dyn 1).move = none ∧ (s.dyn 1).holders ≠ []
        ∧ (s.dyn 1).toldUnreachable = told := by decide +kernel

/-- 04 R89, R116: a closing move at 995 or more is abandoned by the reply that shows the valve opened in local control:
VALVE_FAILED is raised once. -/
theorem test_one_failure_for_one_loss :
    let s := onDyn 1 (fun d => { d with confirmed := true }) (awaiting .closingSlow 996 driven)
    (after (replyEnds .a (asking .poll true none) (stationState 994 4 0)) s).reports.queue.map (·.kind)
      = [.localControl, .valveFailed, .offNormal] := by decide +kernel

/-- 06 R149: a STOP that waits for a channel leaves the queue when the channel goes into local control. -/
theorem test_local_control_withdraws_a_stop :
    let s := onControl .a (fun c => { c with queue := [{ entry with kind := .stop }, { entry with channel := 2 }] })
      (withExchange (asking .poll true none) running)
    (after (replyEnds .a (asking .poll true none) (stationState 300 4 0)) s).control.a.queue = [{ entry with channel := 2 }] := by
  decide +kernel

/-- 04 R94: with no dwell the opening DRIVE takes the place of the charge's DRIVE that waits, ahead of another channel's. -/
theorem test_opening_replaces_the_charge :
    let s := onControl .a (fun c => { c with queue := [entry, { entry with channel := 2 }] })
      (onMap (fun m => { m with valves := [(1, ⟨1, 2, .actuated { part with chargeDwell := 0 }, .normallyOpen, 5⟩)] })
        (awaiting .charging 960 { opener with command := some ⟨.drive 950 1, 0, false⟩ }))
    (after (replyEnds .a (asking .poll true none) (stationState 950 0 0)) s).control.a.queue.map (fun e => (e.channel, e.kind))
      = [(1, .drive 0 5), (2, .drive 800 5)] := by
  decide +kernel

/-- 01 R10: a line that PUT_LINE disables in CONFIG keeps its valves reachable until the next entry to RUN. -/
theorem test_disabled_line_stays_in_effect :
    let s := after (.putLine 0 0 1 20 15 4) configuring
    (s.map.lines.get .a).enabled = false ∧ s.reachable 1 = true := by decide

theorem witness_StationReplyIsJudgedByItsFirstDefect :
    3 < 256 ∧ 255 < 256 ∧ 255 ≠ 3 ∧ (stationState 1001 7 4001).length = 14 ∧ (be1 0).length ≤ 14 ∧ (be1 0).length ≠ 14
      ∧ (∀ i ∈ [2, 5, 8, 11], ∀ b ∈ (stationState 1001 7 4001)[i]?, b.toNat ≤ 7) ∧ 0x81#8 ≠ 0x80#8
      ∧ (∃ b, (stationState 0 8 0)[2]? = some b ∧ 7 < b.toNat) := by decide

/-- 05 R127: each test that a CORRUPT reply fails: a stop bit missing at the end, no marker, too short, a wrong length, a
wrong check word, and too long. -/
theorem witness_StationReplyIsJudgedByItsFirstDefect_corrupt :
    let sound := frameOf 0xC3#8 3 0x80#8 (stationState 0 0 0)
    (∃ c ∈ (sound.map fun b => (⟨b, true⟩ : Character)) ++ [⟨0#8, false⟩], c.stopBit = false)
      ∧ (frameOf 0xA5#8 3 0x80#8 []).head? ≠ some 0xC3#8 ∧ (sound.take 5).length < 6
      ∧ (∀ n, (sound.take 19)[3]? = some n → n.toNat + 6 ≠ (sound.take 19).length)
      ∧ (let wrong := sound.take 19 ++ [0#8]
        wrong.drop (wrong.length - 2) ≠ be2 (checkWord ((wrong.drop 1).take (wrong.length - 3))).toNat)
      ∧ 20 < (frameOf 0xC3#8 3 0x80#8 (List.replicate 15 0#8)).length := by
  refine ⟨by decide +kernel, by decide +kernel, by decide +kernel, fun n h => ?_, by decide +kernel, by decide +kernel⟩
  have : n = 14#8 := by revert h; revert n; decide +kernel
  subst this; decide +kernel

/-- RUN with the supply of line A as given. -/
def supplied (u : Supply) : State := { running with supply := running.supply.set .a u }

/-- A supply in overcurrent, and one that is TRIPPED. -/
def shorted (trips : Nat) (timeOn : Option Nat) : Supply :=
  { resetSupply with state := .on, timeOn := timeOn, tripCount := trips, overcurrent := true, overTime := 20 }
def trippedSupply : Supply := { resetSupply with state := .tripped, tripCount := 1, retryLeft := some 1 }

theorem witness_SupplyTripsOrLocksOff :
    (∀ u ∈ [shorted 2 (some 29999), shorted 3 (some 29999), shorted 3 (some 30000), shorted 15 none],
        ((supplied u).supply.get .a).state = .on ∧ ((supplied u).supply.get .a).overcurrent = true)
      ∧ ((supplied (shorted 3 none)).map.lines.get .a).tripLimit = 4
      ∧ (let s := { moving .closingFast 300 closingMove with supply := (supplied (shorted 3 none)).supply }
        s.SlotsSound ∧ Table.Wf s.map.valves ∧ s.Unlisted 1 ∧ s.ValvesSound
          ∧ (1, part) ∈ s.valvesOfLine .a ∧ s.reachable 1 = true ∧ (s.dyn 1).move = some closingMove) := by decide

theorem witness_SupplyIsSwitchedOnAgain :
    (supplied trippedSupply).store.mode = .run ∧ ((supplied trippedSupply).supply.get .a).state = .tripped
      ∧ ((supplied trippedSupply).supply.get .a).retryLeft ≠ none
      ∧ (running.map.lines.get .b).enabled = false ∧ (running.map.lines.get .a).enabled = true
      ∧ (running.supply.get .a).state = .on
      ∧ ((supplied { trippedSupply with state := .lockedOff }).supply.get .a).state = .lockedOff
      ∧ ((supplied resetSupply).supply.get .a).state = .off := by decide

theorem witness_ResetLineStartsTheLineAnew :
    running.store.mode = .run ∧ (running.map.lines.get .a).enabled = true ∧ (running.map.lines.get .d).enabled = false
      ∧ Table.Wf running.map.valves ∧ Table.has running.map.stations (Line.code .a * 256 + part.address) = true
      ∧ ((moving .closingFast 300 closingMove).dyn 1).move = some closingMove
      ∧ (moving .closingFast 300 closingMove).Unlisted 1
      ∧ Table.get running.stations (Line.code .a * 256 + 3) = some freshStation ∧ lineOfKey 258 ≠ some .a
      ∧ (1, part) ∈ running.valvesOfLine .a := by decide

/-- A state with input 1 at a level, with a debounced level and a running timer, and its settings. -/
def input (x : AlarmInput) (settings : AlarmSettings) (s : State) : State :=
  { s with alarms := s.alarms.set 0 x, map := { s.map with alarms := s.map.alarms.set 0 settings } }

theorem witness_AlarmsAreDebouncedAndJudged :
    let rises : AlarmInput := ⟨.high, some .low, some 1, false, false⟩
    let falls : AlarmInput := ⟨.low, some .high, some 1, false, false⟩
    let was (s : State) := decide (s.alarms[0].debounced = some s.map.alarms[0].active ∧ s.map.alarms[0].segment ≠ 0)
    let now (s : State) := decide (s.alarms[0].level = s.map.alarms[0].active ∧ s.map.alarms[0].segment ≠ 0)
    let reported := input rises ⟨2, .high, 20, .reportOnly⟩ running
    let declaring (segment : Nat) (s : State) := input rises ⟨segment, .high, 20, .declare⟩ s
    (∀ s ∈ [reported, declaring 2 running, declaring 2 configuring, declaring 3 full, declaring 1 full, declaring 0 running,
        input falls ⟨2, .high, 20, .declare⟩ running],
        s.alarms[0].timer ≠ none ∧ s.alarms[0].debounced ≠ some s.alarms[0].level)
      ∧ Level.low ≠ rises.level ∧ was (declaring 0 running) = now (declaring 0 running)
      ∧ was (input falls ⟨2, .high, 20, .declare⟩ running) = true
      ∧ now (input falls ⟨2, .high, 20, .declare⟩ running) = false
      ∧ (∀ s ∈ [reported, declaring 2 running, declaring 2 configuring, declaring 3 full, declaring 1 full],
          was s = false ∧ now s = true)
      ∧ (declaring 2 configuring).store.mode ≠ .run ∧ (declaring 2 running).store.mode = .run
      ∧ (declaring 3 full).RegionsDisjoint ∧ incident 1 .closing ∈ (declaring 3 full).activeIncidents
      ∧ 3 ∈ (incident 1 .closing).region
      ∧ (∀ inc ∈ (declaring 1 full).activeIncidents, 1 ∉ inc.region) ∧ (∀ k ≤ 3, (declaring 1 full).slot k ≠ none)
      ∧ (∀ inc ∈ (declaring 2 running).activeIncidents, 2 ∉ inc.region) ∧ (declaring 2 running).slot 0 = none
      ∧ (∀ j < 0, (declaring 2 running).slot j ≠ none) := by decide

/-- A report that waits. -/
def report : Report := ⟨.saveDone, 0, .part, 0, []⟩

/-- RUN with reports waiting and SAVE_DONE masked or not, with a masked count. -/
def reporting (waiting : Nat) (masked : Bool) (count : Nat) : State :=
  { running with reports :=
      { (running.reports.setKind .saveDone ⟨masked, count, true⟩) with queue := List.replicate waiting report } }

theorem witness_RaisedReportsAreMaskedLostOrQueued :
    ((reporting 32 true 255).reports.kind .saveDone).masked = true
      ∧ ((reporting 32 false 0).reports.kind .saveDone).masked = false ∧ 32 ≤ (reporting 32 false 0).reports.queue.length
      ∧ ((reporting 31 false 0).reports.kind .saveDone).masked = false
      ∧ (reporting 31 false 0).reports.queue.length < 32 := by decide +kernel

theorem witness_FetchReturnsTheOldest :
    (reporting 1 false 0).reports.queue = report :: [] ∧ running.reports.queue = [] ∧ 1 ≤ running.reports.watermark := by
  decide

theorem witness_SetMaskCountsAndSums :
    ReportKind.saveDone ≠ .maskedSummary ∧ (0 = 0 ∨ 23 < 0) ∧ (24 = 0 ∨ 23 < 24) ∧ 1 < 2
      ∧ ((reporting 0 false 0).reports.kind .saveDone).masked = false
      ∧ ((reporting 0 true 0).reports.kind .saveDone).masked = true
      ∧ ((reporting 0 true 0).reports.kind .saveDone).maskedCount = 0
      ∧ ((reporting 31 true 255).reports.kind .saveDone).maskedCount ≠ 0
      ∧ ((reporting 31 true 255).reports.kind .maskedSummary).masked = false
      ∧ (reporting 31 true 255).reports.queue.length < 32 ∧ 32 ≤ (reporting 32 true 1).reports.queue.length := by decide

theorem witness_SetRouteMovesAKind :
    (0 = 0 ∨ 23 < 0) ∧ (24 = 0 ∨ 23 < 24) ∧ 1 < 2 ∧ 1 ≤ 1 ∧ ReportKind.incidentState ≠ .maskedSummary := by decide

theorem witness_WatermarkAndTimeAreSet :
    (0 = 0 ∨ 32 < 0) ∧ (33 = 0 ∨ 32 < 33) ∧ 1 ≤ 1 ∧ 32 ≤ 32 ∧ 4294967295 ≤ 4294967295 := by decide

/-- RUN with the receiver in a state, with characters of a frame. -/
def hearing (receiver : Receiver) (characters : Nat) : State :=
  { running with link := { running.link with receiver := receiver, frame := List.replicate characters 0#8 } }

theorem witness_HostCharactersFillTheFrame :
    (hearing .idle 0).link.receiver = .idle ∧ (hearing .receiving 245).link.receiver = .receiving
      ∧ (hearing .receiving 245).link.frame.length < 246 ∧ 246 ≤ (hearing .receiving 246).link.frame.length
      ∧ (hearing .discarding 0).link.receiver = .discarding
      ∧ (hearing (.replying false false) 0).link.receiver = .replying false false
      ∧ (hearing (.replying false false) 0).link.resetPending = false
      ∧ (hearing (.replying true false) 0).link.receiver = .replying true false
      ∧ (let s := onLink (fun k => { k with resetPending := true }) (hearing (.replying false true) 0)
        s.link.receiver = .replying false true ∧ s.link.resetPending = true) := by decide +kernel

/-- RUN with a frame received at an address. -/
def framed (address : Option Nat) (frame : List Byte) : State :=
  { running with link := { running.link with receiver := .receiving, frame := frame, address := address } }

theorem witness_RequestFramesDoWhatTheirCommandsDo :
    let i : Instr := .putSegment 511 65535 1 1
    requestKind i = some 0x01#8 ∧ i.wellFormed = true ∧ isBroadcast i = false ∧ 0x01#8 ≠ 0x36#8 ∧ 0x01#8 ≠ 0x50#8
      ∧ requestKind (.release true 15) = some 0x36#8 ∧ (Instr.release true 15).wellFormed = true
      ∧ isBroadcast (.release true 15) = true
      ∧ (framed (some 62) (requestFrameTo 62 0x01#8 i)).link.frame = requestFrameTo 62 0x01#8 i
      ∧ (framed (some 62) (requestFrameTo 62 0x01#8 i)).link.address = some 62
      ∧ (framed none (requestFrameTo 1 0x01#8 i)).link.address ≠ some 1
      ∧ (framed none (requestFrameTo 0 0x36#8 (.release true 15))).link.frame
          = requestFrameTo 0 0x36#8 (.release true 15)
      ∧ (framed (some 62) (frameOf 0xA5#8 62 0x01#8 [])).link.frame = frameOf 0xA5#8 62 0x01#8 []
      ∧ ([] : List Byte).length ≠ (requestPayload i).length ∧ (List.replicate 240 0#8).length ≤ 240
      ∧ (framed (some 62) (frameOf 0xA5#8 255 0x7F#8 [0#8])).link.address ≠ some 255
      ∧ (framed (some 62) (frameOf 0xA5#8 0 0x7F#8 [0#8])).link.frame = frameOf 0xA5#8 0 0x7F#8 [0#8]
      ∧ (framed none [0xC3#8]).link.frame.head? ≠ some 0xA5#8 ∧ (hearing .discarding 0).link.receiver = .discarding
      ∧ (hearing .idle 0).link.receiver = .idle
      ∧ (hearing (.replying true false) 0).link.receiver = .replying true false := by decide +kernel

theorem witness_RequestFramesDoWhatTheirCommandsDo_unknownKind : ∀ i, requestKind i ≠ some 0x7F#8 := by
  intro i; cases i <;> simp [requestKind]

theorem witness_StepsKeepReportsStationsAndLinesSound :
    (∃ t, step { full with pending := [.fetch] } = .next t) ∧ full.reports.Sound ∧ full.StationsSound ∧ full.LinesSound :=
  ⟨⟨_, rfl⟩, by decide, by decide, by decide⟩

theorem witness_StepsKeepTablesCanonical :
    (∃ t, step { full with pending := [.fetch] } = .next t) ∧ full.MapsSound ∧ full.ValvesSound ∧ full.FrameFits :=
  ⟨⟨_, rfl⟩, by decide, by decide, by decide⟩

theorem witness_StepsKeepSlotsAndPlannerSound :
    (∃ t, step { touching with pending := [.planComplete] } = .next t) ∧ touching.SlotsSound ∧ touching.PlannerSound
      ∧ touching.IdleOutsideRun :=
  ⟨⟨_, rfl⟩, by decide, by decide, by decide⟩

theorem witness_StepsKeepRegionsDisjoint :
    (∃ t, step { touching with pending := [.planComplete] } = .next t) ∧ touching.SlotsSound ∧ touching.RegionsDisjoint :=
  ⟨⟨_, rfl⟩, by decide, by decide⟩

theorem witness_StepsKeepTheConsentQueue :
    (∃ t, step { withIncident .awaitConsent with pending := [.consentTimeout] } = .next t)
      ∧ (withIncident .awaitConsent).SlotsSound ∧ (withIncident .awaitConsent).ConsentSound :=
  ⟨⟨_, rfl⟩, by decide, by decide⟩

theorem witness_StepsKeepHoldersToIncidents :
    (∃ t, step { moving .closingFast 300 closingMove with pending := [.restore 1] } = .next t)
      ∧ (moving .closingFast 300 closingMove).SlotsSound ∧ (moving .closingFast 300 closingMove).ValvesSound
      ∧ (moving .closingFast 300 closingMove).HoldersSound :=
  ⟨⟨_, rfl⟩, by decide, by decide, by decide⟩

end Sys2Proof.Tests
end

section
/-! PROOFS. The reports and the attention lines (08): what a raised report, FETCH, SET_MASK and SET_ROUTE do. -/

namespace Sys2Proof.Machine

open Sys2Proof

/-! ### Gates of the requests taken in every mode -/

/-- 01 R13: of two fields the first bad one is named. -/
theorem gated_anyMode_pair (a b : Bool) (act : State → Answer) (s : State) :
    gated anyMode [a, b] act s =
      if a = false then badField 1 s else if b = false then badField 2 s else act s := by
  cases a <;> cases b <;> rfl

theorem inRange_eq_false_iff (low high n : Nat) : inRange low high n = false ↔ n < low ∨ high < n := by
  simp only [inRange, Bool.and_eq_false_iff, decide_eq_false_iff_not, not_le]

theorem inRange_code (k : ReportKind) : inRange 1 23 k.code = true := by simp [inRange, code_range k]

/-- 08 R174: MASKED_SUMMARY is the one kind that SET_MASK does not take. -/
theorem inRange_code_maskable (k : ReportKind) : inRange 1 22 k.code = decide (k ≠ .maskedSummary) := by
  cases k <;> decide

theorem isFlag_eq_true {n : Nat} (h : n ≤ 1) : isFlag n = true := decide_eq_true h

theorem isFlag_eq_false {n : Nat} (h : 1 < n) : isFlag n = false := decide_eq_false (by omega)

/-! ### The report unit -/

@[simp] theorem kind_setKind_same (u : ReportUnit) (k : ReportKind) (x : KindSetting) : (u.setKind k x).kind k = x := by
  simp [kind_setKind]

theorem kind_setKind_ne {u : ReportUnit} {k j : ReportKind} {x : KindSetting} (h : j ≠ k) :
    (u.setKind k x).kind j = u.kind j := by
  simp [kind_setKind, h]

/-- Setting a kind twice leaves the second setting. -/
@[simp] theorem setKind_setKind (u : ReportUnit) (k : ReportKind) (x y : KindSetting) :
    (u.setKind k x).setKind k y = u.setKind k y := by
  simp [ReportUnit.setKind]

/-- 08 R177: both attention lines as conditions on the queue. -/
theorem derive_eq (u : ReportUnit) :
    u.derive = { u with
      attention0 := decide ((∃ r ∈ u.queue, (u.kind r.kind).onLine1 = false) ∨ u.watermark ≤ u.queue.length)
      attention1 := decide ((∃ r ∈ u.queue, (u.kind r.kind).onLine1 = true) ∨ u.watermark ≤ u.queue.length) } := by
  rw [ReportUnit.derive, attention_eq, attention_eq]

/-- 08 R177: when the lines are asserted after they are derived. -/
theorem derive_attention (u : ReportUnit) :
    (u.derive.attention0 = true ↔ (∃ r ∈ u.queue, (u.kind r.kind).onLine1 = false) ∨ u.watermark ≤ u.queue.length)
      ∧ (u.derive.attention1 = true ↔
        (∃ r ∈ u.queue, (u.kind r.kind).onLine1 = true) ∨ u.watermark ≤ u.queue.length) := by
  rw [derive_eq]
  exact ⟨decide_eq_true_iff, decide_eq_true_iff⟩

/-- 08 R177: a line depends on the queue, the watermark and the routes only. -/
theorem attention_congr {u v : ReportUnit} (hqueue : u.queue = v.queue) (hmark : u.watermark = v.watermark)
    (hroutes : ∀ j, (u.kind j).onLine1 = (v.kind j).onLine1) (line1 : Bool) : u.attention line1 = v.attention line1 := by
  simp only [ReportUnit.attention, hqueue, hmark, hroutes]

/-! #### The three cases of R171, each under its condition -/

theorem raise_of_masked {u : ReportUnit} {r : Report} (h : (u.kind r.kind).masked = true) :
    u.raise r = u.setKind r.kind { u.kind r.kind with maskedCount := saturate 255 (u.kind r.kind).maskedCount } := by
  simpa [h] using raise_cases u r

theorem raise_of_full {u : ReportUnit} {r : Report} (h : (u.kind r.kind).masked = false) (hfull : 32 ≤ u.queue.length) :
    u.raise r = { u with lost := saturate 255 u.lost } := by
  simpa [h, hfull, Nat.not_lt.2 hfull] using raise_cases u r

/-- The unit with a record at the tail of the queue. -/
def ReportUnit.joined (u : ReportUnit) (r : Report) : ReportUnit := { u with queue := u.queue ++ [r] }

@[simp] theorem joined_fields (u : ReportUnit) (r : Report) :
    (u.joined r).queue = u.queue ++ [r] ∧ (u.joined r).lost = u.lost ∧ (u.joined r).watermark = u.watermark
      ∧ ∀ j, (u.joined r).kind j = u.kind j :=
  ⟨rfl, rfl, rfl, fun _ => rfl⟩

theorem raise_of_room {u : ReportUnit} {r : Report} (h : (u.kind r.kind).masked = false) (hroom : u.queue.length < 32) :
    u.raise r = (u.joined r).derive := by
  simpa [h, hroom, ReportUnit.joined, Nat.not_le.2 hroom] using raise_cases u r

/-- 08 R171: raising a report touches the settings of its own kind only. -/
theorem kind_raise_ne (u : ReportUnit) {r : Report} {j : ReportKind} (h : j ≠ r.kind) :
    (u.raise r).kind j = u.kind j := by
  obtain ⟨-, e⟩ | ⟨-, -, e⟩ | ⟨-, -, e⟩ := raise_cases u r
  · rw [e, kind_setKind_ne h]
  · rw [e]; rfl
  · rw [e]; rfl

/-- A setting that keeps its kind's route keeps every route. -/
theorem onLine1_setKind {u : ReportUnit} {k : ReportKind} {x : KindSetting} (h : x.onLine1 = (u.kind k).onLine1)
    (j : ReportKind) : ((u.setKind k x).kind j).onLine1 = (u.kind j).onLine1 := by
  rw [kind_setKind]
  split
  · next hj => rw [hj, h]
  · rfl

/-- 08 R171: raising a report keeps every route. -/
@[simp] theorem onLine1_raise (u : ReportUnit) (r : Report) (j : ReportKind) :
    ((u.raise r).kind j).onLine1 = (u.kind j).onLine1 := by
  obtain ⟨-, e⟩ | ⟨-, -, e⟩ | ⟨-, -, e⟩ := raise_cases u r
  · rw [e]; exact onLine1_setKind (by rfl) j
  · rw [e]; rfl
  · rw [e]; rfl

/-- Settles O47, by the three cases of R171. -/
theorem raisedReportsAreMaskedLostOrQueued : Obligations.RaisedReportsAreMaskedLostOrQueued := by
  intro s kind subject detail values u record after
  have hafter : after = u.raise record := rfl
  refine ⟨rfl, fun hmasked => ?_, fun hmasked hfull => ?_, fun hmasked hroom => ?_⟩
  · rw [hafter, raise_of_masked (r := record) hmasked]
    exact ⟨rfl, rfl, kind_setKind_same _ _ _, fun k hk => kind_setKind_ne hk, rfl⟩
  · rw [hafter, raise_of_full (r := record) hmasked hfull]; rfl
  · rw [hafter, raise_of_room (r := record) hmasked hroom, derive_eq]
    simp only [joined_fields, List.length_append, List.length_singleton]
    rfl

/-! ### FETCH (08 R179) -/

theorem exec_fetch (s : State) :
    exec .fetch s = .next (answered 0x40#8 ⟨{ s with reports := s.reports.fetch }, .done, s.reports.fetched⟩) := rfl

theorem fetched_of_nil {u : ReportUnit} (h : u.queue = []) : u.fetched = be1 0 ++ be1 0 ++ be1 u.lost := by
  rw [ReportUnit.fetched, h]; rfl

theorem fetched_of_cons {u : ReportUnit} {r : Report} {rest : List Report} (h : u.queue = r :: rest) :
    u.fetched = be1 1 ++ be1 rest.length ++ be1 u.lost ++ r.bytes := by
  rw [ReportUnit.fetched, h]; rfl

/-- 08 R179, R177: the oldest record is removed, the lost count is 0 and the lines are derived from what remains. -/
theorem fetch_eq (u : ReportUnit) :
    u.fetch = { u with
      queue := u.queue.tail, lost := 0
      attention0 := decide ((∃ r ∈ u.queue.tail, (u.kind r.kind).onLine1 = false) ∨ u.watermark ≤ u.queue.tail.length)
      attention1 := decide ((∃ r ∈ u.queue.tail, (u.kind r.kind).onLine1 = true) ∨ u.watermark ≤ u.queue.tail.length) } := by
  rw [ReportUnit.fetch, derive_eq, List.drop_one]; rfl

/-- Settles O48, by whether a record waits. -/
theorem fetchReturnsTheOldest : Obligations.FetchReturnsTheOldest := by
  intro s u
  constructor
  · intro r rest hq subject record
    have hsubject : r.subject.bytes = subject := by cases r with | mk _ _ x => cases x <;> rfl
    have hrecord : r.bytes = record := by
      refine congrArg₂ (· ++ ·) ?_ (congrArg (r.values.flatMap ·) (funext fun x => ?_))
      · rw [hsubject]
      · cases x <;> rfl
    rw [Answers, exec_fetch, fetched_of_cons hq, fetch_eq, hq, hrecord]
    rfl
  · intro hq hmark
    have hbelow : ¬ u.watermark ≤ 0 := by omega
    rw [Answers, exec_fetch, fetched_of_nil hq, fetch_eq, hq]
    simp [u, hbelow]

/-! ### SET_MASK (08 R174, R175) -/

theorem exec_setMask (kind setting : Nat) (s : State) :
    exec (.setMask kind setting) s = .next (answered 0x41#8 (setMask kind setting s)) := rfl

/-- 08 R174: MASKED_SUMMARY and a kind outside the 23 are refused. -/
theorem setMask_bad_kind {kind : Nat} (setting : Nat) (s : State) (h : inRange 1 22 kind = false) :
    Answers (.setMask kind setting) s 0x41#8 .badField [1#8, 0#8, 0#8, 0#8] s := by
  rw [Answers, exec_setMask, setMask, gated_anyMode_pair, if_pos h]
  rfl

theorem setMask_bad_setting {k : ReportKind} {setting : Nat} (s : State) (hk : k ≠ .maskedSummary) (h : 1 < setting) :
    Answers (.setMask k.code setting) s 0x41#8 .badField [2#8, 0#8, 0#8, 0#8] s := by
  have hkind : inRange 1 22 k.code ≠ false := by simp [inRange_code_maskable, hk]
  rw [Answers, exec_setMask, setMask, gated_anyMode_pair, if_neg hkind, if_pos (isFlag_eq_false h)]
  rfl

/-- 08 R174: a good request answers the masked count as it stood. -/
theorem setMask_done {k : ReportKind} {setting : Nat} {s t : State} (hk : k ≠ .maskedSummary) (h : setting ≤ 1)
    (ht : applyMask k setting s = t) :
    Answers (.setMask k.code setting) s 0x41#8 .done (be1 (s.reports.kind k).maskedCount) t := by
  have hkind : inRange 1 22 k.code ≠ false := by simp [inRange_code_maskable, hk]
  have hsetting : isFlag setting ≠ false := by simp [isFlag_eq_true h]
  rw [Answers, exec_setMask, setMask, gated_anyMode_pair, if_neg hkind, if_neg hsetting, kindOfCode_code, ← ht]

/-- 08 R175: the record that sums up what was withheld of a kind. -/
def ReportUnit.summary (u : ReportUnit) (k : ReportKind) : Report :=
  ⟨.maskedSummary, u.timeBase, .part, 0, [some k.code, some (u.kind k).maskedCount]⟩

/-- The unit with a kind's mask cleared. -/
def ReportUnit.cleared (u : ReportUnit) (k : ReportKind) : ReportUnit := u.setKind k { u.kind k with masked := false }

theorem kind_cleared_ne {u : ReportUnit} {k j : ReportKind} (h : j ≠ k) : (u.cleared k).kind j = u.kind j :=
  kind_setKind_ne h

@[simp] theorem onLine1_cleared (u : ReportUnit) (k j : ReportKind) :
    ((u.cleared k).kind j).onLine1 = (u.kind j).onLine1 :=
  onLine1_setKind (by rfl) j

/-- Unmasking a kind other than MASKED_SUMMARY leaves the summary's own mask. -/
theorem masked_cleared_summary {u : ReportUnit} {k : ReportKind} (hk : k ≠ .maskedSummary)
    (h : (u.kind .maskedSummary).masked = false) : ((u.cleared k).kind (u.summary k).kind).masked = false := by
  rwa [kind_cleared_ne (j := (u.summary k).kind) hk.symm]

/-- 08 R175: with nothing withheld, only the mask is cleared. -/
theorem unmaskKind_of_count_zero {k : ReportKind} {s : State} (h : (s.reports.kind k).maskedCount = 0) :
    unmaskKind k s = { s with reports := s.reports.cleared k } := by
  simp [unmaskKind, onKind, ReportUnit.cleared, h]

/-- The unit after a kind of which records were withheld is unmasked: the summary is raised, then the count is 0. -/
def ReportUnit.summed (u : ReportUnit) (k : ReportKind) : ReportUnit :=
  let v := (u.cleared k).raise (u.summary k)
  v.setKind k { v.kind k with maskedCount := 0 }

/-- 08 R175: with records withheld, they are summed up before the count becomes 0. -/
theorem unmaskKind_of_count {k : ReportKind} {s : State} (h : (s.reports.kind k).maskedCount ≠ 0) :
    unmaskKind k s = { s with reports := s.reports.summed k } := by
  simp only [unmaskKind, if_neg h]
  rfl

theorem applyMask_masked (k : ReportKind) (s : State) :
    applyMask k 1 s = { s with reports := s.reports.setKind k { s.reports.kind k with masked := true } } := rfl

theorem applyMask_of_unmasked {k : ReportKind} {s : State} (h : (s.reports.kind k).masked = false) :
    applyMask k 0 s = s := by
  simp [applyMask, h]

theorem applyMask_of_masked {k : ReportKind} {s : State} (h : (s.reports.kind k).masked = true) :
    applyMask k 0 s = unmaskKind k s := by
  simp [applyMask, h]

/-! #### The summing up of what was withheld -/

theorem kind_summed_same (u : ReportUnit) {k : ReportKind} (hk : k ≠ .maskedSummary) :
    (u.summed k).kind k = { u.kind k with masked := false, maskedCount := 0 } := by
  have hkind : ((u.cleared k).raise (u.summary k)).kind k = { u.kind k with masked := false } := by
    rw [kind_raise_ne _ hk, ReportUnit.cleared, kind_setKind_same]
  rw [ReportUnit.summed, kind_setKind_same, hkind]

theorem kind_summed_ne (u : ReportUnit) {k j : ReportKind} (hk : j ≠ k) (hj : j ≠ .maskedSummary) :
    (u.summed k).kind j = u.kind j := by
  rw [ReportUnit.summed, kind_setKind_ne hk, kind_raise_ne _ hj, kind_cleared_ne hk]

@[simp] theorem onLine1_summed (u : ReportUnit) (k j : ReportKind) :
    ((u.summed k).kind j).onLine1 = (u.kind j).onLine1 := by
  rw [ReportUnit.summed, onLine1_setKind (by rfl), onLine1_raise, onLine1_cleared]

/-- 08 R175, R171: with room in the queue the summary joins its tail, and the lines are derived. -/
theorem summed_of_room {u : ReportUnit} {k : ReportKind} (hk : k ≠ .maskedSummary)
    (h : (u.kind .maskedSummary).masked = false) (hroom : u.queue.length < 32) :
    (u.summed k).queue = u.queue ++ [u.summary k] ∧ (u.summed k).lost = u.lost
      ∧ (u.summed k).attention0 = (u.joined (u.summary k)).attention false
      ∧ (u.summed k).attention1 = (u.joined (u.summary k)).attention true := by
  rw [ReportUnit.summed, raise_of_room (masked_cleared_summary hk h) hroom]
  have hlines (line1 : Bool) : ((u.cleared k).joined (u.summary k)).attention line1 =
      (u.joined (u.summary k)).attention line1 := by
    refine attention_congr ?_ ?_ (fun j => ?_) line1
    · rfl
    · rfl
    · exact onLine1_cleared u k j
  exact ⟨rfl, rfl, hlines false, hlines true⟩

/-- 08 R175, R171: with the queue full the summary is lost and counted. -/
theorem summed_of_full {u : ReportUnit} {k : ReportKind} (hk : k ≠ .maskedSummary)
    (h : (u.kind .maskedSummary).masked = false) (hfull : 32 ≤ u.queue.length) :
    (u.summed k).queue = u.queue ∧ (u.summed k).lost = saturate 255 u.lost := by
  rw [ReportUnit.summed, raise_of_full (masked_cleared_summary hk h) hfull]
  exact ⟨rfl, rfl⟩

/-- 08 R174, R175: SET_MASK keeps every route. -/
theorem onLine1_applyMask {k : ReportKind} {setting : Nat} (s : State) (hs : setting ≤ 1) (j : ReportKind) :
    ((applyMask k setting s).reports.kind j).onLine1 = (s.reports.kind j).onLine1 := by
  obtain rfl | rfl : setting = 1 ∨ setting = 0 := by omega
  · rw [applyMask_masked, onLine1_setKind (by rfl)]
  · cases hmasked : (s.reports.kind k).masked with
    | false => rw [applyMask_of_unmasked hmasked]
    | true =>
      rw [applyMask_of_masked hmasked]
      by_cases hcount : (s.reports.kind k).maskedCount = 0
      · rw [unmaskKind_of_count_zero hcount, onLine1_cleared]
      · rw [unmaskKind_of_count hcount, onLine1_summed]

/-- Settles O49: the refusals, then the settings, the summary being taken by R171. -/
theorem setMaskCountsAndSums : Obligations.SetMaskCountsAndSums := by
  intro s k u x
  refine ⟨fun hk setting => ?_, fun kind setting hkind => ?_,
    fun hk => ⟨fun setting hs => ?_, ?_, fun hm => ?_, fun hm hc => ?_, fun hm hc => ?_⟩⟩
  · exact setMask_bad_kind setting s (by simp [inRange_code_maskable, hk])
  · exact setMask_bad_kind setting s (by rw [inRange_eq_false_iff]; omega)
  · exact setMask_bad_setting s hk hs
  · exact setMask_done hk le_rfl (applyMask_masked k s)
  · exact setMask_done hk zero_le_one (applyMask_of_unmasked hm)
  · have hdata : be1 x.maskedCount = [0#8] := congrArg be1 hc
    rw [← hdata]
    exact setMask_done hk zero_le_one ((applyMask_of_masked hm).trans (unmaskKind_of_count_zero hc))
  · refine ⟨{ s with reports := u.summed k }, ?_, rfl, kind_summed_same u hk, fun j hj hs => kind_summed_ne u hj hs,
      fun hsum hroom => ?_, fun hsum hfull => summed_of_full hk hsum hfull⟩
    · exact setMask_done hk zero_le_one ((applyMask_of_masked hm).trans (unmaskKind_of_count hc))
    · obtain ⟨hqueue, hlost, h0, h1⟩ := summed_of_room hk hsum hroom
      rw [attention_eq] at h0 h1
      exact ⟨hqueue, hlost, by rw [h0, hqueue]; rfl, by rw [h1, hqueue]; rfl⟩

/-! ### SET_ROUTE (08 R176) -/

theorem exec_setRoute (kind line : Nat) (s : State) :
    exec (.setRoute kind line) s = .next (answered 0x42#8 (setRoute kind line s)) := rfl

theorem setRoute_bad_kind {kind : Nat} (line : Nat) (s : State) (h : inRange 1 23 kind = false) :
    Answers (.setRoute kind line) s 0x42#8 .badField [1#8, 0#8, 0#8, 0#8] s := by
  rw [Answers, exec_setRoute, setRoute, gated_anyMode_pair, if_pos h]
  rfl

theorem setRoute_bad_line (k : ReportKind) {line : Nat} (s : State) (h : 1 < line) :
    Answers (.setRoute k.code line) s 0x42#8 .badField [2#8, 0#8, 0#8, 0#8] s := by
  have hkind : inRange 1 23 k.code ≠ false := by simp [inRange_code]
  rw [Answers, exec_setRoute, setRoute, gated_anyMode_pair, if_neg hkind, if_pos (isFlag_eq_false h)]
  rfl

/-- The unit with a kind's route set. -/
def ReportUnit.routed (u : ReportUnit) (k : ReportKind) (line1 : Bool) : ReportUnit :=
  u.setKind k { u.kind k with onLine1 := line1 }

/-- 08 R176, R177: the route is set and the lines are derived from the routes as they now stand. -/
theorem setRoute_done (k : ReportKind) {line : Nat} (s : State) (h : line ≤ 1) :
    Answers (.setRoute k.code line) s 0x42#8 .done []
      { s with reports := (s.reports.routed k (decide (line = 1))).derive } := by
  have hkind : inRange 1 23 k.code ≠ false := by simp [inRange_code]
  have hline : isFlag line ≠ false := by simp [isFlag_eq_true h]
  rw [Answers, exec_setRoute, setRoute, gated_anyMode_pair, if_neg hkind, if_neg hline, kindOfCode_code]
  rfl

/-- Settles O50: the refusals, that SET_MASK keeps the routes, and the new route with the lines derived from it. -/
theorem setRouteMovesAKind : Obligations.SetRouteMovesAKind := by
  intro s
  refine ⟨fun kind line hkind => ?_, fun k line hl => setRoute_bad_line k s hl, fun k setting hk hs => ?_,
    fun k line hl => ?_⟩
  · exact setRoute_bad_kind line s (by rw [inRange_eq_false_iff]; omega)
  · exact ⟨_, _, setMask_done hk hs rfl, onLine1_applyMask s hs⟩
  · have ⟨h0, h1⟩ := derive_attention (s.reports.routed k (decide (line = 1)))
    exact ⟨_, setRoute_done k s hl, rfl, kind_setKind_same _ _ _, fun j hj => kind_setKind_ne hj, h0, h1,
      rfl, rfl, rfl, rfl⟩

end Sys2Proof.Machine
end

section
/-! PROOFS. Quiet operations: what the valve drive, the line controllers and the station supervisor do to the state while the
incident engine's records, the holder sets but for releases, the map and the mode stay as they are. -/

namespace Sys2Proof.Machine

open Sys2Proof

/-! ### The local invariants -/

/-- Every block's own invariant is kept: each speaks of one block only. -/
structure KeepsBlocks (s t : State) : Prop where
  reports : s.reports.Sound → t.reports.Sound
  stations : s.StationsSound → t.StationsSound
  lines : s.LinesSound → t.LinesSound
  maps : s.MapsSound → t.MapsSound
  valves : s.ValvesSound → t.ValvesSound
  frame : s.FrameFits → t.FrameFits

theorem KeepsBlocks.refl (s : State) : KeepsBlocks s s := ⟨id, id, id, id, id, id⟩

theorem KeepsBlocks.trans {s t u : State} (h : KeepsBlocks s t) (h' : KeepsBlocks t u) : KeepsBlocks s u :=
  ⟨h'.reports ∘ h.reports, h'.stations ∘ h.stations, h'.lines ∘ h.lines, h'.maps ∘ h.maps, h'.valves ∘ h.valves,
    h'.frame ∘ h.frame⟩

/-- A change that leaves the fields the local invariants speak of. -/
theorem KeepsBlocks.of_eq {s t : State} (hr : t.reports = s.reports) (hs : t.stations = s.stations)
    (hc : t.control = s.control) (hu : t.supply = s.supply) (hm : t.map = s.map) (hi : t.store.image = s.store.image)
    (hd : t.drive.valves = s.drive.valves) (hk : t.link = s.link) : KeepsBlocks s t := by
  constructor
  · rw [hr]; exact id
  · rw [State.StationsSound, State.StationsSound, hs]; exact id
  · rw [State.LinesSound, State.LinesSound, hc, hu]; exact id
  · rw [State.MapsSound, State.MapsSound, hm, hi]; exact id
  · rw [State.ValvesSound, State.ValvesSound, hd]; exact id
  · rw [State.FrameFits, State.FrameFits, hk]; exact id

theorem KeepsBlocks.foldl {α : Type} {f : State → α → State} (h : ∀ s x, KeepsBlocks s (f s x)) (xs : List α)
    (s : State) : KeepsBlocks s (xs.foldl f s) := by
  induction xs generalizing s with
  | nil => exact .refl s
  | cons x xs ih => exact (h s x).trans (ih _)

/-! ### Each block's own records -/

theorem saturate_le (bound n : Nat) : saturate bound n ≤ bound := by
  unfold saturate; split <;> omega

/-- The lines derived from a sound unit's queue make it sound. -/
theorem ReportUnit.sound_derive {u : ReportUnit} (hq : u.queue.length ≤ 32) (hl : u.lost ≤ 255)
    (hk : ∀ k : Fin 23, u.kinds[k].maskedCount ≤ 255) (hw : 1 ≤ u.watermark) (hw' : u.watermark ≤ 32)
    (ht : u.timeBase ≤ 4294967295) : u.derive.Sound :=
  ⟨hq, hl, hk, hw, hw', ht, rfl, rfl⟩

/-- A setting of a kind with a count in range keeps every count in range. -/
theorem maskedCount_setKind {u : ReportUnit} {k : ReportKind} {x : KindSetting} (hx : x.maskedCount ≤ 255)
    (h : ∀ j : Fin 23, u.kinds[j].maskedCount ≤ 255) (j : Fin 23) : (u.setKind k x).kinds[j].maskedCount ≤ 255 := by
  by_cases hj : k.index = j
  · subst hj; simpa [ReportUnit.setKind] using hx
  · have hne : (k.index : Nat) ≠ j := fun e => hj (Fin.ext e)
    simpa [ReportUnit.setKind, hne] using h j

/-- A setting that keeps its kind's route keeps the unit sound. -/
theorem ReportUnit.Sound.setKind {u : ReportUnit} (h : u.Sound) {k : ReportKind} {x : KindSetting}
    (hx : x.maskedCount ≤ 255) (hr : x.onLine1 = (u.kind k).onLine1) : (u.setKind k x).Sound := by
  obtain ⟨hq, hl, hk, hw, hw', ht, h0, h1⟩ := h
  have hroute (j : ReportKind) : ((u.setKind k x).kind j).onLine1 = (u.kind j).onLine1 := by
    rw [kind_setKind]; split
    · next hj => rw [hj, hr]
    · rfl
  refine ⟨hq, hl, maskedCount_setKind hx hk, hw, hw', ht, h0.trans ?_, h1.trans ?_⟩ <;>
    simp only [ReportUnit.attention, hroute] <;> rfl

theorem ReportUnit.Sound.kind_count {u : ReportUnit} (h : u.Sound) (k : ReportKind) : (u.kind k).maskedCount ≤ 255 :=
  h.2.2.1 k.index

/-- 08 R171: raising a report keeps the unit sound. -/
theorem ReportUnit.Sound.raise {u : ReportUnit} (h : u.Sound) (r : Report) : (u.raise r).Sound := by
  have ⟨hq, hl, hk, hw, hw', ht, h0, h1⟩ := h
  obtain ⟨-, e⟩ | ⟨-, -, e⟩ | ⟨-, hroom, e⟩ := raise_cases u r
  · rw [e]; exact h.setKind (saturate_le _ _) rfl
  · rw [e]; exact ⟨hq, saturate_le _ _, hk, hw, hw', ht, h0, h1⟩
  · rw [e]
    exact ReportUnit.sound_derive (by simpa using hroom) hl hk hw hw' ht

/-- 04 R84: writing a sound record keeps the dynamic records canonical and sound. -/
theorem State.ValvesSound.setDyn {s : State} (h : s.ValvesSound) (v : Nat) {d : ValveDyn} (hd : d.Sound) :
    (setDyn v d s).ValvesSound := by
  obtain ⟨hwf, hblank, hsound⟩ := h
  by_cases hb : d = blankDyn
  · simp only [State.ValvesSound, Machine.setDyn, if_pos hb]
    exact ⟨Table.wf_erase v hwf, fun e he => hblank e (Table.mem_erase.1 he).1,
      fun e he => hsound e (Table.mem_erase.1 he).1⟩
  · simp only [State.ValvesSound, Machine.setDyn, if_neg hb]
    refine ⟨Table.wf_put v d hwf, fun e he => ?_, fun e he => ?_⟩
    · obtain rfl | he := Table.mem_put he
      · exact hb
      · exact hblank e he
    · obtain rfl | he := Table.mem_put he
      · exact hd
      · exact hsound e he

theorem blankDyn_sound : blankDyn.Sound := by decide

/-- In sound records every valve id reads as a sound record. -/
theorem State.ValvesSound.dyn {s : State} (h : s.ValvesSound) (v : Nat) : (s.dyn v).Sound := by
  cases hg : Table.get s.drive.valves v with
  | none => simp only [State.dyn, hg]; exact blankDyn_sound
  | some d => simp only [State.dyn, hg]; exact h.2.2 _ (Table.mem_of_get hg)

theorem State.LinesSound.get {s : State} (h : s.LinesSound) (l : Line) :
    (s.control.get l).Sound ∧ (s.supply.get l).Sound :=
  h l (by cases l <;> simp [allLines])

theorem State.StationsSound.get {s : State} (h : s.StationsSound) (l : Line) (a : Nat) : (s.station l a).Sound := by
  cases hg : Table.get s.stations (stationKey l a) with
  | none => simp only [State.station, hg]; decide
  | some r => simp only [State.station, hg]; exact h _ (Table.mem_of_get hg)

/-! ### Quiet operations -/

/-- What the drive, the line controllers and the supervisor do: they raise reports, change line controllers, supplies, station
records and dynamic records soundly, mark the plan in progress, and count serials and free values. -/
inductive Quiet : State → State → Prop where
  | refl (s : State) : Quiet s s
  | trans {s t u : State} : Quiet s t → Quiet t u → Quiet s u
  | raise (k : ReportKind) (x : Subject) (d : Nat) (vs : List (Option Nat)) (s : State) : Quiet s (raise k x d vs s)
  | control {l : Line} {f : LineControl → LineControl} {s : State} (h : ∀ c, c.Sound → (f c).Sound) :
      Quiet s (onControl l f s)
  | supply {l : Line} {f : Supply → Supply} {s : State} (h : ∀ u, u.Sound → (f u).Sound) : Quiet s (onSupply l f s)
  | station {l : Line} {a : Nat} {r : StationRec} {s : State} (h : s.StationsSound → r.Sound) :
      Quiet s (setStation l a r s)
  | dyn {v : Nat} {f : ValveDyn → ValveDyn} {s : State} (h : ∀ d, d.Sound → (f d).Sound)
      (hh : ∀ d, (f d).holders ⊆ d.holders) : Quiet s (onDyn v f s)
  | plan {s : State} (f : PlanInProgress → PlanInProgress) (h : ∀ p, (f p).incident = p.incident) :
      Quiet s { s with planner := { s.planner with plan := s.planner.plan.map f } }
  | takeSerial (s : State) : Quiet s (takeSerial s)
  | nextFree (s : State) : Quiet s (nextFree s)

namespace Quiet

variable {s t : State}

/-- The fields that no quiet operation writes. -/
theorem fields (h : Quiet s t) :
    t.engine = s.engine ∧ t.store = s.store ∧ t.map = s.map ∧ t.alarms = s.alarms ∧ t.link = s.link
      ∧ t.elapsed = s.elapsed ∧ t.pending = s.pending := by
  induction h with
  | trans _ _ ih ih' =>
    obtain ⟨e1, e2, e3, e4, e5, e6, e7⟩ := ih
    obtain ⟨f1, f2, f3, f4, f5, f6, f7⟩ := ih'
    exact ⟨f1.trans e1, f2.trans e2, f3.trans e3, f4.trans e4, f5.trans e5, f6.trans e6, f7.trans e7⟩
  | _ => exact ⟨rfl, rfl, rfl, rfl, rfl, rfl, rfl⟩

theorem engine (h : Quiet s t) : t.engine = s.engine := h.fields.1
theorem store (h : Quiet s t) : t.store = s.store := h.fields.2.1
theorem map (h : Quiet s t) : t.map = s.map := h.fields.2.2.1
theorem slot (h : Quiet s t) (k : Nat) : t.slot k = s.slot k := by rw [State.slot, h.engine]; rfl

/-- The planner keeps its queue, and the plan in progress its incident. -/
theorem planner (h : Quiet s t) :
    t.planner.queue = s.planner.queue ∧ t.planner.plan.map (·.incident) = s.planner.plan.map (·.incident) := by
  induction h with
  | trans _ _ ih ih' => exact ⟨ih'.1.trans ih.1, ih'.2.trans ih.2⟩
  | plan f h => exact ⟨rfl, by simp only [Option.map_map]; exact congrArg (Option.map · _) (funext h)⟩
  | _ => exact ⟨rfl, rfl⟩

/-- No holder set gains a number. -/
theorem holders (h : Quiet s t) (v : Nat) : (t.dyn v).holders ⊆ (s.dyn v).holders := by
  induction h with
  | trans _ _ ih ih' => exact List.Subset.trans ih' ih
  | dyn _ hh => rw [dyn_onDyn]; split
                · next e => rw [e]; exact hh _
                · exact List.Subset.refl _
  | _ => exact List.Subset.refl _

/-- Reports are only added, and the time base stays. -/
theorem reports (h : Quiet s t) :
    s.reports.queue <+: t.reports.queue ∧ t.reports.timeBase = s.reports.timeBase := by
  induction h with
  | trans _ _ ih ih' => exact ⟨ih.1.trans ih'.1, ih'.2.trans ih.2⟩
  | raise => simp
  | _ => exact ⟨List.prefix_refl _, rfl⟩

/-- Every block's invariant is kept. -/
theorem keeps (h : Quiet s t) : KeepsBlocks s t := by
  induction h with
  | refl => exact .refl _
  | trans _ _ ih ih' => exact ih.trans ih'
  | raise k x d vs s => exact { KeepsBlocks.refl s with reports := fun h => h.raise _ }
  | @control l f s h =>
    refine { KeepsBlocks.refl s with lines := fun hs k hk => ⟨?_, (hs k hk).2⟩ }
    simp only [onControl_fields, PerLine.get_set]; split
    · exact h _ (hs.get l).1
    · exact (hs k hk).1
  | @supply l f s h =>
    refine { KeepsBlocks.refl s with lines := fun hs k hk => ⟨(hs k hk).1, ?_⟩ }
    simp only [onSupply_fields, PerLine.get_set]; split
    · exact h _ (hs.get l).2
    · exact (hs k hk).2
  | @station l a r s h =>
    refine { KeepsBlocks.refl s with stations := fun hs e he => ?_ }
    obtain rfl | he := Table.mem_put he
    · exact h hs
    · exact hs e he
  | @dyn v f s h => exact { KeepsBlocks.refl s with valves := fun hs => hs.setDyn v (h _ (hs.dyn v)) }
  | plan => exact .of_eq rfl rfl rfl rfl rfl rfl rfl rfl
  | takeSerial => exact .of_eq rfl rfl rfl rfl rfl rfl rfl rfl
  | nextFree => exact .of_eq rfl rfl rfl rfl rfl rfl rfl rfl

theorem foldl {α : Type} {f : State → α → State} (h : ∀ s x, Quiet s (f s x)) (xs : List α) (s : State) :
    Quiet s (xs.foldl f s) := by
  induction xs generalizing s with
  | nil => exact .refl s
  | cons x xs ih => exact (h s x).trans (ih _)

/-- A change of a record that leaves position and holder set. -/
theorem onDyn {v : Nat} {f : ValveDyn → ValveDyn} (s : State) (hp : ∀ d, (f d).position = d.position)
    (hh : ∀ d, (f d).holders = d.holders) : Quiet s (onDyn v f s) :=
  .dyn (fun d hd => by rw [ValveDyn.Sound, hp, hh]; exact hd) (fun d => by rw [hh]; exact List.Subset.refl _)

/-- A change of a controller that leaves its queue and its counts. -/
theorem onControl {l : Line} {f : LineControl → LineControl} (s : State) (hq : ∀ c, (f c).queue = c.queue)
    (hu : ∀ c, (f c).urgentCount = c.urgentCount) (he : ∀ c, (f c).errorLog = c.errorLog) :
    Quiet s (onControl l f s) :=
  .control fun c hc => by rw [LineControl.Sound, hq, hu, he]; exact hc

end Quiet

/-! ### Marks and records -/

theorem quiet_markStale (s : State) : Quiet s (markStale s) := .plan _ fun _ => rfl

theorem quiet_markStaleForOthers (n : Nat) (s : State) : Quiet s (markStaleForOthers n s) :=
  .plan _ fun p => by split <;> rfl

theorem quiet_markStaleFor (n : Nat) (s : State) : Quiet s (markStaleFor n s) :=
  .plan _ fun p => by split <;> rfl

theorem quiet_onMove (v : Nat) (f : Move → Move) (s : State) : Quiet s (onMove v f s) :=
  Quiet.onDyn s (fun _ => by rfl) (fun _ => by rfl)

theorem quiet_setMotion (v : Nat) (m : Motion) (s : State) : Quiet s (setMotion v m s) :=
  Quiet.onDyn s (fun _ => by rfl) (fun _ => by rfl)

theorem quiet_clearMove (v : Nat) (s : State) : Quiet s (clearMove v s) :=
  Quiet.onDyn s (fun _ => by rfl) (fun _ => by rfl)

theorem quiet_tellUnreachable (v : Nat) (b : Bool) (s : State) : Quiet s (tellUnreachable v b s) :=
  Quiet.onDyn s (fun _ => by rfl) (fun _ => by rfl)

theorem quiet_writeConfirmed (v : Nat) (b : Bool) (s : State) : Quiet s (writeConfirmed v b s) := by
  unfold writeConfirmed; exact Quiet.onDyn s (fun _ => by rfl) (fun _ => by rfl)

theorem quiet_setOperability (v : Nat) (o : Operability) (s : State) : Quiet s (setOperability v o s) := by
  unfold setOperability; split
  · exact .refl s
  · exact (Quiet.onDyn s (fun _ => by rfl) (fun _ => by rfl)).trans (quiet_markStale _)

theorem quiet_redeem (v : Nat) (s : State) : Quiet s (redeem v s) := by
  unfold redeem; split
  · exact quiet_setOperability _ _ _
  · exact .refl s

/-! ### Commands -/

/-- 05 R130: an offer that is taken keeps the queue within its capacity and each channel's entry single. -/
theorem offered_sound {q q' : List QueueEntry} {e : QueueEntry} (h : offered q e = some q') (hlen : q.length ≤ 16)
    (hnd : (q.map fun x => (x.address, x.channel)).Nodup) :
    q'.length ≤ 16 ∧ (q'.map fun x => (x.address, x.channel)).Nodup := by
  unfold offered at h
  split at h
  · cases h
    have hsame : (q.map fun x => if x.forChannel e.address e.channel then e else x).map
        (fun x => (x.address, x.channel)) = q.map fun x => (x.address, x.channel) := by
      rw [List.map_map]
      refine List.map_congr_left fun x _ => ?_
      simp only [Function.comp]; split
      · next hx => simp_all [QueueEntry.forChannel]
      · rfl
    exact ⟨by simpa using hlen, by rw [hsame]; exact hnd⟩
  · next hnone =>
    split at h
    · cases h
    · next hroom =>
      cases h
      refine ⟨by simp [urgentCapacity] at hroom ⊢; omega, ?_⟩
      rw [List.map_append, List.map_singleton, List.nodup_append]
      refine ⟨hnd, by simp, ?_⟩
      simp only [List.mem_map, List.mem_singleton]
      rintro _ ⟨x, hx, rfl⟩ _ rfl hxe
      exact hnone (List.any_eq_true.2 ⟨x, hx, by simp_all [QueueEntry.forChannel]⟩)

theorem quiet_offer (l : Line) (e : QueueEntry) (s : State) : Quiet s (offer l e s) :=
  .control fun c hc => by
    obtain ⟨hlen, hnd, hu, he⟩ := hc
    split
    · next hq => exact ⟨(offered_sound hq hlen hnd).1, (offered_sound hq hlen hnd).2, hu, he⟩
    · exact ⟨hlen, hnd, hu, he⟩

theorem quiet_offerOnce (l : Line) (e : QueueEntry) (s : State) : Quiet s (offerOnce l e s) :=
  .control fun c hc => by
    obtain ⟨hlen, hnd, hu, he⟩ := hc
    split
    · next hq => exact ⟨(offered_sound hq hlen hnd).1, (offered_sound hq hlen hnd).2, hu, he⟩
    · exact ⟨hlen, hnd, hu, he⟩

/-- Entries that leave an urgent queue keep its controller sound. -/
theorem sound_filter_queue (f : QueueEntry → Bool) {c : LineControl} (hc : c.Sound) :
    (c.queue.filter f).length ≤ 16 ∧ ((c.queue.filter f).map fun e => (e.address, e.channel)).Nodup := by
  obtain ⟨hlen, hnd, -, -⟩ := hc
  exact ⟨(List.length_filter_le _ _).trans hlen, hnd.sublist (List.filter_sublist.map _)⟩

theorem quiet_withdraw (v : Nat) (p : ActuatedPart) (s : State) : Quiet s (withdraw v p s) :=
  .control fun _ hc => ⟨(sound_filter_queue _ hc).1, (sound_filter_queue _ hc).2, hc.2.2.1, hc.2.2.2⟩

theorem quiet_dropStationCommands (l : Line) (a : Nat) (s : State) : Quiet s (dropStationCommands l a s) :=
  .control fun _ hc => ⟨(sound_filter_queue _ hc).1, (sound_filter_queue _ hc).2, hc.2.2.1, hc.2.2.2⟩

theorem quiet_emptyUrgent (l : Line) (s : State) : Quiet s (emptyUrgent l s) :=
  .control fun _ hc => ⟨Nat.zero_le _, List.nodup_nil, hc.2.2.1, hc.2.2.2⟩

theorem quiet_issue (v : Nat) (p : ActuatedPart) (k : CommandKind) (s : State) : Quiet s (issue v p k s) :=
  ((Quiet.takeSerial s).trans (quiet_onMove _ _ _)).trans (quiet_offer _ _ _)

theorem quiet_issueTimed (v : Nat) (p : ActuatedPart) (target rate preset : Nat) (s : State) :
    Quiet s (issueTimed v p target rate preset s) := (quiet_onMove _ _ _).trans (quiet_issue _ _ _ _)

theorem quiet_issueUntimed (v : Nat) (p : ActuatedPart) (target rate : Nat) (s : State) :
    Quiet s (issueUntimed v p target rate s) := (quiet_onMove _ _ _).trans (quiet_issue _ _ _ _)

theorem quiet_reoffer (vs : List Nat) (l : Line) (s : State) : Quiet s (reoffer vs l s) := by
  induction vs generalizing s with
  | nil => exact .refl s
  | cons v rest ih =>
    simp only [reoffer]
    split
    · split
      · exact quiet_offer _ _ _
      · exact (quiet_offer _ _ _).trans (ih _)
    · exact (Quiet.onControl s (fun _ => by rfl) (fun _ => by rfl) (fun _ => by rfl)).trans (ih _)

theorem quiet_reofferRefused (l : Line) (s : State) : Quiet s (reofferRefused l s) := quiet_reoffer _ _ _

theorem quiet_endMove (v : Nat) (p : ActuatedPart) (s : State) : Quiet s (endMove v p s) :=
  (quiet_withdraw _ _ _).trans (quiet_clearMove _ _)

theorem quiet_endAnyMove (v : Nat) (p : ActuatedPart) (s : State) : Quiet s (endAnyMove v p s) := by
  unfold endAnyMove; split
  · exact quiet_endMove _ _ _
  · exact .refl s

theorem quiet_acknowledge (e : QueueEntry) (s : State) : Quiet s (acknowledge e s) := quiet_onMove _ _ _

theorem quiet_commandFailed (l : Line) (e : QueueEntry) (s : State) : Quiet s (commandFailed l e s) := by
  unfold commandFailed; split
  · split
    · exact quiet_offer _ _ _
    · exact .refl s
  · exact .refl s

/-! ### Moves -/

theorem quiet_raiseFailed (v detail starter : Nat) (s : State) : Quiet s (raiseFailed v detail starter s) := .raise _ _ _ _ _

theorem quiet_raiseOffNormal (v detail : Nat) (s : State) : Quiet s (raiseOffNormal v detail s) := .raise _ _ _ _ _

theorem quiet_driveBand (v : Nat) (p : ActuatedPart) (s : State) : Quiet s (driveBand v p s) := by
  unfold driveBand; dsimp only; split <;> exact (quiet_setMotion _ _ _).trans (quiet_issueTimed _ _ _ _ _ _)

theorem quiet_startClosing (v : Nat) (p : ActuatedPart) (n : Nat) (s : State) : Quiet s (startClosing v p n s) := by
  unfold startClosing; split
  · exact .refl s
  · exact (Quiet.onDyn s (fun _ => by rfl) (fun _ => by rfl)).trans (quiet_driveBand _ _ _)

theorem quiet_completeClosing (v : Nat) (p : ActuatedPart) (m : Move) (s : State) : Quiet s (completeClosing v p m s) :=
  ((quiet_endMove v p s).trans (quiet_redeem _ _)).trans (.raise _ _ _ _ _)

theorem quiet_resumeClosing (v : Nat) (p : ActuatedPart) (m : Move) (s : State) : Quiet s (resumeClosing v p m s) := by
  unfold resumeClosing; split
  · exact quiet_completeClosing _ _ _ _
  · exact quiet_driveBand _ _ _

theorem quiet_changeBand (v : Nat) (p : ActuatedPart) (s : State) : Quiet s (changeBand v p s) :=
  (quiet_setMotion _ _ _).trans (quiet_issueUntimed _ _ _ _ _)

theorem quiet_holdMove (v : Nat) (p : ActuatedPart) (m : Move) (n : Nat) (s : State) : Quiet s (holdMove v p m n s) :=
  (((quiet_setMotion v .holding s).trans (quiet_onMove _ _ _)).trans (quiet_issue _ _ _ _)).trans (.raise _ _ _ _ _)

theorem quiet_driveCharge (v : Nat) (p : ActuatedPart) (s : State) : Quiet s (driveCharge v p s) :=
  (quiet_setMotion _ _ _).trans (quiet_issueTimed _ _ _ _ _ _)

theorem quiet_driveOpen (v : Nat) (p : ActuatedPart) (n : Nat) (s : State) : Quiet s (driveOpen v p n s) :=
  (quiet_setMotion _ _ _).trans (quiet_issueTimed _ _ _ _ _ _)

theorem quiet_driveOpening (v : Nat) (p : ActuatedPart) (s : State) : Quiet s (driveOpening v p s) := by
  unfold driveOpening; dsimp only; split
  · exact quiet_driveCharge _ _ _
  · exact quiet_driveOpen _ _ _ _

theorem quiet_startOpening (v : Nat) (p : ActuatedPart) (n : Nat) (s : State) : Quiet s (startOpening v p n s) :=
  (Quiet.onDyn s (fun _ => by rfl) (fun _ => by rfl)).trans (quiet_driveOpening _ _ _)

theorem quiet_endDwell (v : Nat) (p : ActuatedPart) (s : State) : Quiet s (endDwell v p s) :=
  (quiet_onMove _ _ _).trans (quiet_driveOpen _ _ _ _)

theorem quiet_beginDwell (v : Nat) (p : ActuatedPart) (s : State) : Quiet s (beginDwell v p s) :=
  ((quiet_withdraw _ _ _).trans (quiet_setMotion _ _ _)).trans (quiet_onMove _ _ _)

theorem quiet_completeCharge (v : Nat) (p : ActuatedPart) (s : State) : Quiet s (completeCharge v p s) := by
  unfold completeCharge; split
  · exact (quiet_onMove _ _ _).trans (quiet_endDwell _ _ _)
  · exact quiet_beginDwell _ _ _

theorem quiet_completeOpening (v : Nat) (p : ActuatedPart) (m : Move) (s : State) : Quiet s (completeOpening v p m s) :=
  ((quiet_endMove v p s).trans (quiet_redeem _ _)).trans (.raise _ _ _ _ _)

theorem quiet_reissueBackoff (v : Nat) (p : ActuatedPart) (m : Move) (s : State) : Quiet s (reissueBackoff v p m s) :=
  quiet_issueTimed _ _ _ _ _ _

theorem quiet_endBackoff (v : Nat) (p : ActuatedPart) (m : Move) (s : State) : Quiet s (endBackoff v p m s) := by
  unfold endBackoff; dsimp only; split
  · exact (quiet_onMove _ _ _).trans (quiet_resumeClosing _ _ _ _)
  · exact (quiet_onMove _ _ _).trans (quiet_driveOpening _ _ _)

theorem quiet_endHold (v : Nat) (p : ActuatedPart) (m : Move) (r : Reading) (s : State) : Quiet s (endHold v p m r s) :=
  (Quiet.raise _ _ _ _ _).trans (quiet_resumeClosing _ _ _ _)

theorem quiet_reissuePhase (v : Nat) (p : ActuatedPart) (m : Move) (s : State) : Quiet s (reissuePhase v p m s) := by
  unfold reissuePhase; split
  · exact quiet_reissueBackoff _ _ _ _
  · exact quiet_resumeClosing _ _ _ _
  · exact quiet_resumeClosing _ _ _ _
  · exact quiet_driveCharge _ _ _
  · exact quiet_driveOpen _ _ _ _
  · exact .refl s

theorem quiet_firstExpiry (v : Nat) (p : ActuatedPart) (m : Move) (s : State) : Quiet s (firstExpiry v p m s) := by
  unfold firstExpiry; dsimp only; split
  · exact (quiet_setOperability _ _ _).trans ((quiet_onMove _ _ _).trans (quiet_reissuePhase _ _ _ _))
  · exact (quiet_onMove _ _ _).trans (quiet_reissuePhase _ _ _ _)

/-! ### Crews and releases -/

theorem quiet_requestCrew (v : Nat) (d : Direction) (n : Nat) (s : State) : Quiet s (requestCrew v d n s) := by
  unfold requestCrew
  exact (Quiet.raise .crewRequest (.valve v) d.code [some n, some (s.rankOf v), some s.map.policy.crewTimeout] s).trans
    (Quiet.onDyn _ (fun _ => by rfl) (fun _ => by rfl))

theorem quiet_endCrewWait (v : Nat) (s : State) : Quiet s (endCrewWait v s) :=
  Quiet.onDyn s (fun _ => by rfl) (fun _ => by rfl)

theorem quiet_setStarter (v : Nat) (n : Option Nat) (s : State) : Quiet s (setStarter v n s) := quiet_onMove _ _ _

theorem quiet_releaseActuated (v : Nat) (p : ActuatedPart) (n : Nat) (s : State) : Quiet s (releaseActuated v p n s) := by
  unfold releaseActuated; split
  · split
    · exact quiet_endAnyMove _ _ _
    · exact (quiet_endAnyMove _ _ _).trans (quiet_startOpening _ _ _ _)
  · exact quiet_raiseOffNormal _ _ _

theorem quiet_releaseLast (v n : Nat) (s : State) : Quiet s (releaseLast v n s) := by
  unfold releaseLast; split
  · exact .refl s
  · split
    · exact quiet_setStarter _ _ _
    · exact quiet_releaseActuated _ _ _ _
    · split
      · exact quiet_requestCrew _ _ _ _
      · exact .refl s

theorem quiet_handMove (v n : Nat) (s : State) : Quiet s (handMove v n s) := by
  unfold handMove; split
  · exact quiet_setStarter _ _ _
  · exact .refl s

theorem quiet_releaseHolder (v n : Nat) (s : State) :
    Quiet s (onDyn v (fun d => { d with holders := d.holders.filter (· != n) }) s) :=
  .dyn (fun _ hd => ⟨hd.1, hd.2.sublist List.filter_sublist⟩) (fun _ => List.filter_subset_self _)

theorem quiet_releaseOrder (v n : Nat) (s : State) : Quiet s (releaseOrder v n s) := by
  unfold releaseOrder; split
  · have h := (quiet_releaseHolder v n s).trans (quiet_markStaleForOthers n _)
    dsimp only; split
    · exact h.trans (quiet_releaseLast _ _ _)
    · exact h.trans (quiet_handMove _ _ _)
  · exact .refl s

theorem quiet_firstHold (v n : Nat) (s : State) : Quiet s (firstHold v n s) := by
  unfold firstHold; split
  · split
    · exact (quiet_endMove _ _ _).trans (quiet_startClosing _ _ _ _)
    · exact quiet_setStarter _ _ _
    · exact .refl s
  · split
    · exact Quiet.onDyn s (fun _ => by rfl) (fun _ => by rfl)
    · exact .refl s

/-! ### Starts -/

theorem quiet_startOne {s t : State} (h : startOne s = some t) : Quiet s t := by
  unfold startOne at h
  split at h
  · cases h
  · dsimp only at h
    split at h
    · cases h
      split
      · exact quiet_startClosing _ _ _ _
      · exact (Quiet.nextFree s).trans (quiet_startClosing _ _ _ _)
    · cases h

theorem quiet_startRounds (n : Nat) (s : State) : Quiet s (startRounds n s) := by
  induction n generalizing s with
  | zero => exact .refl s
  | succ n ih =>
    simp only [startRounds]
    split
    · exact (quiet_startOne ‹_›).trans (ih _)
    · exact .refl s

theorem quiet_startMoves (s : State) : Quiet s (startMoves s) := by
  unfold startMoves; split
  · exact quiet_startRounds _ _
  · exact .refl s

theorem quiet_forSlots {f : Nat → Incident → State → State} (h : ∀ k inc s, Quiet s (f k inc s)) (s : State) :
    Quiet s (forSlots f s) :=
  Quiet.foldl (fun s k => by
    split
    · exact h _ _ _
    · exact .refl s) _ _

theorem quiet_crewRequests (s : State) : Quiet s (crewRequests s) := by
  unfold crewRequests; split
  · refine quiet_forSlots (fun k inc s => ?_) s
    split
    · refine Quiet.foldl (fun s v => ?_) _ _
      split
      · exact quiet_requestCrew _ _ _ _
      · exact .refl s
    · exact .refl s
  · exact .refl s

theorem quiet_retimePolls (s : State) : Quiet s (retimePolls s) := by
  unfold retimePolls; split
  · exact Quiet.foldl (fun s l => Quiet.onControl s (fun _ => by rfl) (fun _ => by rfl) (fun _ => by rfl)) _ _
  · exact .refl s

/-! ### Exchanges and stations -/

theorem quiet_onPollEntry (l : Line) (a : Nat) (f : PollEntry → PollEntry) (s : State) : Quiet s (onPollEntry l a f s) :=
  Quiet.onControl s (fun _ => by rfl) (fun _ => by rfl) (fun _ => by rfl)

theorem quiet_becomeProbe (l : Line) (a : Nat) (s : State) : Quiet s (becomeProbe l a s) := quiet_onPollEntry _ _ _ _

theorem quiet_becomePoll (l : Line) (a : Nat) (s : State) : Quiet s (becomePoll l a s) := quiet_onPollEntry _ _ _ _

theorem quiet_allDue (l : Line) (s : State) : Quiet s (allDue l s) :=
  Quiet.onControl s (fun _ => by rfl) (fun _ => by rfl) (fun _ => by rfl)

theorem quiet_reschedule (l : Line) (x : Exchange) (good : Bool) (s : State) : Quiet s (reschedule l x good s) := by
  unfold reschedule; dsimp only; split
  · exact quiet_onPollEntry _ _ _ _
  · exact quiet_onPollEntry _ _ _ _
  · split
    · exact quiet_onPollEntry _ _ _ _
    · exact .refl s

theorem quiet_raiseHealth (l : Line) (a : Nat) (new former : StationState) (score cause : Nat) (s : State) :
    Quiet s (raiseHealth l a new former score cause s) := .raise _ _ _ _ _

theorem scoreAfter_le {score : Nat} (h : score ≤ 160) (e : LineError) : scoreAfter score e ≤ 160 := by
  cases e <;> simp only [scoreAfter, scoreLimit] <;> omega

theorem stateOfScore_offline (score : Nat) : stateOfScore score = .offline ↔ 160 ≤ score := by
  unfold stateOfScore scoreLimit
  split
  · simp [*]
  · split <;> simp [*]

theorem stateOfScore_degraded (score : Nat) : stateOfScore score = .degraded ↔ 64 ≤ score ∧ score < 160 := by
  unfold stateOfScore scoreLimit
  split
  · simp; omega
  · split
    · simp; omega
    · simp; omega

/-- 06 R144: a score up to 160 with the state that it gives makes a sound record. -/
theorem StationRec.Sound.withScore {r : StationRec} (h : r.Sound) {score run : Nat} (hs : score ≤ 160) (hr : run ≤ 8) :
    StationRec.Sound { r with score := score, state := stateOfScore score, probeRun := run } := by
  obtain ⟨-, -, -, -, hp⟩ := h
  refine ⟨hs, (stateOfScore_offline score).trans ?_, (stateOfScore_degraded score).trans ?_, hr, hp⟩
  · show 160 ≤ score ↔ score = 160; omega
  · show 64 ≤ score ∧ score < 160 ↔ 64 ≤ score ∧ score ≤ 159; omega

theorem quiet_superviseProbe {l : Line} {a : Nat} {r : StationRec} (o : LineError) {s : State}
    (hr : s.StationsSound → r.Sound) : Quiet s (superviseProbe l a r o s) := by
  unfold superviseProbe; split
  · split
    · refine Quiet.trans (Quiet.trans (.station fun hs => ?_) (quiet_raiseHealth _ _ _ _ _ _ _)) (quiet_becomePoll _ _ _)
      exact (hr hs).withScore (score := 0) (run := 0) (by omega) (by omega)
    · refine .station fun hs => ?_
      obtain ⟨h1, h2, h3, h4, h5⟩ := hr hs
      exact ⟨h1, h2, h3, by simp only; omega, h5⟩
  · refine .station fun hs => ?_
    obtain ⟨h1, h2, h3, h4, h5⟩ := hr hs
    exact ⟨h1, h2, h3, by simp, h5⟩

theorem quiet_superviseScore {l : Line} {a : Nat} {r : StationRec} (o : LineError) {s : State}
    (hr : s.StationsSound → r.Sound) : Quiet s (superviseScore l a r o s) := by
  unfold superviseScore; dsimp only; split
  · next hstate =>
    refine .station fun hs => ?_
    have h := (hr hs).withScore (scoreAfter_le (hr hs).1 o) (hr hs).2.2.2.1
    rwa [hstate] at h
  · split
    · refine Quiet.trans ?_ (quiet_becomeProbe _ _ _)
      refine Quiet.trans ?_ (quiet_dropStationCommands _ _ _)
      refine Quiet.trans (.station fun hs => ?_) (quiet_raiseHealth _ _ _ _ _ _ _)
      exact (hr hs).withScore (scoreAfter_le (hr hs).1 o) (Nat.zero_le 8)
    · refine Quiet.trans (.station fun hs => ?_) (quiet_raiseHealth _ _ _ _ _ _ _)
      exact (hr hs).withScore (scoreAfter_le (hr hs).1 o) (hr hs).2.2.2.1

theorem quiet_supervise (l : Line) (a : Nat) (o : LineError) (s : State) : Quiet s (supervise l a o s) := by
  unfold supervise; dsimp only; split
  · exact quiet_superviseProbe o fun hs => hs.get l a
  · exact quiet_superviseScore o fun hs => hs.get l a

theorem quiet_raiseLocal (l : Line) (a : Nat) (former : PerChannel Bool) (reply : StationReply) (s : State) (c : Nat) :
    Quiet s (raiseLocal l a former reply s c) := by
  unfold raiseLocal; dsimp only; split
  · exact .refl s
  · split
    · split
      · exact (quiet_withdraw _ _ _).trans (.raise _ _ _ _ _)
      · exact .raise _ _ _ _ _
    · exact .refl s

theorem quiet_takeLocal (l : Line) (a : Nat) (reply : StationReply) (s : State) : Quiet s (takeLocal l a reply s) := by
  unfold takeLocal
  refine Quiet.trans (.station fun hs => ?_) (Quiet.foldl (quiet_raiseLocal _ _ _ _) _ _)
  exact hs.get l a

theorem quiet_takePressure {l : Line} {a : Nat} {reply : StationReply} (s : State) (h : reply.pressure.getD 0 ≤ 4000) :
    Quiet s (takePressure l a reply s) := by
  refine .station fun hs => ?_
  obtain ⟨h1, h2, h3, h4, -⟩ := hs.get l a
  refine ⟨h1, h2, h3, h4, ?_⟩
  simp only [State.pressureOf]
  split
  · split
    · exact h
    · simp
  · simp

theorem quiet_countError (l : Line) (e : LineError) (s : State) : Quiet s (countError l e s) := by
  have h : Quiet s (onControl l (fun c =>
      { c with lastError := e, errorLog := saturate 255 c.errorLog,
               overflowReported := c.overflowReported || decide (255 ≤ (s.control.get l).errorLog) }) s) :=
    .control fun c hc => ⟨hc.1, hc.2.1, hc.2.2.1, saturate_le _ _⟩
  unfold countError; dsimp only; split
  · exact h.trans (.raise _ _ _ _ _)
  · exact h

theorem quiet_driveFails (l : Line) (x : Exchange) (s : State) : Quiet s (driveFails l x s) := by
  unfold driveFails; split
  · exact quiet_commandFailed _ _ _
  · exact .refl s

/-- The positions of valves become UNKNOWN or what a reply reports, and nothing else of them changes. -/
theorem quiet_setPosition (v : Nat) {r : Reading} (hr : r.getD 0 ≤ 1000) (s : State) :
    Quiet s (onDyn v (fun d => { d with position := r }) s) :=
  .dyn (fun _ hd => ⟨hr, hd.2⟩) (fun _ => List.Subset.refl _)

theorem quiet_forgetPositions (l : Line) (s : State) : Quiet s (forgetPositions l s) :=
  Quiet.foldl (fun s (e : Nat × ActuatedPart) => quiet_setPosition e.1 (r := none) (Nat.zero_le _) s) _ _

theorem Supply.Sound.trip {u : Supply} (h : u.Sound) (x : LineSettings) (m : Mode) : (u.trip x m).Sound := by
  refine ⟨?_, by simp [Supply.trip]⟩
  simp only [Supply.trip]
  split
  · split
    · exact saturate_le _ _
    · omega
  · exact h.1

theorem quiet_resetController (l : Line) (s : State) : Quiet s (resetController l s) :=
  .control fun _ _ => ⟨by simp [resetControl], by simp [resetControl], by simp [resetControl], by simp [resetControl]⟩

theorem quiet_resetStation (s : State) (key : Nat) : Quiet s (resetStation s key) := by
  unfold resetStation; split
  · have h : ∀ moving, StationRec.Sound { freshStation with moving := moving } := by decide
    dsimp only; split
    · exact .station fun _ => h _
    · exact Quiet.trans (.station fun _ => h _) (quiet_raiseHealth _ _ _ _ _ _ _)
  · exact .refl s

theorem quiet_resetValves (l : Line) (s : State) : Quiet s (resetValves l s) :=
  Quiet.foldl (fun _ (e : Nat × ActuatedPart) =>
    .dyn (v := e.1) (f := fun d => { d with position := none, move := d.move.map Move.lineReset })
      (fun _ hd => ⟨Nat.zero_le _, hd.2⟩) (fun _ => List.Subset.refl _)) _ _

theorem quiet_supplyReset (l : Line) (s : State) : Quiet s (onSupply l Supply.reset s) :=
  .supply fun _ _ => ⟨by simp [Supply.reset], by simp [Supply.reset]⟩

end Sys2Proof.Machine
end

section
/-! PROOFS. The invariants of the incident engine as conditions on the slots, and the calm operations: what the valve drive
hands to the engine and the planner (requests to replan, hold orders, the isolation test), which keep every invariant. -/

namespace Sys2Proof.Machine

open Sys2Proof

/-! ### Tables read by identifier -/

section tables
variable {α β : Type}

/-- Every entry of a canonical table has a property exactly when every entry read by its identifier has it. -/
theorem Table.forall_mem_iff {t : Table α} (h : Table.Wf t) {P : Nat → α → Prop} :
    (∀ e ∈ t, P e.1 e.2) ↔ ∀ k x, Table.get t k = some x → P k x :=
  ⟨fun hp _ _ hk => hp _ (Table.mem_of_get hk), fun hp _ he => hp _ _ (Table.get_of_mem h he)⟩

theorem Table.exists_mem_iff {t : Table α} (h : Table.Wf t) {P : Nat → α → Prop} :
    (∃ e ∈ t, P e.1 e.2) ↔ ∃ k x, Table.get t k = some x ∧ P k x :=
  ⟨fun ⟨e, he, hp⟩ => ⟨e.1, e.2, Table.get_of_mem h he, hp⟩, fun ⟨_, _, hk, hp⟩ => ⟨_, Table.mem_of_get hk, hp⟩⟩

/-- In a canonical table no two entries have the same identifier. -/
theorem Table.key_injective {t : Table α} (h : Table.Wf t) {d e : Nat × α} (hd : d ∈ t) (he : e ∈ t) (hk : d.1 = e.1) :
    d = e := by
  have h1 := Table.get_of_mem h (k := d.1) (x := d.2) hd
  have h2 := Table.get_of_mem h (k := e.1) (x := e.2) he
  rw [hk, h2] at h1
  exact Prod.ext hk (Option.some.inj h1).symm

theorem Table.nodup {t : Table α} (h : Table.Wf t) : t.Nodup :=
  List.Nodup.of_map _ (h.imp Nat.ne_of_lt)

/-- A symmetric relation holds between the entries of a canonical table when it holds between those of different
identifiers. -/
theorem Table.pairwise_iff {t : Table α} (h : Table.Wf t) {R : Nat × α → Nat × α → Prop} (hR : ∀ d e, R d e → R e d) :
    t.Pairwise R ↔ ∀ j k x y, j ≠ k → Table.get t j = some x → Table.get t k = some y → R (j, x) (k, y) := by
  have : Std.Symm R := ⟨hR⟩
  constructor
  · intro hp j k x y hjk hx hy
    exact hp.forall (Table.mem_of_get hx) (Table.mem_of_get hy) (fun e => hjk (congrArg Prod.fst e))
  · intro hf
    refine (Table.nodup h).pairwise_of_forall_ne fun d hd e he hne => ?_
    exact hf d.1 e.1 d.2 e.2 (fun hk => hne (Table.key_injective h hd he hk)) (Table.get_of_mem h hd)
      (Table.get_of_mem h he)

end tables

/-! ### The engine's invariants by slot -/

/-- 03 R49, R50: the slots are sound, read slot by slot. -/
theorem slotsSound_iff {s : State} :
    s.SlotsSound ↔ Table.Wf s.engine.slots
      ∧ (∀ k inc, s.slot k = some inc → k ≤ 3 ∧ 1 ≤ inc.number ∧ inc.number ≤ 255 ∧ inc.number ≠ s.engine.counter)
      ∧ (∀ j k a b, s.slot j = some a → s.slot k = some b → a.number = b.number → j = k)
      ∧ 1 ≤ s.engine.counter ∧ s.engine.counter ≤ 255 := by
  constructor
  · rintro ⟨hwf, hrange, hnd, hc, hc', hfresh⟩
    refine ⟨hwf, fun k inc hk => ?_, fun j k a b hj hk hab => ?_, hc, hc'⟩
    · have hm := Table.mem_of_get hk
      obtain ⟨h1, h2, h3⟩ := hrange _ hm
      exact ⟨h1, h2, h3, fun e => hfresh (e ▸ List.mem_map_of_mem hm)⟩
    · exact congrArg Prod.fst (List.inj_on_of_nodup_map hnd (Table.mem_of_get hj) (Table.mem_of_get hk) hab)
  · rintro ⟨hwf, hrange, hinj, hc, hc'⟩
    refine ⟨hwf, fun e he => ?_, ?_, hc, hc', fun hm => ?_⟩
    · obtain ⟨h1, h2, h3, -⟩ := hrange e.1 e.2 (Table.get_of_mem hwf he)
      exact ⟨h1, h2, h3⟩
    · refine (List.nodup_map_iff_inj_on (Table.nodup hwf)).2 fun d hd e he hde => ?_
      exact Table.key_injective hwf hd he
        (hinj d.1 e.1 d.2 e.2 (Table.get_of_mem hwf hd) (Table.get_of_mem hwf he) hde)
    · obtain ⟨e, he, hn⟩ := List.mem_map.1 hm
      exact (hrange e.1 e.2 (Table.get_of_mem hwf he)).2.2.2 hn

theorem State.SlotsSound.wf {s : State} (h : s.SlotsSound) : Table.Wf s.engine.slots := h.1

/-- In sound slots an incident's number tells its slot. -/
theorem State.SlotsSound.slot_inj {s : State} (h : s.SlotsSound) {j k : Nat} {a b : Incident} (hj : s.slot j = some a)
    (hk : s.slot k = some b) (hn : a.number = b.number) : j = k :=
  (slotsSound_iff.1 h).2.2.1 j k a b hj hk hn

/-- 03 R58: the regions are disjoint, read slot by slot. -/
theorem regionsDisjoint_iff {s : State} (h : s.SlotsSound) :
    s.RegionsDisjoint ↔
      (∀ k inc, s.slot k = some inc → inc.state.active = true → inc.region.Nodup)
      ∧ ∀ j k a b, j ≠ k → s.slot j = some a → s.slot k = some b → a.state.active = true → b.state.active = true →
          List.Disjoint a.region b.region := by
  have hpair := Table.pairwise_iff h.wf
    (R := fun d e => d.2.state.active = true → e.2.state.active = true → List.Disjoint d.2.region e.2.region)
    (fun d e hde he hd => (hde hd he).symm)
  rw [State.RegionsDisjoint, State.activeIncidents, List.nodup_flatMap]
  constructor
  · rintro ⟨hnd, hdis⟩
    rw [List.pairwise_filter, List.pairwise_map] at hdis
    refine ⟨fun k inc hk ha => hnd inc ?_, fun j k a b hjk hj hk ha hb => ?_⟩
    · exact List.mem_filter.2 ⟨List.mem_map_of_mem (Table.mem_of_get hk), ha⟩
    · exact hpair.1 hdis j k a b hjk hj hk ha hb
  · rintro ⟨hnd, hdis⟩
    refine ⟨fun inc hi => ?_, ?_⟩
    · obtain ⟨hm, ha⟩ := List.mem_filter.1 hi
      obtain ⟨e, he, rfl⟩ := List.mem_map.1 hm
      exact hnd e.1 e.2 (Table.get_of_mem h.wf he) ha
    · rw [List.pairwise_filter, List.pairwise_map]
      exact hpair.2 fun j k a b hjk hj hk ha hb => hdis j k a b hjk hj hk ha hb

/-- 03 R65: the consent queue, read slot by slot. -/
theorem consentSound_iff {s : State} (h : Table.Wf s.engine.slots) :
    s.ConsentSound ↔ s.engine.consentQueue.Nodup
      ∧ (∀ n ∈ s.engine.consentQueue, ∃ k inc, s.slot k = some inc ∧ inc.number = n ∧ inc.state = .awaitConsent)
      ∧ ∀ k inc, s.slot k = some inc → inc.state = .awaitConsent → inc.number ∈ s.engine.consentQueue := by
  refine and_congr Iff.rfl (and_congr ?_ ?_)
  · exact forall₂_congr fun n _ =>
      Table.exists_mem_iff h (P := fun _ inc => inc.number = n ∧ inc.state = .awaitConsent)
  · exact Table.forall_mem_iff h (P := fun _ inc => inc.state = .awaitConsent → inc.number ∈ s.engine.consentQueue)

/-- 04 R90: a number in a valve's holder set is that of an incident, which has the valve on its restore list when it is
RESTORING. -/
abbrev State.Holds (s : State) (v n : Nat) : Prop :=
  ∃ k inc, s.slot k = some inc ∧ inc.number = n ∧ (inc.state = .restoring → v ∈ inc.restoreList)

/-- 04 R90: the holder sets, read by valve id and slot. -/
theorem holdersSound_iff {s : State} (h : Table.Wf s.engine.slots) (hv : Table.Wf s.drive.valves) :
    s.HoldersSound ↔ ∀ v, ∀ n ∈ (s.dyn v).holders, s.Holds v n := by
  have hentry := Table.forall_mem_iff hv (P := fun v d => ∀ n ∈ d.holders, s.Holds v n)
  have hslot : s.HoldersSound ↔ ∀ e ∈ s.drive.valves, ∀ n ∈ e.2.holders, s.Holds e.1 n :=
    forall₂_congr fun d _ => forall₂_congr fun n _ => Table.exists_mem_iff h
      (P := fun _ inc => inc.number = n ∧ (inc.state = .restoring → d.1 ∈ inc.restoreList))
  rw [hslot, hentry]
  constructor
  · intro hd v n hn
    cases hg : Table.get s.drive.valves v with
    | none => simp [State.dyn, hg, blankDyn] at hn
    | some d => exact hd v d hg n (by simpa [State.dyn, hg] using hn)
  · intro hd v d hg n hn
    exact hd v n (by simpa [State.dyn, hg] using hn)

/-- 02 R25: an incident of a number that is not RESTORING. -/
abbrev State.Plannable (s : State) (n : Nat) : Prop :=
  ∃ k inc, s.slot k = some inc ∧ inc.number = n ∧ inc.state ≠ .restoring

/-- The planner's queue is sound, whatever the incident of the plan in progress. -/
structure State.PlanQueueSound (s : State) : Prop where
  nodup : s.planner.queue.Nodup
  apart : ∀ p ∈ s.planner.plan, p.incident ∉ s.planner.queue
  empty : s.planner.plan = none → s.planner.queue = []
  queued : ∀ n ∈ s.planner.queue, s.Plannable n

/-- 02 R24 to R29: the planner, read slot by slot. -/
theorem plannerSound_iff {s : State} (h : Table.Wf s.engine.slots) :
    s.PlannerSound ↔ s.PlanQueueSound ∧ ∀ p ∈ s.planner.plan, s.Plannable p.incident := by
  have hmem (n : Nat) : (∃ e ∈ s.engine.slots, e.2.number = n ∧ e.2.state ≠ .restoring) ↔ s.Plannable n :=
    Table.exists_mem_iff h (P := fun _ inc => inc.number = n ∧ inc.state ≠ .restoring)
  simp only [State.PlannerSound, hmem]
  constructor
  · rintro ⟨hnd, hap, hem, hall⟩
    exact ⟨⟨hnd, hap, hem, fun n hn => hall n (List.mem_append_left _ hn)⟩,
      fun p hp => hall _ (List.mem_append_right _ (by simpa using ⟨p, hp, rfl⟩))⟩
  · rintro ⟨⟨hnd, hap, hem, hq⟩, hp⟩
    refine ⟨hnd, hap, hem, fun n hn => ?_⟩
    obtain hn | hn := List.mem_append.1 hn
    · exact hq n hn
    · obtain ⟨p, hpp, rfl⟩ : ∃ p, s.planner.plan = some p ∧ p.incident = n := by simpa using hn
      exact hp p hpp

/-! ### Everything that every step keeps -/

/-- The engine's invariants are kept, and the slots are sound afterwards. -/
structure KeepsEngine (s t : State) : Prop where
  slots : t.SlotsSound
  planner : s.PlannerSound → t.PlannerSound
  idle : s.IdleOutsideRun → t.IdleOutsideRun
  regions : s.RegionsDisjoint → t.RegionsDisjoint
  consent : s.ConsentSound → t.ConsentSound
  holders : s.ValvesSound → s.HoldersSound → t.HoldersSound

/-- Every invariant is kept: the blocks' own, and the engine's from sound slots on. -/
structure Keeps (s t : State) : Prop where
  blocks : KeepsBlocks s t
  engine : s.SlotsSound → KeepsEngine s t

theorem KeepsEngine.refl {s : State} (h : s.SlotsSound) : KeepsEngine s s := ⟨h, id, id, id, id, fun _ => id⟩

theorem Keeps.refl (s : State) : Keeps s s := ⟨.refl s, .refl⟩

theorem Keeps.trans {s t u : State} (h : Keeps s t) (h' : Keeps t u) : Keeps s u where
  blocks := h.blocks.trans h'.blocks
  engine hs :=
    have a := h.engine hs
    have b := h'.engine a.slots
    ⟨b.slots, b.planner ∘ a.planner, b.idle ∘ a.idle, b.regions ∘ a.regions, b.consent ∘ a.consent,
      fun hv hh => b.holders (h.blocks.valves hv) (a.holders hv hh)⟩

theorem Keeps.foldl {α : Type} {f : State → α → State} (h : ∀ s x, Keeps s (f s x)) (xs : List α) (s : State) :
    Keeps s (xs.foldl f s) := by
  induction xs generalizing s with
  | nil => exact .refl s
  | cons x xs ih => exact (h s x).trans (ih _)

theorem Keeps.forSlots {f : Nat → Incident → State → State} (h : ∀ k inc s, s.slot k = some inc → Keeps s (f k inc s))
    (s : State) : Keeps s (forSlots f s) :=
  Keeps.foldl (fun s k => by
    split
    · exact h _ _ _ ‹_›
    · exact .refl s) _ _

/-- The planner's invariant depends on its numbers and the slots only. -/
theorem plannerSound_of_eq {s t : State} (hslots : t.engine.slots = s.engine.slots)
    (hqueue : t.planner.queue = s.planner.queue)
    (hplan : t.planner.plan.map (·.incident) = s.planner.plan.map (·.incident)) (h : s.PlannerSound) :
    t.PlannerSound := by
  have hap (u : State) : (∀ p ∈ u.planner.plan, p.incident ∉ u.planner.queue)
      ↔ ∀ n ∈ u.planner.plan.map (·.incident), n ∉ u.planner.queue := by simp
  have hem (u : State) : u.planner.plan = none ↔ u.planner.plan.map (·.incident) = none := by simp
  rw [State.PlannerSound, hap, hem] at h ⊢
  rwa [hqueue, hplan, hslots]

/-- The engine's invariants depend on the slots, the counter, the consent queue, the planner's numbers, the mode and the
holder sets only. -/
theorem KeepsEngine.of_eq {s t : State} (hs : s.SlotsSound) (hslots : t.engine.slots = s.engine.slots)
    (hcounter : t.engine.counter = s.engine.counter) (hconsent : t.engine.consentQueue = s.engine.consentQueue)
    (hqueue : t.planner.queue = s.planner.queue)
    (hplan : t.planner.plan.map (·.incident) = s.planner.plan.map (·.incident))
    (hmode : t.store.mode = s.store.mode) (hv : s.ValvesSound → t.ValvesSound)
    (hh : ∀ v, (t.dyn v).holders ⊆ (s.dyn v).holders) : KeepsEngine s t where
  slots := by rw [State.SlotsSound, hslots, hcounter]; exact hs
  planner := plannerSound_of_eq hslots hqueue hplan
  idle := by rw [State.IdleOutsideRun, State.IdleOutsideRun, hslots, hmode]; exact id
  regions := by
    rw [State.RegionsDisjoint, State.RegionsDisjoint, State.activeIncidents, State.activeIncidents, hslots]; exact id
  consent := by rw [State.ConsentSound, State.ConsentSound, hconsent, hslots]; exact id
  holders hvs hd := by
    rw [holdersSound_iff hs.wf hvs.1] at hd
    rw [holdersSound_iff (by rw [hslots]; exact hs.wf) (hv hvs).1]
    intro v n hn
    have := hd v n (hh v hn)
    simpa only [State.Holds, State.slot, hslots] using this

theorem Quiet.keepsAll {s t : State} (h : Quiet s t) : Keeps s t where
  blocks := h.keeps
  engine hs := .of_eq hs (by rw [h.engine]) (by rw [h.engine]) (by rw [h.engine]) h.planner.1 h.planner.2
    (by rw [h.store]) h.keeps.valves h.holders

/-! ### Records that go on in their slots -/

/-- What a calm operation leaves of an incident: all but its state, between CLOSING and ISOLATED, its excluded list, and its
replan-pending flag, which may be set. -/
structure Incident.Carried (a b : Incident) : Prop where
  eq : b = { a with state := b.state, excluded := b.excluded, replanPending := b.replanPending }
  state : b.state = a.state
    ∨ ((a.state = .closing ∨ a.state = .isolated) ∧ (b.state = .closing ∨ b.state = .isolated))
  pending : a.replanPending = true → b.replanPending = true
  restoring : a.state = .restoring → b = a

namespace Incident.Carried

variable {a b c : Incident}

theorem refl (a : Incident) : a.Carried a := ⟨rfl, .inl rfl, id, fun _ => rfl⟩

theorem number (h : a.Carried b) : b.number = a.number := by rw [h.eq]
theorem region (h : a.Carried b) : b.region = a.region := by rw [h.eq]
theorem boundary (h : a.Carried b) : b.boundary = a.boundary := by rw [h.eq]
theorem restoreList (h : a.Carried b) : b.restoreList = a.restoreList := by rw [h.eq]

theorem trans (h : a.Carried b) (h' : b.Carried c) : a.Carried c where
  eq := by rw [h'.eq, h.eq]
  state := by
    obtain e | ⟨e1, e2⟩ := h'.state
    · rw [e]; exact h.state
    · obtain e' | ⟨e3, -⟩ := h.state
      · exact .inr ⟨e' ▸ e1, e2⟩
      · exact .inr ⟨e3, e2⟩
  pending := h'.pending ∘ h.pending
  restoring hr := by
    have e := h.restoring hr
    rw [h'.restoring (by rw [e]; exact hr), e]

/-- Whether an incident is RESTORING, and so whether it is active, is left. -/
theorem restoring_iff (h : a.Carried b) : b.state = .restoring ↔ a.state = .restoring := by
  obtain e | ⟨e1 | e1, e2 | e2⟩ := h.state
  · rw [e]
  all_goals simp [e1, e2]

theorem await_iff (h : a.Carried b) : b.state = .awaitConsent ↔ a.state = .awaitConsent := by
  obtain e | ⟨e1 | e1, e2 | e2⟩ := h.state
  · rw [e]
  all_goals simp [e1, e2]

theorem active (h : a.Carried b) : b.state.active = a.state.active := by
  obtain e | ⟨e1 | e1, e2 | e2⟩ := h.state
  · rw [e]
  all_goals simp [e1, e2, IncidentState.active]

end Incident.Carried

/-! ### Changes of one slot -/

/-- A slot that holds an incident leaves no state with all slots FREE. -/
theorem slots_ne_nil {s : State} {k : Nat} {inc : Incident} (h : s.slot k = some inc) : s.engine.slots ≠ [] := by
  intro e; simp [State.slot, e] at h

/-- `t` has the slots of `s`, but for a new record of the incident in slot `k`, which keeps its number. -/
structure Rewritten (s t : State) (k : Nat) (old new : Incident) : Prop where
  held : s.slot k = some old
  number : new.number = old.number
  slots : t.engine.slots = Table.put s.engine.slots k new
  counter : t.engine.counter = s.engine.counter
  mode : t.store.mode = s.store.mode

namespace Rewritten

variable {s t : State} {k : Nat} {old new : Incident}

theorem slot (h : Rewritten s t k old new) (j : Nat) : t.slot j = if j = k then some new else s.slot j := by
  rw [State.slot, h.slots, Table.get_put]; rfl

theorem slot_same (h : Rewritten s t k old new) : t.slot k = some new := by rw [h.slot, if_pos rfl]

theorem slot_ne (h : Rewritten s t k old new) {j : Nat} (hj : j ≠ k) : t.slot j = s.slot j := by
  rw [h.slot, if_neg hj]

theorem wf (h : Rewritten s t k old new) (hs : s.SlotsSound) : Table.Wf t.engine.slots := by
  rw [h.slots]; exact Table.wf_put _ _ hs.wf

/-- What a slot held it holds, or it is the one written anew. -/
theorem forward (h : Rewritten s t k old new) {j : Nat} {a : Incident} (hj : s.slot j = some a) :
    (j ≠ k ∧ t.slot j = some a) ∨ (j = k ∧ a = old ∧ t.slot j = some new) := by
  by_cases e : j = k
  · subst e; rw [h.held] at hj; cases hj; exact .inr ⟨rfl, rfl, h.slot_same⟩
  · exact .inl ⟨e, by rw [h.slot_ne e, hj]⟩

theorem backward (h : Rewritten s t k old new) {j : Nat} {b : Incident} (hj : t.slot j = some b) :
    (j ≠ k ∧ s.slot j = some b) ∨ (j = k ∧ b = new ∧ s.slot j = some old) := by
  by_cases e : j = k
  · subst e; rw [h.slot_same] at hj; cases hj; exact .inr ⟨rfl, rfl, h.held⟩
  · exact .inl ⟨e, by rw [← h.slot_ne e, hj]⟩

theorem sound (h : Rewritten s t k old new) (hs : s.SlotsSound) : t.SlotsSound := by
  obtain ⟨-, hrange, hinj, hc, hc'⟩ := slotsSound_iff.1 hs
  have hread : ∀ j a, t.slot j = some a → ∃ b, s.slot j = some b ∧ a.number = b.number := by
    intro j a hj
    obtain ⟨-, hj⟩ | ⟨-, rfl, hj⟩ := h.backward hj
    · exact ⟨a, hj, rfl⟩
    · exact ⟨old, hj, h.number⟩
  refine slotsSound_iff.2 ⟨h.wf hs, fun j a hj => ?_, fun i j a b hi hj hab => ?_, by rwa [h.counter], by rwa [h.counter]⟩
  · obtain ⟨b, hb, e⟩ := hread j a hj
    rw [e, h.counter]; exact hrange j b hb
  · obtain ⟨a', ha, ea⟩ := hread i a hi
    obtain ⟨b', hb, eb⟩ := hread j b hj
    exact hinj i j a' b' ha hb (by rw [← ea, ← eb, hab])

theorem idle (h : Rewritten s t k old new) (hi : s.IdleOutsideRun) : t.IdleOutsideRun := fun hm =>
  absurd (hi (h.mode ▸ hm)) (slots_ne_nil h.held)

/-- The regions stay disjoint when the new record's region is, being active. -/
theorem regions (h : Rewritten s t k old new) (hs : s.SlotsSound) (hr : s.RegionsDisjoint)
    (hnew : new.state.active = true → new.region.Nodup
      ∧ ∀ j a, j ≠ k → s.slot j = some a → a.state.active = true → List.Disjoint new.region a.region) :
    t.RegionsDisjoint := by
  rw [regionsDisjoint_iff hs] at hr
  rw [regionsDisjoint_iff (h.sound hs)]
  refine ⟨fun j b hj hb => ?_, fun i j a b hij hi hj ha hb => ?_⟩
  · obtain ⟨-, hj⟩ | ⟨-, rfl, -⟩ := h.backward hj
    · exact hr.1 j b hj hb
    · exact (hnew hb).1
  · obtain ⟨-, hi⟩ | ⟨rfl, rfl, -⟩ := h.backward hi <;> obtain ⟨hjk, hj⟩ | ⟨rfl, rfl, -⟩ := h.backward hj
    · exact hr.2 i j a b hij hi hj ha hb
    · exact ((hnew hb).2 i a hij hi ha).symm
    · exact (hnew ha).2 j b hjk hj hb
    · exact absurd rfl hij

/-- An incident that keeps its region, and is active only if it was, keeps the regions disjoint. -/
theorem regions_same (h : Rewritten s t k old new) (hs : s.SlotsSound) (hregion : new.region = old.region)
    (hactive : new.state.active = true → old.state.active = true) (hr : s.RegionsDisjoint) : t.RegionsDisjoint := by
  refine h.regions hs hr fun ha => ?_
  rw [regionsDisjoint_iff hs] at hr
  rw [hregion]
  exact ⟨hr.1 k old h.held (hactive ha), fun j a hj hja haa => hr.2 k j old a hj.symm h.held hja (hactive ha) haa⟩

/-- The consent queue, unchanged, fits an incident that is in AWAIT_CONSENT exactly when it was. -/
theorem consent_same (h : Rewritten s t k old new) (hs : s.SlotsSound)
    (hq : t.engine.consentQueue = s.engine.consentQueue) (haw : new.state = .awaitConsent ↔ old.state = .awaitConsent)
    (hc : s.ConsentSound) : t.ConsentSound := by
  obtain ⟨hnd, hin, hout⟩ := (consentSound_iff hs.wf).1 hc
  rw [consentSound_iff (h.wf hs), hq]
  refine ⟨hnd, fun n hn => ?_, fun j b hj hb => ?_⟩
  · obtain ⟨j, a, hj, ha, haa⟩ := hin n hn
    obtain ⟨-, hj⟩ | ⟨-, rfl, hj⟩ := h.forward hj
    · exact ⟨j, a, hj, ha, haa⟩
    · exact ⟨j, new, hj, h.number.trans ha, haw.2 haa⟩
  · obtain ⟨-, hj⟩ | ⟨-, rfl, hj⟩ := h.backward hj
    · exact hout j b hj hb
    · rw [h.number]; exact hout j old hj (haw.1 hb)

/-- 03 R66: an incident that leaves AWAIT_CONSENT, or was not in it, has left the consent queue. -/
theorem consent_left (h : Rewritten s t k old new) (hs : s.SlotsSound)
    (hq : t.engine.consentQueue = s.engine.consentQueue.filter (· != old.number)) (haw : new.state ≠ .awaitConsent)
    (hc : s.ConsentSound) : t.ConsentSound := by
  obtain ⟨hnd, hin, hout⟩ := (consentSound_iff hs.wf).1 hc
  rw [consentSound_iff (h.wf hs), hq]
  refine ⟨hnd.filter _, fun n hn => ?_, fun j b hj hb => ?_⟩
  · obtain ⟨hn, hne⟩ := List.mem_filter.1 hn
    obtain ⟨j, a, hj, ha, haa⟩ := hin n hn
    obtain ⟨-, hj⟩ | ⟨-, rfl, hj⟩ := h.forward hj
    · exact ⟨j, a, hj, ha, haa⟩
    · simp [ha] at hne
  · obtain ⟨hjk, hj⟩ | ⟨-, rfl, -⟩ := h.backward hj
    · refine List.mem_filter.2 ⟨hout j b hj hb, ?_⟩
      simpa using fun e => hjk (hs.slot_inj hj h.held e)
    · exact absurd hb haw

/-- The planner, with the numbers it had, is sound while the incident does not become RESTORING. -/
theorem planner_same (h : Rewritten s t k old new) (hs : s.SlotsSound) (hqueue : t.planner.queue = s.planner.queue)
    (hplan : t.planner.plan.map (·.incident) = s.planner.plan.map (·.incident))
    (hrest : new.state = .restoring → old.state = .restoring) (hp : s.PlannerSound) : t.PlannerSound := by
  have hplannable : ∀ n, s.Plannable n → t.Plannable n := by
    rintro n ⟨j, a, hj, hn, hr⟩
    obtain ⟨-, hj⟩ | ⟨-, rfl, hj⟩ := h.forward hj
    · exact ⟨j, a, hj, hn, hr⟩
    · exact ⟨j, new, hj, h.number.trans hn, fun e => hr (hrest e)⟩
  obtain ⟨hq, hpl⟩ := (plannerSound_iff hs.wf).1 hp
  refine plannerSound_of_eq (s := { t with planner := s.planner }) rfl hqueue hplan ?_
  exact (plannerSound_iff (by exact h.wf hs)).2
    ⟨⟨hq.nodup, hq.apart, hq.empty, fun n hn => hplannable n (hq.queued n hn)⟩, fun p hp => hplannable _ (hpl p hp)⟩

/-- No holder set gains a number, and an incident that is RESTORING afterwards was and keeps its restore list. -/
theorem holders_same (h : Rewritten s t k old new) (hs : s.SlotsSound) (hv : Table.Wf s.drive.valves)
    (hv' : Table.Wf t.drive.valves) (hh : ∀ v, (t.dyn v).holders ⊆ (s.dyn v).holders)
    (hrest : new.state = .restoring → old.state = .restoring ∧ new.restoreList = old.restoreList)
    (hd : s.HoldersSound) : t.HoldersSound := by
  rw [holdersSound_iff hs.wf hv] at hd
  rw [holdersSound_iff (h.wf hs) hv']
  intro v n hn
  obtain ⟨j, a, hj, ha, hr⟩ := hd v n (hh v hn)
  obtain ⟨-, hj⟩ | ⟨-, rfl, hj⟩ := h.forward hj
  · exact ⟨j, a, hj, ha, hr⟩
  · exact ⟨j, new, hj, h.number.trans ha, fun e => (hrest e).2 ▸ hr (hrest e).1⟩

end Rewritten

theorem rewritten_putSlot {s : State} {k : Nat} {old new : Incident} (hk : s.slot k = some old)
    (hn : new.number = old.number) : Rewritten s (putSlot k new s) k old new :=
  ⟨hk, hn, rfl, rfl, rfl⟩

/-- An incident that is carried on in its slot keeps the engine's invariants. -/
theorem keeps_putSlot {s : State} {k : Nat} {old new : Incident} (hk : s.slot k = some old) (hc : old.Carried new) :
    Keeps s (putSlot k new s) where
  blocks := .of_eq rfl rfl rfl rfl rfl rfl rfl rfl
  engine hs :=
    have h := rewritten_putSlot hk hc.number
    { slots := h.sound hs
      planner := h.planner_same hs rfl rfl hc.restoring_iff.1
      idle := h.idle
      regions := h.regions_same hs hc.region (by rw [hc.active]; exact id)
      consent := h.consent_same hs rfl hc.await_iff
      holders := fun hv => h.holders_same hs hv.1 hv.1 (fun _ => List.Subset.refl _)
        fun e => ⟨hc.restoring_iff.1 e, hc.restoreList⟩ }

/-! ### Plan requests -/

/-- An incident found by its number stands in its slot. -/
theorem slot_of_incident {s : State} (h : Table.Wf s.engine.slots) {n k : Nat} {inc : Incident}
    (hi : s.incident n = some (k, inc)) : s.slot k = some inc ∧ inc.number = n := by
  have hm := List.mem_of_find?_eq_some hi
  have hp := List.find?_some hi
  exact ⟨Table.get_of_mem h hm, by simpa using hp⟩

/-- An incident in its slot is found by its number. -/
theorem incident_of_slot {s : State} (h : s.SlotsSound) {k : Nat} {inc : Incident} (hk : s.slot k = some inc) :
    s.incident inc.number = some (k, inc) := by
  cases hf : s.incident inc.number with
  | none =>
    have := List.find?_eq_none.1 hf (k, inc) (Table.mem_of_get hk)
    simp at this
  | some e =>
    obtain ⟨j, x⟩ := e
    obtain ⟨hj, hn⟩ := slot_of_incident h.wf hf
    have : j = k := h.slot_inj hj hk hn
    subst this; rw [hk] at hj; cases hj; rfl

/-- Only the planner has changed, and it is sound. -/
theorem keeps_planner {s : State} {p : Planner}
    (h : Table.Wf s.engine.slots → s.PlannerSound → { s with planner := p }.PlannerSound) :
    Keeps s { s with planner := p } :=
  ⟨.of_eq rfl rfl rfl rfl rfl rfl rfl rfl, fun hs => ⟨hs, h hs.wf, id, id, id, fun _ => id⟩⟩

theorem startNext_of_plan {recorded : Nat → List Nat} {p : Planner} {x : PlanInProgress} (h : p.plan = some x) :
    p.startNext recorded = p := by
  simp [Planner.startNext, h]

theorem startNext_of_empty {recorded : Nat → List Nat} {p : Planner} (h : p.queue = []) :
    p.startNext recorded = p := by
  cases hp : p.plan <;> simp [Planner.startNext, h, hp]

theorem startNext_cons {recorded : Nat → List Nat} {p : Planner} {n : Nat} {rest : List Nat} (h : p.plan = none)
    (hq : p.queue = n :: rest) : p.startNext recorded = ⟨rest, some (newPlan n (recorded n))⟩ := by
  simp [Planner.startNext, h, hq]

/-- 02 R26: once the plan in progress is gone, going on by the queue gives a sound planner. -/
theorem plannerSound_startNext {s : State} (h : Table.Wf s.engine.slots) (recorded : Nat → List Nat)
    (hnone : s.planner.plan = none) (hnd : s.planner.queue.Nodup) (hq : ∀ n ∈ s.planner.queue, s.Plannable n) :
    { s with planner := s.planner.startNext recorded }.PlannerSound := by
  rw [plannerSound_iff (by exact h)]
  cases hqueue : s.planner.queue with
  | nil =>
    rw [startNext_of_empty hqueue]
    exact ⟨⟨hnd, by simp [hnone], fun _ => hqueue, hq⟩, by simp [hnone]⟩
  | cons n rest =>
    rw [startNext_cons hnone hqueue]
    rw [hqueue] at hnd hq
    refine ⟨⟨(List.nodup_cons.1 hnd).2, ?_, by simp, fun m hm => hq m (List.mem_cons_of_mem _ hm)⟩, ?_⟩
    · rintro p ⟨⟩; exact (List.nodup_cons.1 hnd).1
    · rintro p ⟨⟩; exact hq n List.mem_cons_self

/-- 02 R25: what a plan request can do: nothing, mark the incident's own plan stale, or join the queue and go on. -/
theorem planRequest_cases (n : Nat) (s : State) :
    planRequest n s = s ∨ planRequest n s = markStaleFor n s
      ∨ ∃ k inc, s.incident n = some (k, inc) ∧ inc.state ≠ .restoring
          ∧ (∀ p ∈ s.planner.plan, p.incident ≠ n) ∧ n ∉ s.planner.queue
          ∧ planRequest n s = startNextPlan { s with planner := { s.planner with queue := s.planner.queue ++ [n] } } := by
  unfold planRequest
  split
  · exact .inl rfl
  · next k inc hi =>
    split
    · exact .inl rfl
    · next hr =>
      split
      · exact .inr (.inl rfl)
      · next hp =>
        split
        · exact .inl rfl
        · next hq => exact .inr (.inr ⟨k, inc, hi, hr, fun p hpp e => hp (by simp [Option.mem_def.1 hpp, e]), by simpa using hq, rfl⟩)

/-- A plan request changes the planner only. -/
theorem planRequest_only (n : Nat) (s : State) : planRequest n s = { s with planner := (planRequest n s).planner } := by
  obtain e | e | ⟨_, _, _, _, _, _, e⟩ := planRequest_cases n s <;> rw [e] <;> rfl

/-- A plan request keeps the planner's queue sound, whatever incident the plan in progress is for. -/
theorem State.PlanQueueSound.planRequest {s : State} (hs : Table.Wf s.engine.slots) (h : s.PlanQueueSound) {p : PlanInProgress}
    (hp : s.planner.plan = some p) (n : Nat) :
    (planRequest n s).PlanQueueSound ∧ (Machine.planRequest n s).planner.plan.map (·.incident) = some p.incident := by
  obtain e | e | ⟨k, inc, hi, hr, hap, hq, e⟩ := planRequest_cases n s
  · rw [e]; exact ⟨h, by simp [hp]⟩
  · rw [e]
    refine ⟨⟨h.nodup, ?_, by simp [markStaleFor, hp], h.queued⟩, ?_⟩
    · have := h.apart p hp
      simp only [markStaleFor, hp, Option.map_some, Option.mem_def, Option.some.injEq, forall_eq']
      split <;> exact this
    · simp only [markStaleFor, hp, Option.map_some]; split <;> rfl
  · obtain ⟨hk, hn⟩ := slot_of_incident hs hi
    have hself : Machine.planRequest n s = { s with planner := { s.planner with queue := s.planner.queue ++ [n] } } := by
      rw [e, startNextPlan, startNext_of_plan (by exact hp)]
    rw [hself]
    refine ⟨⟨?_, ?_, by simp [hp], ?_⟩, by simp [hp]⟩
    · exact List.nodup_append.2 ⟨h.nodup, List.nodup_singleton n, fun a ha b hb e => hq (List.mem_singleton.1 hb ▸ e ▸ ha)⟩
    · intro q hpq
      simp only [List.mem_append, List.mem_singleton, not_or]
      exact ⟨h.apart q hpq, hap q hpq⟩
    · intro m hm
      obtain hm | hm := List.mem_append.1 hm
      · exact h.queued m hm
      · rw [List.mem_singleton.1 hm]; exact ⟨k, inc, hk, hn, hr⟩

theorem keeps_planRequest (n : Nat) (s : State) : Keeps s (planRequest n s) := by
  rw [planRequest_only]
  refine keeps_planner fun hs hp => ?_
  rw [← planRequest_only]
  cases hplan : s.planner.plan with
  | some p =>
    obtain ⟨hq, hpl⟩ := (plannerSound_iff hs).1 hp
    obtain ⟨hq', hsame⟩ := hq.planRequest hs hplan n
    have hslots : (planRequest n s).engine = s.engine := by rw [planRequest_only]
    refine (plannerSound_iff (by rw [hslots]; exact hs)).2 ⟨hq', fun q hq => ?_⟩
    rw [Option.mem_def.1 hq] at hsame
    have : q.incident = p.incident := by simpa using hsame
    rw [this]
    simpa only [State.Plannable, State.slot, hslots] using hpl p hplan
  | none =>
    obtain e | e | ⟨k, inc, hi, hr, -, -, e⟩ := planRequest_cases n s
    · rw [e]; exact hp
    · rw [e, markStaleFor, hplan, Option.map_none, ← hplan]; exact hp
    · obtain ⟨hk, hn⟩ := slot_of_incident hs hi
      have hempty := hp.2.2.1 hplan
      rw [e]
      refine plannerSound_startNext (s := { s with planner := { s.planner with queue := s.planner.queue ++ [n] } }) hs _
        hplan (by simp [hempty]) ?_
      simp only [hempty, List.nil_append, List.mem_singleton]
      rintro m rfl
      exact ⟨k, inc, hk, hn, hr⟩

/-! ### Hold orders -/

theorem mem_insertAscending {n m : Nat} {ns : List Nat} : m ∈ insertAscending n ns ↔ m = n ∨ m ∈ ns := by
  induction ns with
  | nil => simp [insertAscending]
  | cons a ns ih =>
    simp only [insertAscending]
    split
    · simp
    · split
      · subst_vars; simp
      · simp only [List.mem_cons, ih]; tauto

theorem pairwise_insertAscending {n : Nat} {ns : List Nat} (h : ns.Pairwise (· < ·)) :
    (insertAscending n ns).Pairwise (· < ·) := by
  induction ns with
  | nil => simp [insertAscending]
  | cons a ns ih =>
    obtain ⟨ha, hp⟩ := List.pairwise_cons.1 h
    simp only [insertAscending]
    split
    · next hna =>
      refine List.pairwise_cons.2 ⟨fun m hm => ?_, h⟩
      obtain rfl | hm := List.mem_cons.1 hm
      · exact hna
      · exact hna.trans (ha m hm)
    · split
      · subst_vars; exact h
      · refine List.pairwise_cons.2 ⟨fun m hm => ?_, ih hp⟩
        obtain rfl | hm := mem_insertAscending.1 hm
        · omega
        · exact ha m hm

/-- A change of holder sets alone, by numbers that the engine has. -/
theorem keeps_holders {s : State} {v : Nat} {f : ValveDyn → ValveDyn} (hsound : ∀ d, d.Sound → (f d).Sound)
    (hh : s.SlotsSound → ∀ n ∈ (f (s.dyn v)).holders, n ∈ (s.dyn v).holders ∨ s.Holds v n) :
    Keeps s (onDyn v f s) := by
  have hblocks : KeepsBlocks s (onDyn v f s) :=
    { KeepsBlocks.refl s with valves := fun hs => hs.setDyn v (hsound _ (hs.dyn v)) }
  refine ⟨hblocks, fun hs => ⟨hs, id, id, id, id, fun hv hd => ?_⟩⟩
  rw [holdersSound_iff hs.wf hv.1] at hd
  rw [holdersSound_iff (s := onDyn v f s) hs.wf (hblocks.valves hv).1]
  intro u n hn
  rw [dyn_onDyn] at hn
  split at hn
  · next e =>
    subst e
    obtain hn | hn := hh hs n hn
    · exact hd u n hn
    · exact hn
  · exact hd u n hn

/-! ### Calm operations -/

/-- What the valve drive and the notices that it hands on do: quiet operations, incidents carried on in their slots, plan
requests, and hold orders of incidents that are not RESTORING. -/
inductive Calm : State → State → Prop where
  | quiet {s t : State} : Quiet s t → Calm s t
  | trans {s t u : State} : Calm s t → Calm t u → Calm s u
  | slot {s : State} {k : Nat} {old new : Incident} : s.slot k = some old → old.Carried new → Calm s (putSlot k new s)
  | planRequest (n : Nat) (s : State) : Calm s (planRequest n s)
  | hold {s : State} (v : Nat) {n k : Nat} {inc : Incident} : s.slot k = some inc → inc.number = n →
      inc.state ≠ .restoring → Calm s (onDyn v (fun d => { d with holders := insertAscending n d.holders }) s)

namespace Calm

variable {s t : State}

theorem refl (s : State) : Calm s s := .quiet (.refl s)

/-- Every invariant is kept. -/
theorem keeps (h : Calm s t) : Keeps s t := by
  induction h with
  | quiet h => exact h.keepsAll
  | trans _ _ ih ih' => exact ih.trans ih'
  | slot hk hc => exact keeps_putSlot hk hc
  | planRequest n s => exact keeps_planRequest n s
  | hold v hk hn hr =>
    refine keeps_holders (fun d hd => ⟨hd.1, pairwise_insertAscending hd.2⟩) fun _ m hm => ?_
    obtain rfl | hm := mem_insertAscending.1 hm
    · exact .inr ⟨_, _, hk, hn, fun e => absurd e hr⟩
    · exact .inl hm

/-- The fields that no calm operation writes. -/
theorem fields (h : Calm s t) :
    t.store = s.store ∧ t.map = s.map ∧ t.alarms = s.alarms ∧ t.link = s.link ∧ t.elapsed = s.elapsed
      ∧ t.pending = s.pending ∧ t.engine = { s.engine with slots := t.engine.slots } := by
  induction h with
  | quiet h =>
    obtain ⟨e1, e2, e3, e4, e5, e6, e7⟩ := h.fields
    exact ⟨e2, e3, e4, e5, e6, e7, by rw [e1]⟩
  | trans _ _ ih ih' =>
    obtain ⟨e1, e2, e3, e4, e5, e6, e7⟩ := ih
    obtain ⟨f1, f2, f3, f4, f5, f6, f7⟩ := ih'
    exact ⟨f1.trans e1, f2.trans e2, f3.trans e3, f4.trans e4, f5.trans e5, f6.trans e6, by rw [f7, e7]⟩
  | planRequest n s => rw [planRequest_only]; exact ⟨rfl, rfl, rfl, rfl, rfl, rfl, rfl⟩
  | _ => exact ⟨rfl, rfl, rfl, rfl, rfl, rfl, rfl⟩

/-- Every slot goes on with its incident, or stays FREE. -/
theorem slots (h : Calm s t) (k : Nat) :
    (∀ a, s.slot k = some a → ∃ b, t.slot k = some b ∧ a.Carried b) ∧ (s.slot k = none → t.slot k = none) := by
  induction h with
  | quiet h => rw [h.slot]; exact ⟨fun a ha => ⟨a, ha, .refl a⟩, id⟩
  | trans _ _ ih ih' =>
    refine ⟨fun a ha => ?_, fun hn => ih'.2 (ih.2 hn)⟩
    obtain ⟨b, hb, hab⟩ := ih.1 a ha
    obtain ⟨c, hc, hbc⟩ := ih'.1 b hb
    exact ⟨c, hc, hab.trans hbc⟩
  | @slot s j old new hk hc =>
    rw [slot_putSlot]
    split
    · next e =>
      subst e
      exact ⟨fun a ha => ⟨new, rfl, by rw [hk] at ha; cases ha; exact hc⟩, fun hn => by rw [hk] at hn; cases hn⟩
    · exact ⟨fun a ha => ⟨a, ha, .refl a⟩, id⟩
  | planRequest n s =>
    rw [planRequest_only]; exact ⟨fun a ha => ⟨a, ha, .refl a⟩, id⟩
  | hold => exact ⟨fun a ha => ⟨a, ha, .refl a⟩, id⟩

/-- Reports are only added, and the time base stays. -/
theorem reports (h : Calm s t) : s.reports.queue <+: t.reports.queue ∧ t.reports.timeBase = s.reports.timeBase := by
  induction h with
  | quiet h => exact h.reports
  | trans _ _ ih ih' => exact ⟨ih.1.trans ih'.1, ih'.2.trans ih.2⟩
  | planRequest n s => rw [planRequest_only]; exact ⟨List.prefix_refl _, rfl⟩
  | _ => exact ⟨List.prefix_refl _, rfl⟩

theorem foldl {α : Type} {f : State → α → State} (h : ∀ s x, Calm s (f s x)) (xs : List α) (s : State) :
    Calm s (xs.foldl f s) := by
  induction xs generalizing s with
  | nil => exact .refl s
  | cons x xs ih => exact (h s x).trans (ih _)

theorem forSlots {f : Nat → Incident → State → State} (h : ∀ k inc s, s.slot k = some inc → Calm s (f k inc s))
    (s : State) : Calm s (forSlots f s) :=
  Calm.foldl (fun s k => by
    split
    · exact h _ _ _ ‹_›
    · exact .refl s) _ _

theorem raise (k : ReportKind) (x : Subject) (d : Nat) (vs : List (Option Nat)) (s : State) :
    Calm s (raise k x d vs s) := .quiet (.raise _ _ _ _ _)

end Calm

/-! ### Notices -/

/-- 03 R62, R63: an incident to be replanned, with its excluded list as it may have grown. -/
theorem calm_requestReplan {s : State} {k : Nat} {old : Incident} (hk : s.slot k = some old) (hr : old.state ≠ .restoring)
    (excluded : List Nat) : Calm s (requestReplan k { old with excluded := excluded } s) :=
  (Calm.slot (new := { old with excluded := excluded, replanPending := true }) hk
    ⟨rfl, .inl rfl, fun _ => rfl, fun e => absurd e hr⟩).trans (.planRequest _ _)

theorem reliesOn_not_restoring {inc : Incident} {v : Nat} {holders : List Nat} (h : inc.reliesOn v holders = true) :
    inc.state ≠ .restoring := by
  intro e; simp [Incident.reliesOn, e] at h

theorem calm_replanRequest (v : Nat) (s : State) : Calm s (replanRequest v s) :=
  Calm.forSlots (fun k inc s hk => by
    split
    · exact calm_requestReplan hk (reliesOn_not_restoring ‹_›) inc.excluded
    · exact .refl s) s

/-- 03 R54: an incident passes between CLOSING and ISOLATED. -/
theorem calm_enterState {s : State} {k : Nat} {inc : Incident} (hk : s.slot k = some inc)
    (ho : inc.state = .closing ∨ inc.state = .isolated) {new : IncidentState} (hn : new = .closing ∨ new = .isolated) :
    Calm s (enterState k new s) := by
  simp only [enterState, hk]
  split
  · exact .refl s
  · refine (Calm.slot (new := { inc with state := new }) hk ⟨rfl, .inr ⟨ho, hn⟩, id, fun e => ?_⟩).trans
      (Calm.raise _ _ _ _ _)
    rw [e] at ho; simp at ho

theorem calm_isolationTest (k : Nat) (s : State) : Calm s (isolationTest k s) := by
  unfold isolationTest; split
  · next inc hk =>
    split
    · next h => exact calm_enterState hk (.inl h.1) (.inr rfl)
    · exact .refl s
  · exact .refl s

theorem calm_confirmedNotice (v : Nat) (b : Bool) (s : State) : Calm s (confirmedNotice v b s) :=
  Calm.forSlots (fun k inc s hk => by
    split
    · exact .refl s
    · split
      · exact calm_isolationTest k s
      · split
        · next h => exact calm_enterState hk (.inr h) (.inl rfl)
        · exact .refl s) s

theorem calm_failUnreachable (v : Nat) (s : State) : Calm s (failUnreachable v s) :=
  (Calm.quiet ((quiet_tellUnreachable v true s).trans (quiet_raiseFailed _ _ _ _))).trans (calm_replanRequest _ _)

theorem calm_setConfirmed (v : Nat) (b : Bool) (s : State) : Calm s (setConfirmed v b s) := by
  unfold setConfirmed; split
  · exact .refl s
  · have hmark : Calm s (markStale (writeConfirmed v b s)) :=
      .quiet ((quiet_writeConfirmed v b s).trans (quiet_markStale _))
    generalize markStale (writeConfirmed v b s) = u at hmark
    dsimp only
    generalize (!b && (u.dyn v).move.isNone && !(u.dyn v).holders.isEmpty) = lost
    have hnotice : Calm u (confirmedNotice v b (if lost then raiseOffNormal v reopened u else u)) := by
      refine Calm.trans ?_ (calm_confirmedNotice _ _ _)
      split
      · exact .quiet (quiet_raiseOffNormal _ _ _)
      · exact .refl u
    generalize confirmedNotice v b (if lost then raiseOffNormal v reopened u else u) = w at hnotice ⊢
    have hw := hmark.trans hnotice
    split
    · exact hw.trans (calm_failUnreachable _ _)
    · exact hw

theorem calm_failedMove (v : Nat) (m : Move) (detail : Nat) (s : State) : Calm s (failedMove v m detail s) := by
  unfold failedMove; dsimp only; split
  · exact (Calm.quiet (quiet_raiseFailed _ _ _ _)).trans (calm_replanRequest _ _)
  · exact .quiet (quiet_raiseFailed _ _ _ _)

/-! ### Judging a good reply -/

theorem calm_torqueTrip (v : Nat) (p : ActuatedPart) (m : Move) (s : State) : Calm s (torqueTrip v p m s) := by
  unfold torqueTrip; split
  · exact .quiet (((quiet_setMotion v .backoff s).trans (quiet_onMove _ _ _)).trans (quiet_issueUntimed _ _ _ _ _))
  · exact (Calm.quiet ((quiet_setOperability v .inoperable s).trans (quiet_endMove _ _ _))).trans (calm_failedMove _ _ _ _)

theorem calm_judgeHolding (v : Nat) (p : ActuatedPart) (m : Move) (r : ChannelReport) (x : Reading) (s : State) :
    Calm s (judgeHolding v p m r x s) := by
  unfold judgeHolding; dsimp only; split
  · split
    · exact (Calm.quiet (quiet_onMove _ _ _)).trans (calm_torqueTrip _ _ _ _)
    · exact .quiet ((quiet_onMove _ _ _).trans (quiet_endHold _ _ _ _ _))
  · exact .quiet (quiet_onMove _ _ _)

theorem calm_judgeClosing (v : Nat) (p : ActuatedPart) (m : Move) (r : ChannelReport) (x : Reading) (s : State) :
    Calm s (judgeClosing v p m r x s) := by
  unfold judgeClosing
  split
  · exact calm_torqueTrip _ _ _ _
  split
  · exact .quiet (quiet_completeClosing _ _ _ _)
  split
  · exact .quiet (quiet_holdMove _ _ _ _ _)
  split
  · exact .quiet (quiet_resumeClosing _ _ _ _)
  split
  · exact .quiet (quiet_changeBand _ _ _)
  · exact .refl s

theorem calm_judgeBackoff (v : Nat) (p : ActuatedPart) (m : Move) (r : ChannelReport) (s : State) :
    Calm s (judgeBackoff v p m r s) := by
  unfold judgeBackoff
  split
  · exact calm_torqueTrip _ _ _ _
  split
  · exact .quiet (quiet_endBackoff _ _ _ _)
  split
  · exact .quiet (quiet_reissueBackoff _ _ _ _)
  · exact .refl s

theorem calm_judgeCharging (v : Nat) (p : ActuatedPart) (m : Move) (r : ChannelReport) (s : State) :
    Calm s (judgeCharging v p m r s) := by
  unfold judgeCharging
  split
  · exact calm_torqueTrip _ _ _ _
  split
  · exact .quiet (quiet_completeCharge _ _ _)
  split
  · exact .quiet (quiet_driveOpening _ _ _)
  · exact .refl s

theorem calm_judgeOpening (v : Nat) (p : ActuatedPart) (m : Move) (r : ChannelReport) (s : State) :
    Calm s (judgeOpening v p m r s) := by
  unfold judgeOpening
  split
  · exact calm_torqueTrip _ _ _ _
  split
  · exact .quiet (quiet_completeOpening _ _ _ _)
  split
  · exact .quiet (quiet_driveOpening _ _ _)
  · exact .refl s

theorem calm_judgeMove (v : Nat) (p : ActuatedPart) (r : ChannelReport) (x : Reading) (s : State) :
    Calm s (judgeMove v p r x s) := by
  unfold judgeMove
  split
  · exact .refl s
  · split
    · exact calm_judgeClosing _ _ _ _ _ _
    · exact calm_judgeClosing _ _ _ _ _ _
    · exact calm_judgeHolding _ _ _ _ _ _
    · exact calm_judgeBackoff _ _ _ _ _
    · exact calm_judgeCharging _ _ _ _ _
    · exact calm_judgeOpening _ _ _ _ _
    all_goals exact .refl s

theorem calm_takeReport (v : Nat) (p : ActuatedPart) {r : ChannelReport} (hr : r.position.getD 0 ≤ 1000) (x : Reading)
    (s : State) : Calm s (takeReport v p r x s) := by
  unfold takeReport; dsimp only
  refine Calm.trans ?_ (calm_judgeMove _ _ _ _ _)
  split
  · exact (Calm.quiet (quiet_setPosition v hr s)).trans (calm_setConfirmed _ _ _)
  · exact .quiet (quiet_setPosition v hr s)

theorem calm_secondExpiry (v : Nat) (p : ActuatedPart) (m : Move) (s : State) : Calm s (secondExpiry v p m s) :=
  (Calm.quiet ((((quiet_setOperability v .inoperable s).trans (.takeSerial _)).trans (quiet_offerOnce _ _ _)).trans
    (quiet_clearMove _ _))).trans (calm_failedMove _ _ _ _)

/-! ### Holders and reachability -/

theorem calm_holdOrder {s : State} {n k : Nat} {inc : Incident} (hk : s.slot k = some inc) (hn : inc.number = n)
    (hr : inc.state ≠ .restoring) (v : Nat) : Calm s (holdOrder n s v) := by
  unfold holdOrder; split
  · exact .refl s
  · have h := (Calm.hold v hk hn hr).trans (.quiet (quiet_markStaleForOthers n _))
    dsimp only; split
    · exact h.trans (.quiet (quiet_firstHold _ _ _))
    · exact h

theorem calm_holdBoundary {s : State} {inc stored : Incident} {k : Nat} (hk : s.slot k = some stored)
    (hn : stored.number = inc.number) (hr : stored.state ≠ .restoring) : Calm s (holdBoundary inc s) := by
  unfold holdBoundary
  generalize inc.boundary = vs
  induction vs generalizing s with
  | nil => exact .refl s
  | cons v vs ih =>
    refine (calm_holdOrder hk hn hr v).trans (ih ?_)
    rw [State.slot, engine_holdOrder]; exact hk

theorem calm_becomeUnreachable (v : Nat) (p : ActuatedPart) (s : State) : Calm s (becomeUnreachable v p s) := by
  unfold becomeUnreachable; split
  · exact (Calm.quiet ((quiet_tellUnreachable _ _ _).trans (quiet_endMove _ _ _))).trans (calm_failedMove _ _ _ _)
  · split
    · exact calm_failUnreachable _ _
    · exact .quiet (quiet_tellUnreachable _ _ _)

theorem calm_handReach (l : Line) (before s : State) : Calm s (handReach l before s) :=
  Calm.foldl (fun s e => by
    split
    · exact .refl s
    · split
      · exact .quiet (quiet_markStale s)
      · exact (Calm.quiet (quiet_markStale s)).trans (calm_becomeUnreachable _ _ _)) _ _

end Sys2Proof.Machine
end

section
/-! PROOFS. What the incident engine does keeps every invariant: restores, the entry into CLOSING, the consent queue,
publication, declarations and the end of incidents. -/

namespace Sys2Proof.Machine

open Sys2Proof

/-! ### Slots that become FREE -/

/-- `t` has the slots of `s`, but for slot `k`, which is FREE now; the number of its incident has left the consent queue. -/
structure Freed (s t : State) (k : Nat) (old : Incident) : Prop where
  held : s.slot k = some old
  slots : t.engine.slots = Table.erase s.engine.slots k
  counter : t.engine.counter = s.engine.counter
  mode : t.store.mode = s.store.mode

namespace Freed

variable {s t : State} {k : Nat} {old : Incident}

theorem slot (h : Freed s t k old) (j : Nat) : t.slot j = if j = k then none else s.slot j := by
  rw [State.slot, h.slots, Table.get_erase]; rfl

theorem slot_ne (h : Freed s t k old) {j : Nat} (hj : j ≠ k) : t.slot j = s.slot j := by rw [h.slot, if_neg hj]

theorem wf (h : Freed s t k old) (hs : s.SlotsSound) : Table.Wf t.engine.slots := by
  rw [h.slots]; exact Table.wf_erase _ hs.wf

theorem backward (h : Freed s t k old) {j : Nat} {b : Incident} (hj : t.slot j = some b) : j ≠ k ∧ s.slot j = some b := by
  by_cases e : j = k
  · rw [h.slot, if_pos e] at hj; cases hj
  · exact ⟨e, by rw [← h.slot_ne e, hj]⟩

theorem sound (h : Freed s t k old) (hs : s.SlotsSound) : t.SlotsSound := by
  obtain ⟨-, hrange, hinj, hc, hc'⟩ := slotsSound_iff.1 hs
  refine slotsSound_iff.2 ⟨h.wf hs, fun j a hj => ?_, fun i j a b hi hj hab => ?_, by rwa [h.counter], by rwa [h.counter]⟩
  · rw [h.counter]; exact hrange j a (h.backward hj).2
  · exact hinj i j a b (h.backward hi).2 (h.backward hj).2 hab

theorem idle (h : Freed s t k old) (hi : s.IdleOutsideRun) : t.IdleOutsideRun := fun hm =>
  absurd (hi (h.mode ▸ hm)) (slots_ne_nil h.held)

theorem regions (h : Freed s t k old) (hs : s.SlotsSound) (hr : s.RegionsDisjoint) : t.RegionsDisjoint := by
  rw [regionsDisjoint_iff hs] at hr
  rw [regionsDisjoint_iff (h.sound hs)]
  exact ⟨fun j b hj => hr.1 j b (h.backward hj).2,
    fun i j a b hij hi hj => hr.2 i j a b hij (h.backward hi).2 (h.backward hj).2⟩

theorem consent (h : Freed s t k old) (hs : s.SlotsSound)
    (hq : t.engine.consentQueue = s.engine.consentQueue.filter (· != old.number)) (hc : s.ConsentSound) :
    t.ConsentSound := by
  obtain ⟨hnd, hin, hout⟩ := (consentSound_iff hs.wf).1 hc
  rw [consentSound_iff (h.wf hs), hq]
  refine ⟨hnd.filter _, fun n hn => ?_, fun j b hj hb => ?_⟩
  · obtain ⟨hn, hne⟩ := List.mem_filter.1 hn
    obtain ⟨j, a, hj, ha, haa⟩ := hin n hn
    have hjk : j ≠ k := by rintro rfl; rw [h.held] at hj; cases hj; simp [ha] at hne
    exact ⟨j, a, by rw [h.slot_ne hjk, hj], ha, haa⟩
  · obtain ⟨hjk, hj⟩ := h.backward hj
    refine List.mem_filter.2 ⟨hout j b hj hb, ?_⟩
    simpa using fun e => hjk (hs.slot_inj hj h.held e)

/-- An incident not in AWAIT_CONSENT is not in the consent queue. -/
theorem consent_out (h : Freed s t k old) (hs : s.SlotsSound) (hq : t.engine.consentQueue = s.engine.consentQueue)
    (haw : old.state ≠ .awaitConsent) (hc : s.ConsentSound) : t.ConsentSound := by
  refine h.consent hs (hq.trans (List.filter_eq_self.2 fun n hn => ?_).symm) hc
  obtain ⟨j, a, hj, ha, haa⟩ := ((consentSound_iff hs.wf).1 hc).2.1 n hn
  simp only [bne_iff_ne, ne_eq]
  rintro rfl
  obtain rfl := hs.slot_inj hj h.held ha
  rw [h.held] at hj; cases hj; exact haw haa

/-- A plannable incident is, but for the one whose slot is FREE now. -/
theorem plannable (h : Freed s t k old) {n : Nat} (hp : s.Plannable n) (hn : n ≠ old.number) : t.Plannable n := by
  obtain ⟨j, a, hj, ha, hr⟩ := hp
  have hjk : j ≠ k := by rintro rfl; rw [h.held] at hj; cases hj; exact hn ha.symm
  exact ⟨j, a, by rw [h.slot_ne hjk, hj], ha, hr⟩

/-- The planner stays sound when the number that goes is in neither of its places. -/
theorem planner (h : Freed s t k old) (hs : s.SlotsSound) (hqueue : t.planner.queue = s.planner.queue)
    (hplan : t.planner.plan.map (·.incident) = s.planner.plan.map (·.incident))
    (hq : old.number ∉ s.planner.queue) (hpl : ∀ p ∈ s.planner.plan, p.incident ≠ old.number) (hp : s.PlannerSound) :
    t.PlannerSound := by
  obtain ⟨hqs, hps⟩ := (plannerSound_iff hs.wf).1 hp
  refine plannerSound_of_eq (s := { t with planner := s.planner }) rfl hqueue hplan ?_
  exact (plannerSound_iff (by exact h.wf hs)).2
    ⟨⟨hqs.nodup, hqs.apart, hqs.empty, fun n hn => h.plannable (hqs.queued n hn) (fun e => hq (e ▸ hn))⟩,
      fun p hp => h.plannable (hps p hp) (hpl p hp)⟩

theorem holders (h : Freed s t k old) (hs : s.SlotsSound) (hv : Table.Wf s.drive.valves) (hv' : Table.Wf t.drive.valves)
    (hh : ∀ v, (t.dyn v).holders ⊆ (s.dyn v).holders) (hn : ∀ v, old.number ∉ (s.dyn v).holders)
    (hd : s.HoldersSound) : t.HoldersSound := by
  rw [holdersSound_iff hs.wf hv] at hd
  rw [holdersSound_iff (h.wf hs) hv']
  intro v n hnv
  obtain ⟨j, a, hj, ha, hr⟩ := hd v n (hh v hnv)
  have hjk : j ≠ k := by
    rintro rfl; rw [h.held] at hj; cases hj; exact hn v (by rw [ha]; exact hh v hnv)
  exact ⟨j, a, by rw [h.slot_ne hjk, hj], ha, hr⟩

end Freed

theorem freed_freeSlot {s : State} {k : Nat} {old : Incident} (hk : s.slot k = some old) :
    Freed s (freeSlot k s) k old := ⟨hk, rfl, rfl, rfl⟩

/-- The records of the valves by which an incident holds none. -/
theorem not_held_of_heldBy_nil {s : State} {n : Nat} (h : s.heldBy n = []) (v : Nat) :
    n ∉ (s.dyn v).holders := by
  intro hn
  cases hg : Table.get s.drive.valves v with
  | none => simp [State.dyn, hg, blankDyn] at hn
  | some d =>
    have hm : v ∈ s.heldBy n :=
      List.mem_map.2 ⟨(v, d), List.mem_filter.2 ⟨Table.mem_of_get hg, by simpa [State.dyn, hg] using hn⟩, rfl⟩
    rw [h] at hm; cases hm

/-- 04 R90: the valves that an incident holds, read by valve id. -/
theorem mem_heldBy {s : State} {n v : Nat} (hv : Table.Wf s.drive.valves) : v ∈ s.heldBy n ↔ n ∈ (s.dyn v).holders := by
  constructor
  · intro h
    obtain ⟨e, he, rfl⟩ := List.mem_map.1 h
    obtain ⟨hm, hn⟩ := List.mem_filter.1 he
    simpa [State.dyn, Table.get_of_mem hv (k := e.1) (x := e.2) hm] using hn
  · intro h
    cases hg : Table.get s.drive.valves v with
    | none => simp [State.dyn, hg, blankDyn] at h
    | some d =>
      exact List.mem_map.2 ⟨(v, d), List.mem_filter.2 ⟨Table.mem_of_get hg, by simpa [State.dyn, hg] using h⟩, rfl⟩

/-! ### Restores (03 R80, R81) -/

/-- A release order takes the incident's number out of the valve's holder set. -/
theorem not_mem_holders_releaseOrder (v n : Nat) (s : State) : n ∉ ((releaseOrder v n s).dyn v).holders := by
  unfold releaseOrder
  split
  · have hq (u : State) (h : Quiet (markStaleForOthers n
        (onDyn v (fun d => { d with holders := d.holders.filter (· != n) }) s)) u) : n ∉ (u.dyn v).holders := by
      intro hm
      have := h.holders v hm
      simp at this
    dsimp only; split
    · exact hq _ (quiet_releaseLast _ _ _)
    · exact hq _ (quiet_handMove _ _ _)
  · next h => simpa using h

/-- 03 R80: the head of a restore list is released. -/
theorem keeps_popRestore {s : State} {k v : Nat} {old : Incident} {rest : List Nat} (hk : s.slot k = some old)
    (hr : old.state = .restoring) (hl : old.restoreList = v :: rest) :
    Keeps s (releaseOrder v old.number (putSlot k { old with restoreList := rest } s)) := by
  have h := rewritten_putSlot (new := { old with restoreList := rest }) hk rfl
  have hput : KeepsBlocks s (putSlot k { old with restoreList := rest } s) := .of_eq rfl rfl rfl rfl rfl rfl rfl rfl
  have hq := quiet_releaseOrder v old.number (putSlot k { old with restoreList := rest } s)
  refine ⟨hput.trans hq.keeps, fun hs => ?_⟩
  have he := hq.keepsAll.engine (h.sound hs)
  refine
    { slots := he.slots
      planner := fun hp => he.planner (h.planner_same hs rfl rfl (fun _ => hr) hp)
      idle := fun hi => he.idle (h.idle hi)
      regions := fun hrd => he.regions (h.regions_same hs rfl id hrd)
      consent := fun hc => he.consent (h.consent_same hs rfl Iff.rfl hc)
      holders := fun hv hd => ?_ }
  rw [holdersSound_iff hs.wf hv.1] at hd
  rw [holdersSound_iff he.slots.wf (hq.keeps.valves (hput.valves hv)).1]
  intro u n hn
  obtain ⟨j, a, hj, ha, hra⟩ := hd u n (hq.holders u hn)
  obtain ⟨-, hj⟩ | ⟨-, rfl, hj⟩ := h.forward hj
  · exact ⟨j, a, by rw [hq.slot, hj], ha, hra⟩
  · refine ⟨j, { a with restoreList := rest }, by rw [hq.slot, hj], ha, fun _ => ?_⟩
    have hm : u ∈ v :: rest := hl ▸ hra hr
    obtain rfl | hm := List.mem_cons.1 hm
    · rw [← ha] at hn; exact absurd hn (not_mem_holders_releaseOrder u a.number _)
    · exact hm

theorem keeps_releaseOrders (n k : Nat) {s : State} {old : Incident} (hk : s.slot k = some old)
    (hr : old.state = .restoring) : Keeps s (releaseOrders n k s) := by
  induction n generalizing s old with
  | zero => exact .refl s
  | succ n ih =>
    simp only [releaseOrders, hk]
    split
    · next v rest hl =>
      split
      · refine (keeps_popRestore hk hr hl).trans (ih (old := { old with restoreList := rest }) ?_ hr)
        rw [State.slot, engine_releaseOrder]; exact slot_putSlot_same _ _ _
      · exact .refl s
    · exact .refl s

/-- 03 R81: the slot of a RESTORING incident with nothing left on its list becomes FREE. -/
theorem keeps_completeRestore {s : State} {k : Nat} {inc : Incident} (hk : s.slot k = some inc)
    (hr : inc.state = .restoring) : Keeps s (completeRestore k inc s) := by
  unfold completeRestore; split
  · next hdone =>
    have hlist : inc.restoreList = [] := by
      simp only [Bool.and_eq_true, List.isEmpty_iff] at hdone; exact hdone.1
    have h := freed_freeSlot hk
    refine Keeps.trans (t := freeSlot k s) ⟨.of_eq rfl rfl rfl rfl rfl rfl rfl rfl, fun hs => ?_⟩
      ((Quiet.raise _ _ _ _ _).trans (quiet_markStaleForOthers _ _)).keepsAll
    refine
      { slots := h.sound hs
        planner := fun hp => ?_
        idle := h.idle
        regions := h.regions hs
        consent := h.consent_out hs rfl (by rw [hr]; decide)
        holders := fun hv hd => h.holders hs hv.1 hv.1 (fun _ => List.Subset.refl _) (fun v hn => ?_) hd }
    · have hnot : ¬ s.Plannable inc.number := by
        rintro ⟨j, a, hj, ha, har⟩
        obtain rfl := hs.slot_inj hj hk ha
        rw [hk] at hj; cases hj; exact har hr
      obtain ⟨hq, hpl⟩ := (plannerSound_iff hs.wf).1 hp
      exact h.planner hs rfl rfl (fun hm => hnot (hq.queued _ hm)) (fun p hp e => hnot (e ▸ hpl p hp)) hp
    · obtain ⟨j, a, hj, ha, hra⟩ := (holdersSound_iff hs.wf hv.1).1 hd v _ hn
      obtain rfl := hs.slot_inj hj hk ha
      rw [hk] at hj; cases hj
      exact absurd (hra hr) (by rw [hlist]; exact List.not_mem_nil)
  · exact .refl s

theorem keeps_progressRestore {s : State} {k : Nat} {inc : Incident} (hk : s.slot k = some inc)
    (hr : inc.state = .restoring) : Keeps s (progressRestore k inc s) := by
  have h := keeps_releaseOrders inc.restoreList.length k hk hr
  unfold progressRestore; dsimp only
  split
  · next x hx =>
    exact h.trans (keeps_completeRestore hx ((driven_releaseOrders _ _ _ _ hk hr).2 x hx).2.1)
  · exact h

theorem keeps_progressRestores (s : State) : Keeps s (progressRestores s) :=
  Keeps.forSlots (fun k inc s hk => by
    split
    · exact keeps_progressRestore hk ‹_›
    · exact .refl s) s

/-- The settling that ends a step keeps every invariant. -/
theorem keeps_settle (s : State) : Keeps s (settle s) :=
  (keeps_progressRestores s).trans
    (((quiet_startMoves _).trans (quiet_crewRequests _)).trans (quiet_retimePolls _)).keepsAll

/-! ### The entry into CLOSING -/

/-- 03 R55: the record of an incident that enters CLOSING. -/
abbrev Incident.toClosing (inc : Incident) : Incident := { inc with state := .closing, released := true }

/-- After the record is written the entry into CLOSING is calm. -/
theorem calm_enterClosing {s : State} {k : Nat} {inc : Incident} (hk : s.slot k = some inc) :
    Calm (putSlot k inc.toClosing s) (enterClosing k s) := by
  simp only [enterClosing, hk]
  have hb : Calm (putSlot k inc.toClosing s) (holdBoundary inc.toClosing (putSlot k inc.toClosing s)) :=
    calm_holdBoundary (slot_putSlot_same s k _) rfl (by simp)
  generalize holdBoundary inc.toClosing (putSlot k inc.toClosing s) = u at hb ⊢
  refine Calm.trans ?_ (.quiet ((quiet_startMoves _).trans (quiet_crewRequests _)))
  refine Calm.trans ?_ (calm_isolationTest _ _)
  split
  · exact hb
  · exact hb.trans (Calm.raise _ _ _ _ _)

/-- A record written for an incident that is not RESTORING and leaves AWAIT_CONSENT with its place in the queue. -/
theorem Rewritten.keepsEngine_left {s t : State} {k : Nat} {old new : Incident} (h : Rewritten s t k old new)
    (hq : t.engine.consentQueue = s.engine.consentQueue.filter (· != old.number)) (hregion : new.region = old.region)
    (hor : old.state ≠ .restoring) (hna : new.state ≠ .awaitConsent) (hnr : new.state ≠ .restoring)
    (hp : t.planner = s.planner) (hd : t.drive = s.drive) (hs : s.SlotsSound) : KeepsEngine s t where
  slots := h.sound hs
  planner := h.planner_same hs (by rw [hp]) (by rw [hp]) (fun e => absurd e hnr)
  idle := h.idle
  regions := h.regions_same hs hregion (fun _ => by revert hor; cases old.state <;> simp [IncidentState.active])
  consent := h.consent_left hs hq hna
  holders hv := h.holders_same hs hv.1 (by rw [hd]; exact hv.1) (fun v => by rw [State.dyn, hd]; exact List.Subset.refl _)
    (fun e => absurd e hnr)

/-- The same for an incident that was not in AWAIT_CONSENT, with the queue as it is. -/
theorem Rewritten.keepsEngine_same {s t : State} {k : Nat} {old new : Incident} (h : Rewritten s t k old new)
    (hq : t.engine.consentQueue = s.engine.consentQueue) (hregion : new.region = old.region)
    (hor : old.state ≠ .restoring) (haw : new.state = .awaitConsent ↔ old.state = .awaitConsent)
    (hnr : new.state ≠ .restoring) (hp : t.planner = s.planner) (hd : t.drive = s.drive) (hs : s.SlotsSound) :
    KeepsEngine s t where
  slots := h.sound hs
  planner := h.planner_same hs (by rw [hp]) (by rw [hp]) (fun e => absurd e hnr)
  idle := h.idle
  regions := h.regions_same hs hregion (fun _ => by revert hor; cases old.state <;> simp [IncidentState.active])
  consent := h.consent_same hs hq haw
  holders hv := h.holders_same hs hv.1 (by rw [hd]; exact hv.1) (fun v => by rw [State.dyn, hd]; exact List.Subset.refl _)
    (fun e => absurd e hnr)

/-- A record written with its incident's number and region, in a state neither RESTORING nor AWAIT_CONSENT before and after. -/
theorem keeps_putSlot_plain {s : State} {k : Nat} {old new : Incident} (hk : s.slot k = some old)
    (hn : new.number = old.number) (hregion : new.region = old.region) (hor : old.state ≠ .restoring)
    (haw : new.state = .awaitConsent ↔ old.state = .awaitConsent) (hnr : new.state ≠ .restoring) :
    Keeps s (putSlot k new s) :=
  ⟨.of_eq rfl rfl rfl rfl rfl rfl rfl rfl,
    (rewritten_putSlot hk hn).keepsEngine_same rfl hregion hor haw hnr rfl rfl⟩

theorem keeps_enterClosing {s : State} {k : Nat} {inc : Incident} (hk : s.slot k = some inc)
    (hr : inc.state ≠ .restoring) (haw : inc.state ≠ .awaitConsent) : Keeps s (enterClosing k s) :=
  (keeps_putSlot_plain (new := inc.toClosing) hk rfl rfl hr (by simp [haw]) (by simp)).trans
    (calm_enterClosing hk).keeps

/-! ### The consent queue -/

/-- Leaving the consent queue changes nothing but the queue, its timer and the count of expiries called off. -/
theorem leaveConsent_engine (n : Nat) (b : Bool) (s : State) :
    (leaveConsent n b s).engine.slots = s.engine.slots ∧ (leaveConsent n b s).engine.counter = s.engine.counter := by
  rw [leaveConsent_only]; exact ⟨rfl, rfl⟩

theorem leaveConsent_fields (n : Nat) (b : Bool) (s : State) :
    (leaveConsent n b s).planner = s.planner ∧ (leaveConsent n b s).drive = s.drive
      ∧ (leaveConsent n b s).store = s.store ∧ (leaveConsent n b s).reports = s.reports
      ∧ (leaveConsent n b s).stations = s.stations ∧ (leaveConsent n b s).control = s.control
      ∧ (leaveConsent n b s).supply = s.supply ∧ (leaveConsent n b s).map = s.map
      ∧ (leaveConsent n b s).link = s.link := by
  rw [leaveConsent_only]; exact ⟨rfl, rfl, rfl, rfl, rfl, rfl, rfl, rfl, rfl⟩

theorem slot_leaveConsent (n : Nat) (b : Bool) (s : State) (j : Nat) : (leaveConsent n b s).slot j = s.slot j := by
  rw [State.slot, (leaveConsent_engine n b s).1]; rfl

theorem keepsBlocks_leaveConsent (n : Nat) (b : Bool) (s : State) : KeepsBlocks s (leaveConsent n b s) := by
  obtain ⟨-, hd, hst, hr, hsta, hc, hu, hm, hl⟩ := leaveConsent_fields n b s
  exact .of_eq hr hsta hc hu hm (by rw [hst]) (by rw [hd]) hl

/-- A number that is not in the queue leaves nothing. -/
theorem leaveConsent_of_not_mem {n : Nat} {b : Bool} {s : State} (h : n ∉ s.engine.consentQueue) :
    leaveConsent n b s = s := by
  simp [leaveConsent, h]

/-- In sound slots, writing the record that a slot holds changes nothing. -/
theorem Table.put_self {α : Type} {t : Table α} (h : Table.Wf t) {k : Nat} {x : α} (hk : Table.get t k = some x) :
    Table.put t k x = t := by
  induction t with
  | nil => simp at hk
  | cons a t ih =>
    obtain ⟨k', x'⟩ := a
    simp only [Table.Wf, Table.keys, List.map_cons, List.pairwise_cons] at h ih
    simp only [Table.get] at hk
    simp only [Table.put]
    by_cases hkk : k = k'
    · subst hkk; simpa using hk.symm
    · rw [if_neg hkk] at hk
      have := h.1 k (List.mem_map_of_mem (Table.mem_of_get hk))
      rw [if_neg (by omega), if_neg hkk, ih h.2 hk]

theorem putSlot_self {s : State} (h : s.SlotsSound) {k : Nat} {inc : Incident} (hk : s.slot k = some inc) :
    putSlot k inc s = s := by
  rw [putSlot, Table.put_self h.wf hk]

/-- 03 R66: quitting the consent queue is leaving it, with a consent that is not pending any more. -/
theorem quitConsent_eq {s : State} (hs : s.SlotsSound) {k : Nat} {inc : Incident} (hk : s.slot k = some inc) :
    ∃ c, quitConsent k s = leaveConsent inc.number false (putSlot k { inc with consent := c } s) := by
  by_cases h : inc.number ∈ s.engine.consentQueue
  · exact ⟨inc.consent.unanswered, by simp [quitConsent, hk, h]⟩
  · refine ⟨inc.consent, ?_⟩
    rw [putSlot_self hs hk, leaveConsent_of_not_mem h]
    simp [quitConsent, hk, h]

theorem keepsBlocks_putSlot (k : Nat) (inc : Incident) (s : State) : KeepsBlocks s (putSlot k inc s) :=
  .of_eq rfl rfl rfl rfl rfl rfl rfl rfl

theorem keepsBlocks_quitConsent (k : Nat) (s : State) : KeepsBlocks s (quitConsent k s) := by
  unfold quitConsent; split
  · split
    · exact (keepsBlocks_putSlot _ _ _).trans (keepsBlocks_leaveConsent _ _ _)
    · exact .refl s
  · exact .refl s

theorem keepsBlocks_setConsent (k : Nat) (c : ConsentState) (s : State) : KeepsBlocks s (setConsent k c s) := by
  unfold setConsent; split
  · exact keepsBlocks_putSlot _ _ _
  · exact .refl s

theorem keepsBlocks_raise (k : ReportKind) (x : Subject) (d : Nat) (vs : List (Option Nat)) (s : State) :
    KeepsBlocks s (raise k x d vs s) := (Quiet.raise k x d vs s).keeps

theorem keepsBlocks_enterState (k : Nat) (new : IncidentState) (s : State) : KeepsBlocks s (enterState k new s) := by
  unfold enterState; split
  · split
    · exact .refl s
    · exact (keepsBlocks_putSlot _ _ _).trans (keepsBlocks_raise _ _ _ _ _)
  · exact .refl s

theorem keepsBlocks_enterClosing (k : Nat) (s : State) : KeepsBlocks s (enterClosing k s) := by
  cases hk : s.slot k with
  | none => simp only [enterClosing, hk]; exact .refl s
  | some inc => exact (keepsBlocks_putSlot _ _ _).trans (calm_enterClosing hk).keeps.blocks

/-- 03 R54: entering a state writes the record with it, but for a report. -/
theorem enterState_rewritten {s : State} (hs : s.SlotsSound) {k : Nat} {inc : Incident} (hk : s.slot k = some inc)
    (new : IncidentState) :
    Rewritten s (enterState k new s) k inc { inc with state := new }
      ∧ (enterState k new s).engine.consentQueue = s.engine.consentQueue
      ∧ (enterState k new s).planner = s.planner ∧ (enterState k new s).drive = s.drive := by
  simp only [enterState, hk]
  split
  · next e =>
    subst e
    exact ⟨⟨hk, rfl, (Table.put_self hs.wf hk).symm, rfl, rfl⟩, rfl, rfl, rfl⟩
  · exact ⟨⟨hk, rfl, rfl, rfl, rfl⟩, rfl, rfl, rfl⟩

/-- What a step that writes one incident's record leaves of planner and drive; the consent queue is as said. -/
structure Wrote (s t : State) (k : Nat) (old new : Incident) (queue : List Nat) : Prop where
  rewritten : Rewritten s t k old new
  queue : t.engine.consentQueue = queue
  planner : t.planner = s.planner
  drive : t.drive = s.drive

namespace Wrote

variable {s t u : State} {k : Nat} {old mid new : Incident} {q q' : List Nat}

/-- Writing the record again leaves the second one. -/
theorem trans (h : Wrote s t k old mid q) (h' : Wrote t u k mid new q') : Wrote s u k old new q' where
  rewritten :=
    { held := h.rewritten.held
      number := h'.rewritten.number.trans h.rewritten.number
      slots := by rw [h'.rewritten.slots, h.rewritten.slots, Table.put_put]
      counter := h'.rewritten.counter.trans h.rewritten.counter
      mode := h'.rewritten.mode.trans h.rewritten.mode }
  queue := h'.queue
  planner := h'.planner.trans h.planner
  drive := h'.drive.trans h.drive

theorem raise (h : Wrote s t k old new q) (kind : ReportKind) (x : Subject) (d : Nat) (vs : List (Option Nat)) :
    Wrote s (raise kind x d vs t) k old new q :=
  ⟨⟨h.rewritten.held, h.rewritten.number, h.rewritten.slots, h.rewritten.counter, h.rewritten.mode⟩, h.queue, h.planner,
    h.drive⟩

theorem slot_same (h : Wrote s t k old new q) : t.slot k = some new := h.rewritten.slot_same

/-- The engine's invariants, for an incident that has left the consent queue. -/
theorem keepsEngine (h : Wrote s t k old new q) (hq : q = s.engine.consentQueue.filter (· != old.number))
    (hregion : new.region = old.region) (hor : old.state ≠ .restoring) (hna : new.state ≠ .awaitConsent)
    (hnr : new.state ≠ .restoring) (hs : s.SlotsSound) : KeepsEngine s t :=
  h.rewritten.keepsEngine_left (h.queue.trans hq) hregion hor hna hnr h.planner h.drive hs

end Wrote

theorem wrote_putSlot {s : State} {k : Nat} {old new : Incident} (hk : s.slot k = some old)
    (hn : new.number = old.number) : Wrote s (putSlot k new s) k old new s.engine.consentQueue :=
  ⟨rewritten_putSlot hk hn, rfl, rfl, rfl⟩

theorem wrote_enterState {s : State} (hs : s.SlotsSound) {k : Nat} {inc : Incident} (hk : s.slot k = some inc)
    (new : IncidentState) :
    Wrote s (enterState k new s) k inc { inc with state := new } s.engine.consentQueue :=
  have ⟨h, hq, hp, hd⟩ := enterState_rewritten hs hk new
  ⟨h, hq, hp, hd⟩

theorem wrote_setConsent {s : State} {k : Nat} {inc : Incident} (hk : s.slot k = some inc) (c : ConsentState) :
    Wrote s (setConsent k c s) k inc { inc with consent := c } s.engine.consentQueue := by
  simp only [setConsent, hk]; exact wrote_putSlot hk rfl

theorem wrote_leaveConsent {s : State} (hs : s.SlotsSound) {k : Nat} {inc : Incident} (hk : s.slot k = some inc)
    (b : Bool) :
    Wrote s (leaveConsent inc.number b s) k inc inc (s.engine.consentQueue.filter (· != inc.number)) := by
  obtain ⟨hp, hd, hst, -⟩ := leaveConsent_fields inc.number b s
  refine ⟨⟨hk, rfl, ?_, (leaveConsent_engine _ _ _).2, by rw [hst]⟩, leaveConsent_queue _ _ _, hp, hd⟩
  rw [(leaveConsent_engine _ _ _).1, Table.put_self hs.wf hk]

theorem wrote_quitConsent {s : State} (hs : s.SlotsSound) {k : Nat} {inc : Incident} (hk : s.slot k = some inc) :
    ∃ c, Wrote s (quitConsent k s) k inc { inc with consent := c }
      (s.engine.consentQueue.filter (· != inc.number)) := by
  obtain ⟨c, hc⟩ := quitConsent_eq hs hk
  have h := wrote_putSlot (new := { inc with consent := c }) hk rfl
  have h' := wrote_leaveConsent (h.rewritten.sound hs) h.slot_same false
  exact ⟨c, by rw [hc]; exact h.trans h'⟩

/-- 03 R60: an incident whose plan is uncontained. -/
theorem keeps_becomeUncontained {s : State} {k : Nat} {inc : Incident} (hk : s.slot k = some inc)
    (hr : inc.state ≠ .restoring) : Keeps s (becomeUncontained k s) := by
  refine ⟨(keepsBlocks_quitConsent k s).trans (keepsBlocks_enterState _ _ _), fun hs => ?_⟩
  obtain ⟨c, h⟩ := wrote_quitConsent hs hk
  have h' := h.trans (wrote_enterState (h.rewritten.sound hs) h.slot_same .uncontained)
  exact h'.keepsEngine h.queue rfl hr (by simp) (by simp) hs

/-- 03 R60: an incident that is contained and not released. -/
theorem keeps_becomeArmed {s : State} {k : Nat} {inc : Incident} (hk : s.slot k = some inc)
    (hr : inc.state ≠ .restoring) : Keeps s (enterState k .armed (setConsent k .notNeeded (quitConsent k s))) := by
  refine ⟨((keepsBlocks_quitConsent k s).trans (keepsBlocks_setConsent _ _ _)).trans (keepsBlocks_enterState _ _ _),
    fun hs => ?_⟩
  obtain ⟨c, h⟩ := wrote_quitConsent hs hk
  have h1 := h.trans (wrote_setConsent h.slot_same .notNeeded)
  have h2 := h1.trans (wrote_enterState (h1.rewritten.sound hs) h1.slot_same .armed)
  exact h2.keepsEngine (h1.queue.trans h.queue) rfl hr (by simp) (by simp) hs

/-- 03 R60: an incident that is contained and released. -/
theorem keeps_becomeClosing {s : State} {k : Nat} {inc : Incident} (hk : s.slot k = some inc)
    (hr : inc.state ≠ .restoring) : Keeps s (enterClosing k (setConsent k .notNeeded (quitConsent k s))) := by
  refine ⟨((keepsBlocks_quitConsent k s).trans (keepsBlocks_setConsent _ _ _)).trans (keepsBlocks_enterClosing _ _),
    fun hs => ?_⟩
  obtain ⟨c, h⟩ := wrote_quitConsent hs hk
  have h1 := h.trans (wrote_setConsent h.slot_same .notNeeded)
  have h2 := h1.trans (wrote_putSlot (new := Incident.toClosing { inc with consent := .notNeeded }) h1.slot_same rfl)
  have e := h2.keepsEngine (h1.queue.trans h.queue) rfl hr (by simp) (by simp) hs
  have hput : Keeps s (putSlot k (Incident.toClosing { inc with consent := .notNeeded })
      (setConsent k .notNeeded (quitConsent k s))) :=
    ⟨((keepsBlocks_quitConsent k s).trans (keepsBlocks_setConsent _ _ _)).trans (keepsBlocks_putSlot _ _ _), fun _ => e⟩
  exact (hput.trans (calm_enterClosing h1.slot_same).keeps).engine hs

/-- 03 R65: an incident in AWAIT_CONSENT that has a place in the queue, its former one or the tail. -/
theorem Rewritten.consent_joined {s t : State} {k : Nat} {old new : Incident} (h : Rewritten s t k old new)
    (hs : s.SlotsSound) (haw : new.state = .awaitConsent)
    (hq : t.engine.consentQueue
      = if old.number ∈ s.engine.consentQueue then s.engine.consentQueue else s.engine.consentQueue ++ [old.number])
    (hc : s.ConsentSound) : t.ConsentSound := by
  obtain ⟨hnd, hin, hout⟩ := (consentSound_iff hs.wf).1 hc
  have hmem (n : Nat) : n ∈ t.engine.consentQueue ↔ n ∈ s.engine.consentQueue ∨ n = old.number := by
    rw [hq]; split
    · next hold => exact ⟨.inl, fun hn => hn.elim id fun e => e ▸ hold⟩
    · simp
  rw [consentSound_iff (h.wf hs)]
  refine ⟨?_, fun n hn => ?_, fun j b hj hb => ?_⟩
  · rw [hq]; split
    · exact hnd
    · next hnot =>
      exact List.nodup_append.2 ⟨hnd, List.nodup_singleton _, fun a ha b hb e =>
        hnot (List.mem_singleton.1 hb ▸ e ▸ ha)⟩
  · by_cases e : n = old.number
    · exact ⟨k, new, h.slot_same, by rw [h.number, e], haw⟩
    · obtain ⟨j, a, hj, ha, haa⟩ := hin n (((hmem n).1 hn).resolve_right e)
      obtain ⟨-, hj⟩ | ⟨-, rfl, hj⟩ := h.forward hj
      · exact ⟨j, a, hj, ha, haa⟩
      · exact absurd ha.symm e
  · obtain ⟨-, hj⟩ | ⟨-, rfl, -⟩ := h.backward hj
    · exact (hmem _).2 (.inl (hout j b hj hb))
    · exact (hmem _).2 (.inr h.number)

theorem wrote_joinConsent {s : State} (hs : s.SlotsSound) {k : Nat} {inc : Incident} (hk : s.slot k = some inc) (n : Nat) :
    Wrote s (joinConsent n s) k inc inc (s.engine.consentQueue ++ [n]) :=
  ⟨⟨hk, rfl, (Table.put_self hs.wf hk).symm, rfl, rfl⟩, rfl, rfl, rfl⟩

theorem keeps_awaitConsent {s : State} {k : Nat} {inc : Incident} (hk : s.slot k = some inc)
    (hr : inc.state ≠ .restoring) : Keeps s (awaitConsent k s) := by
  have hblocks : KeepsBlocks s (enterState k .awaitConsent
      (if s.engine.consentQueue.contains inc.number then s else joinConsent inc.number (setConsent k .pending s))) := by
    refine KeepsBlocks.trans ?_ (keepsBlocks_enterState _ _ _)
    split
    · exact .refl s
    · exact (keepsBlocks_setConsent k .pending s).trans (.of_eq rfl rfl rfl rfl rfl rfl rfl rfl)
  have hwrote : s.SlotsSound → ∃ c, Wrote s (enterState k .awaitConsent
      (if s.engine.consentQueue.contains inc.number then s else joinConsent inc.number (setConsent k .pending s)))
      k inc { inc with consent := c, state := .awaitConsent }
      (if inc.number ∈ s.engine.consentQueue then s.engine.consentQueue
        else s.engine.consentQueue ++ [inc.number]) := by
    intro hs
    by_cases h : inc.number ∈ s.engine.consentQueue
    · simp only [List.contains_iff_mem.2 h, if_true, if_pos h]
      exact ⟨inc.consent, wrote_enterState hs hk _⟩
    · have h1 := wrote_setConsent hk .pending
      have h2 := h1.trans (wrote_joinConsent (h1.rewritten.sound hs) h1.slot_same inc.number)
      have h3 := h2.trans (wrote_enterState (h2.rewritten.sound hs) h2.slot_same .awaitConsent)
      rw [h2.queue, h1.queue] at h3
      have hc : s.engine.consentQueue.contains inc.number = false := by simpa using h
      simp only [hc, if_neg h]
      exact ⟨.pending, h3⟩
  have hkeeps : Keeps s (enterState k .awaitConsent
      (if s.engine.consentQueue.contains inc.number then s else joinConsent inc.number (setConsent k .pending s))) := by
    refine ⟨hblocks, fun hs => ?_⟩
    obtain ⟨c, h⟩ := hwrote hs
    exact
      { slots := h.rewritten.sound hs
        planner := h.rewritten.planner_same hs (by rw [h.planner]) (by rw [h.planner]) (by simp)
        idle := h.rewritten.idle
        regions := h.rewritten.regions_same hs rfl
          (fun _ => by revert hr; cases inc.state <;> simp [IncidentState.active])
        consent := h.rewritten.consent_joined hs rfl h.queue
        holders := fun hv => h.rewritten.holders_same hs hv.1 (by rw [h.drive]; exact hv.1)
          (fun v => by rw [State.dyn, h.drive]; exact List.Subset.refl _) (by simp) }
  simp only [awaitConsent, hk]
  split
  · exact hkeeps.trans (Quiet.raise _ _ _ _ _).keepsAll
  · exact hkeeps

/-- 03 R59, R60: the transition on a publication keeps every invariant. -/
theorem keeps_actOnPublication {s : State} {k : Nat} {inc : Incident} (hk : s.slot k = some inc)
    (hr : inc.state ≠ .restoring) (needed : Bool) : Keeps s (actOnPublication k needed s) := by
  simp only [actOnPublication, hk]
  split
  · exact keeps_becomeUncontained hk hr
  split
  · exact keeps_awaitConsent hk hr
  split
  · exact keeps_becomeArmed hk hr
  · exact keeps_becomeClosing hk hr

/-- 03 R67, R68: an entry of the consent queue is resolved. -/
theorem keeps_resolveConsent {s : State} {k : Nat} {inc : Incident} (hk : s.slot k = some inc)
    (hr : inc.state ≠ .restoring) (c : ConsentState) (byTimer proceed : Bool) :
    Keeps s (resolveConsent k inc c byTimer proceed s) := by
  have hleft (hs : s.SlotsSound) (new : Incident) (hn : new.number = inc.number) :=
    (wrote_leaveConsent hs hk byTimer).trans (wrote_putSlot (new := new) (by rw [slot_leaveConsent, hk]) hn)
  have hb (new : Incident) : KeepsBlocks s (putSlot k new (leaveConsent inc.number byTimer s)) :=
    (keepsBlocks_leaveConsent _ _ _).trans (keepsBlocks_putSlot _ _ _)
  unfold resolveConsent; dsimp only
  split
  · split
    · have hslot : (raiseConsentResolved inc c byTimer .closing
          (putSlot k { inc with consent := c } (leaveConsent inc.number byTimer s))).slot k
            = some { inc with consent := c } := slot_putSlot_same _ _ _
      refine Keeps.trans (t := putSlot k (Incident.toClosing { inc with consent := c })
        (raiseConsentResolved inc c byTimer .closing
          (putSlot k { inc with consent := c } (leaveConsent inc.number byTimer s)))) ⟨?_, fun hs => ?_⟩
        (calm_enterClosing hslot).keeps
      · exact ((hb _).trans (keepsBlocks_raise _ _ _ _ _)).trans (keepsBlocks_putSlot _ _ _)
      · have h := ((hleft hs { inc with consent := c } rfl).raise .consentResolved (.incident inc.number) c.code
          [some (flagCode byTimer), some IncidentState.closing.code, some inc.planCount]).trans
          (wrote_putSlot (new := Incident.toClosing { inc with consent := c }) hslot rfl)
        exact h.keepsEngine (leaveConsent_queue _ _ _) rfl hr (by simp) (by simp) hs
    · refine ⟨((hb _).trans (keepsBlocks_raise _ _ _ _ _)).trans (keepsBlocks_enterState _ _ _), fun hs => ?_⟩
      have h1 := (hleft hs { inc with consent := c } rfl).raise .consentResolved (.incident inc.number) c.code
          [some (flagCode byTimer), some IncidentState.armed.code, some inc.planCount]
      have h2 := h1.trans (wrote_enterState (h1.rewritten.sound hs) h1.slot_same .armed)
      exact h2.keepsEngine (h1.queue.trans (leaveConsent_queue _ _ _)) rfl hr (by simp) (by simp) hs
  · refine ⟨((hb _).trans (keepsBlocks_raise _ _ _ _ _)).trans (keepsBlocks_enterState _ _ _), fun hs => ?_⟩
    have h1 := (hleft hs { inc with consent := c, cause := some .declined } rfl).raise .consentResolved
        (.incident inc.number) c.code
        [some (flagCode byTimer), some IncidentState.uncontained.code, some inc.planCount]
    have h2 := h1.trans (wrote_enterState (h1.rewritten.sound hs) h1.slot_same .uncontained)
    exact h2.keepsEngine (h1.queue.trans (leaveConsent_queue _ _ _)) rfl hr (by simp) (by simp) hs

/-! ### The planner goes on -/

/-- 02 R46, R47: the plan in progress ends, whatever its incident. -/
theorem plannerSound_endPlan {s : State} (h : Table.Wf s.engine.slots) (hq : s.PlanQueueSound) :
    (endPlan s).PlannerSound :=
  plannerSound_startNext (s := { s with planner := { s.planner with plan := none } }) h _ rfl hq.nodup hq.queued

theorem keeps_endPlan (s : State) : Keeps s (endPlan s) :=
  keeps_planner fun h hp => plannerSound_endPlan h ((plannerSound_iff h).1 hp).1

/-- 02 R29: an incident's plan and its place in the plan queue are gone. -/
theorem dropPlan_only (n : Nat) (s : State) : dropPlan n s = { s with planner := (dropPlan n s).planner } := by
  unfold dropPlan; dsimp only; split <;> rfl

theorem dropQueuedPlan_sound {s : State} (hq : s.PlanQueueSound) (n : Nat) : (dropQueuedPlan n s).PlanQueueSound where
  nodup := hq.nodup.filter _
  apart p hp hm := hq.apart p hp (List.mem_filter.1 hm).1
  empty h := by simp only [dropQueuedPlan, hq.empty h]; rfl
  queued m hm := hq.queued m (List.mem_filter.1 hm).1

theorem dropPlan_planner {s : State} (h : Table.Wf s.engine.slots) (n : Nat) (hp : s.PlannerSound) :
    (dropPlan n s).PlannerSound ∧ n ∉ (dropPlan n s).planner.queue
      ∧ ∀ p ∈ (dropPlan n s).planner.plan, p.incident ≠ n := by
  obtain ⟨hq, hpl⟩ := (plannerSound_iff h).1 hp
  have hdq := dropQueuedPlan_sound hq n
  have hnot : n ∉ (dropQueuedPlan n s).planner.queue := by simp [dropQueuedPlan]
  unfold dropPlan; dsimp only
  split
  · refine ⟨plannerSound_endPlan (s := dropQueuedPlan n s) h hdq, ?_⟩
    generalize (dropQueuedPlan n s).planner.queue = queue at hnot ⊢
    simp only [startNextPlan]
    cases queue with
    | nil => rw [startNext_of_empty rfl]; simp
    | cons m rest =>
      rw [startNext_cons rfl rfl]
      simp only [List.mem_cons, not_or] at hnot
      exact ⟨hnot.2, by rintro p ⟨⟩; exact fun e => hnot.1 e.symm⟩
  · next hany =>
    refine ⟨(plannerSound_iff (s := dropQueuedPlan n s) h).2 ⟨hdq, hpl⟩, hnot, fun p hp e => hany ?_⟩
    have hp' : (dropQueuedPlan n s).planner.plan = some p := hp
    simp [hp', e]

theorem keeps_dropPlan (n : Nat) (s : State) : Keeps s (dropPlan n s) := by
  rw [dropPlan_only]
  exact keeps_planner fun h hp => by rw [← dropPlan_only]; exact (dropPlan_planner h n hp).1

/-! ### The end of an incident (03 R78, R79) -/

theorem keeps_discardPlanning {s : State} {k : Nat} {inc : Incident} (hk : s.slot k = some inc)
    (hpl : inc.state = .planning) (hheld : s.heldBy inc.number = []) : Keeps s (discardPlanning k inc s) := by
  refine Keeps.trans (t := freeSlot k (dropPlan inc.number s)) ⟨?_, fun hs => ?_⟩
    ((Quiet.raise _ _ _ _ _).trans (quiet_markStaleForOthers _ _)).keepsAll
  · exact (keeps_dropPlan _ _).blocks.trans (.of_eq rfl rfl rfl rfl rfl rfl rfl rfl)
  · have hd := (keeps_dropPlan inc.number s).engine hs
    have hengine : (dropPlan inc.number s).engine = s.engine := by rw [dropPlan_only]
    have hdrive : (dropPlan inc.number s).drive = s.drive := by rw [dropPlan_only]
    have h : Freed (dropPlan inc.number s) (freeSlot k (dropPlan inc.number s)) k inc :=
      freed_freeSlot (by rw [State.slot, hengine]; exact hk)
    exact
      { slots := h.sound hd.slots
        planner := fun hp =>
          have ⟨hsound, hq, hplan⟩ := dropPlan_planner hs.wf inc.number hp
          h.planner hd.slots rfl rfl hq hplan hsound
        idle := fun hi => h.idle (hd.idle hi)
        regions := fun hr => h.regions hd.slots (hd.regions hr)
        consent := fun hc => h.consent_out hd.slots rfl (by rw [hpl]; decide) (hd.consent hc)
        holders := fun hv hh =>
          have hv' : Table.Wf (dropPlan inc.number s).drive.valves := by rw [hdrive]; exact hv.1
          h.holders hd.slots hv' hv' (fun _ => List.Subset.refl _)
            (fun v => by rw [State.dyn, hdrive]; exact not_held_of_heldBy_nil hheld v) (hd.holders hv hh) }

/-- 03 R79: the record of an incident that enters RESTORING in a state. -/
abbrev Incident.toRestoring (inc : Incident) (s : State) : Incident :=
  { inc with state := .restoring, restoreList := s.restoreListOf inc }

/-- 03 R79: every valve that an incident holds is on its restore list. -/
theorem mem_restoreListOf {s : State} {inc : Incident} {v : Nat} (h : v ∈ s.heldBy inc.number) : v ∈ s.restoreListOf inc := by
  unfold State.restoreListOf
  by_cases hb : v ∈ inc.boundary
  · exact List.mem_append_left _ (List.mem_filter.2 ⟨List.mem_reverse.2 hb, by simpa using h⟩)
  · exact List.mem_append_right _ (List.mem_filter.2 ⟨List.mem_reverse.2 h, by simpa using hb⟩)

/-- 03 R78, R79: an incident leaves the consent queue and the planner and is RESTORING, with what it holds on its list. -/
theorem keeps_beginRestore {s : State} {k : Nat} {inc : Incident} (hk : s.slot k = some inc)
    (hr : inc.state ≠ .restoring) : Keeps s (beginRestore k inc s) := by
  have hdrop := keeps_dropPlan inc.number (quitConsent k s)
  have hblocks : KeepsBlocks s (enterRestoring k (dropPlan inc.number (quitConsent k s))) := by
    refine ((keepsBlocks_quitConsent k s).trans hdrop.blocks).trans ?_
    unfold enterRestoring; split
    · exact (keepsBlocks_putSlot _ _ _).trans (keepsBlocks_raise _ _ _ _ _)
    · exact .refl _
  refine Keeps.trans (t := enterRestoring k (dropPlan inc.number (quitConsent k s))) ⟨hblocks, fun hs => ?_⟩
    (quiet_markStaleForOthers _ _).keepsAll
  obtain ⟨c, hquit⟩ := wrote_quitConsent hs hk
  generalize quitConsent k s = u at hquit hdrop hblocks ⊢
  have hslot : (dropPlan inc.number u).slot k = some { inc with consent := c } := by
    rw [dropPlan_only]; exact hquit.slot_same
  have hengine : (dropPlan inc.number u).engine = u.engine := by rw [dropPlan_only]
  have hdrive : (dropPlan inc.number u).drive = u.drive := by rw [dropPlan_only]
  have hstore : (dropPlan inc.number u).store = u.store := by rw [dropPlan_only]
  have hus : u.SlotsSound := hquit.rewritten.sound hs
  simp only [enterRestoring, hslot]
  have h : Rewritten s (raiseState { inc with consent := c } IncidentState.restoring.code inc.state.code
      (putSlot k (Incident.toRestoring { inc with consent := c } (dropPlan inc.number u))
        (dropPlan inc.number u))) k inc
      (Incident.toRestoring { inc with consent := c } (dropPlan inc.number u)) :=
    { held := hk
      number := rfl
      slots := by
        show Table.put (dropPlan inc.number u).engine.slots k _ = _
        rw [hengine, hquit.rewritten.slots, Table.put_put]
      counter := by show (dropPlan inc.number u).engine.counter = _; rw [hengine, hquit.rewritten.counter]
      mode := by show (dropPlan inc.number u).store.mode = _; rw [hstore, hquit.rewritten.mode] }
  refine
    { slots := h.sound hs
      planner := fun hp => ?_
      idle := h.idle
      regions := fun hrd => h.regions_same hs rfl (by simp [IncidentState.active]) hrd
      consent := h.consent_left hs ?_ (by simp)
      holders := fun hv hd => ?_ }
  · have hup : u.PlannerSound := hquit.rewritten.planner_same hs (by rw [hquit.planner]) (by rw [hquit.planner])
      (fun e => absurd e hr) hp
    obtain ⟨hsound, hq, hplan⟩ := dropPlan_planner hus.wf inc.number hup
    obtain ⟨hqs, hps⟩ := (plannerSound_iff (by rw [hengine]; exact hus.wf)).1 hsound
    have hother : ∀ n, n ≠ inc.number → (dropPlan inc.number u).Plannable n →
        State.Plannable (putSlot k (Incident.toRestoring { inc with consent := c } (dropPlan inc.number u))
        (dropPlan inc.number u)) n := by
      rintro n hn ⟨j, a, hj, ha, har⟩
      have hjk : j ≠ k := by rintro rfl; rw [hslot] at hj; cases hj; exact hn ha.symm
      exact ⟨j, a, by rw [slot_putSlot, if_neg hjk, hj], ha, har⟩
    refine (plannerSound_iff (h.wf hs)).2 ⟨⟨hqs.nodup, hqs.apart, hqs.empty, fun n hn => ?_⟩, fun p hp => ?_⟩
    · exact hother n (fun e => hq (e ▸ hn)) (hqs.queued n hn)
    · exact hother _ (hplan p hp) (hps p hp)
  · show (dropPlan inc.number u).engine.consentQueue = _
    rw [hengine, hquit.queue]
  · rw [holdersSound_iff hs.wf hv.1] at hd
    have hvd : Table.Wf (dropPlan inc.number u).drive.valves := by rw [hdrive, hquit.drive]; exact hv.1
    rw [holdersSound_iff (h.wf hs) hvd]
    intro v n hn
    have hn' : n ∈ ((dropPlan inc.number u).dyn v).holders := hn
    have hns : n ∈ (s.dyn v).holders := by simpa [State.dyn, hdrive, hquit.drive] using hn'
    obtain ⟨j, a, hj, ha, har⟩ := hd v n hns
    obtain ⟨-, hj⟩ | ⟨-, rfl, hj⟩ := h.forward hj
    · exact ⟨j, a, hj, ha, har⟩
    · exact ⟨j, _, hj, ha, fun _ => mem_restoreListOf ((mem_heldBy hvd).2 (ha ▸ hn'))⟩

/-! ### Declarations (03 R50, R57) -/

theorem succNumber_range (n : Nat) (h : n ≤ 255) : 1 ≤ succNumber n ∧ succNumber n ≤ 255 := by
  unfold succNumber; split <;> omega

/-- The number that comes some places after another. -/
theorem succNumber_iterate (n : Nat) (h1 : 1 ≤ n) (h2 : n ≤ 255) (i : Nat) :
    succNumber^[i] n = (n - 1 + i) % 255 + 1 := by
  induction i with
  | zero => simp; omega
  | succ i ih =>
    rw [Function.iterate_succ_apply', ih]
    unfold succNumber
    split <;> omega

/-- 03 R50: the counter passes the numbers in use: it stops at one that is not, or has passed as many as it may. -/
theorem skipNumbers_eq (used : List Nat) (k n : Nat) :
    ∃ i ≤ k, skipNumbers used k n = succNumber^[i] n ∧ (∀ j < i, succNumber^[j] n ∈ used)
      ∧ (i < k → succNumber^[i] n ∉ used) := by
  induction k generalizing n with
  | zero => exact ⟨0, Nat.le_refl 0, rfl, by simp, by simp⟩
  | succ k ih =>
    simp only [skipNumbers]
    split
    · next hin =>
      obtain ⟨i, hi, he, hpass, hstop⟩ := ih (succNumber n)
      refine ⟨i + 1, by omega, by rw [he, Function.iterate_succ_apply], fun j hj => ?_, fun hlt => ?_⟩
      · cases j with
        | zero => simpa using hin
        | succ j => rw [Function.iterate_succ_apply]; exact hpass j (by omega)
      · rw [Function.iterate_succ_apply]; exact hstop (by omega)
    · next hout => exact ⟨0, Nat.zero_le _, rfl, by simp, fun _ => by simpa using hout⟩

/-- 03 R50: with fewer than 255 numbers in use the counter comes to rest at a number that is not. -/
theorem skipNumbers_fresh {used : List Nat} {n : Nat} (h1 : 1 ≤ n) (h2 : n ≤ 255) (hlen : used.length < 255) :
    skipNumbers used used.length n ∉ used ∧ 1 ≤ skipNumbers used used.length n
      ∧ skipNumbers used used.length n ≤ 255 := by
  obtain ⟨i, hi, he, hpass, hstop⟩ := skipNumbers_eq used used.length n
  rw [he]
  have hval := succNumber_iterate n h1 h2
  refine ⟨?_, by rw [hval]; omega, by rw [hval]; omega⟩
  by_cases hlt : i < used.length
  · exact hstop hlt
  · intro hin
    have hinj : ((List.range (i + 1)).map fun j => succNumber^[j] n).Nodup := by
      refine (List.nodup_map_iff_inj_on List.nodup_range).2 fun a ha b hb e => ?_
      rw [List.mem_range] at ha hb
      rw [hval, hval] at e
      omega
    have hsub : ((List.range (i + 1)).map fun j => succNumber^[j] n) ⊆ used := by
      intro m hm
      obtain ⟨j, hj, rfl⟩ := List.mem_map.1 hm
      rw [List.mem_range] at hj
      by_cases e : j = i
      · rw [e]; exact hin
      · exact hpass j (by omega)
    have := (hinj.subperm hsub).length_le
    simp at this
    omega

end Sys2Proof.Machine
end

section
/-! PROOFS. Region growth and the boundary set (02, sections 2.4 and 2.5): what holds of the region at every point of its
growth, what its end makes of the valves of the segments examined, and the closing sequence order. -/

namespace Sys2Proof.Machine

open Sys2Proof

/-! ### The growing region -/

theorem mem_inSegments {x : Nat} {set : List Nat} : inSegments x set = true ↔ x ≠ 0 ∧ x ∈ set := by
  simp [inSegments]

/-- A segment that lies in no other active incident's region. -/
abbrev State.Unclaimed (s : State) (number x : Nat) : Prop := ∀ y ∈ s.otherActive number, x ∉ y.region

/-- 02 R31 to R34: what holds of the working sets from the start of the growth on. -/
structure GrowthSound (s : State) (inc : Incident) (g : Growth) : Prop where
  recorded : inc.region <+: g.region
  nodup : inc.region.Nodup → g.region.Nodup
  length : g.region.length ≤ max regionCap inc.region.length
  origin : ∀ x ∈ g.region, x ∈ inc.region
    ∨ (∃ y ∈ s.otherActive inc.number, x ∈ y.region ∧ y.number ∈ g.noted) ∨ s.Unclaimed inc.number x
  noted : ∀ n ∈ g.noted, ∃ y ∈ s.otherActive inc.number, y.number = n

/-- The growth goes on: the region has grown at its tail only, a stop stays, and no incident noted is forgotten. -/
structure Grows (g g' : Growth) : Prop where
  region : g.region <+: g'.region
  noted : g.noted ⊆ g'.noted
  stop : g.stop.isSome = true → g' = g

theorem Grows.refl (g : Growth) : Grows g g := ⟨List.prefix_refl _, List.Subset.refl _, fun _ => rfl⟩

theorem Grows.trans {a b c : Growth} (h : Grows a b) (h' : Grows b c) : Grows a c where
  region := h.region.trans h'.region
  noted := List.Subset.trans h.noted h'.noted
  stop hs := by
    have hb := h.stop hs
    rw [h'.stop (by rw [hb]; exact hs), hb]

/-- A growth that has not stopped at its end had not stopped before. -/
theorem Grows.running {g g' : Growth} (h : Grows g g') (hs : g'.stop = none) : g.stop = none := by
  cases hg : g.stop with
  | none => rfl
  | some c => rw [h.stop (by simp [hg]), hg] at hs; cases hs

theorem append_cases (g : Growth) (x : Nat) :
    (regionCap ≤ g.region.length ∧ g.append x = { g with stop := some .regionCap })
      ∨ (g.region.length < regionCap ∧ g.append x = { g with region := g.region ++ [x] }) := by
  unfold Growth.append
  split
  · exact .inl ⟨‹_›, rfl⟩
  · exact .inr ⟨by omega, rfl⟩

theorem GrowthSound.stopped {s : State} {inc : Incident} {g : Growth} (h : GrowthSound s inc g) (c : Option Cause) :
    GrowthSound s inc { g with stop := c } :=
  ⟨h.recorded, h.nodup, h.length, h.origin, h.noted⟩

/-- A segment appended, with the incidents noted that its place in the region needs. -/
theorem GrowthSound.joined {s : State} {inc : Incident} {g : Growth} (h : GrowthSound s inc g) {x : Nat}
    (hx : x ∉ g.region) (hroom : g.region.length < regionCap) {noted : List Nat} (hsub : g.noted ⊆ noted)
    (hnoted : ∀ n ∈ noted, ∃ y ∈ s.otherActive inc.number, y.number = n)
    (hfrom : (∃ y ∈ s.otherActive inc.number, x ∈ y.region ∧ y.number ∈ noted) ∨ s.Unclaimed inc.number x) :
    GrowthSound s inc { g with region := g.region ++ [x], noted := noted } where
  recorded := h.recorded.trans (List.prefix_append _ _)
  nodup hn := List.nodup_append.2 ⟨h.nodup hn, List.nodup_singleton x, fun a ha b hb e =>
    hx (List.mem_singleton.1 hb ▸ e ▸ ha)⟩
  length := by simp only [List.length_append, List.length_singleton]; omega
  origin z hz := by
    obtain hz | hz := List.mem_append.1 hz
    · obtain hz | ⟨y, hy, hzy, hyn⟩ | hz := h.origin z hz
      · exact .inl hz
      · exact .inr (.inl ⟨y, hy, hzy, hsub hyn⟩)
      · exact .inr (.inr hz)
    · rw [List.mem_singleton.1 hz]; exact .inr hfrom
  noted := hnoted

/-- 02 R33: another active incident's region joins as a whole, unless the growth stops. -/
theorem appendRegion_sound {s : State} {inc y : Incident} (hy : y ∈ s.otherActive inc.number) (xs : List Nat)
    (hxs : ∀ x ∈ xs, x ∈ y.region) {g : Growth} (h : GrowthSound s inc g) :
    GrowthSound s inc (Growth.appendRegion y.number xs g) ∧ Grows g (Growth.appendRegion y.number xs g)
      ∧ ((Growth.appendRegion y.number xs g).stop = none → ∀ x ∈ xs, x ∈ (Growth.appendRegion y.number xs g).region) := by
  induction xs generalizing g with
  | nil => exact ⟨h, .refl g, fun _ => by simp⟩
  | cons x rest ih =>
    have hrest : ∀ z ∈ rest, z ∈ y.region := fun z hz => hxs z (List.mem_cons_of_mem _ hz)
    simp only [Growth.appendRegion]
    split
    · next hstop => exact ⟨h, .refl g, fun hn => by simp [hn] at hstop⟩
    · next hrun =>
      split
      · next hin =>
        obtain ⟨h1, h2, h3⟩ := ih hrest h
        refine ⟨h1, h2, fun hn z hz => ?_⟩
        obtain rfl | hz := List.mem_cons.1 hz
        · exact h2.region.subset (by simpa using hin)
        · exact h3 hn z hz
      · next hout =>
        have hx : x ∉ g.region := by simpa using hout
        have hnone : g.stop = none := by simpa using hrun
        obtain ⟨-, e⟩ | ⟨hroom, e⟩ := append_cases g x
        · -- the cap stops the growth: nothing more joins
          rw [e]
          obtain ⟨h1, h2, h3⟩ := ih hrest (h.stopped (some .regionCap))
          have hsame := h2.stop (by rfl)
          simp only [Option.isNone_some, Bool.false_and, Bool.false_eq_true, if_false]
          rw [hsame]
          exact ⟨h.stopped _, ⟨List.prefix_refl _, List.Subset.refl _, fun hs => by simp [hnone] at hs⟩,
            fun hn => by cases hn⟩
        · have hsound : ∀ noted, g.noted ⊆ noted → y.number ∈ noted →
              (∀ n ∈ noted, ∃ y ∈ s.otherActive inc.number, y.number = n) →
              GrowthSound s inc { g with region := g.region ++ [x], noted := noted } := fun noted hsub hyn hall =>
            h.joined hx hroom hsub hall (.inl ⟨y, hy, hxs x List.mem_cons_self, hyn⟩)
          have hgrows : ∀ noted, g.noted ⊆ noted → Grows g { g with region := g.region ++ [x], noted := noted } :=
            fun noted hsub => ⟨List.prefix_append _ _, hsub, fun hs => by simp [hnone] at hs⟩
          have hnext : ∃ noted, g.noted ⊆ noted ∧ y.number ∈ noted
              ∧ (∀ n ∈ noted, ∃ y ∈ s.otherActive inc.number, y.number = n)
              ∧ (if (g.append x).stop.isNone && !(g.append x).noted.contains y.number
                  then { g.append x with noted := (g.append x).noted ++ [y.number] } else g.append x)
                = { g with region := g.region ++ [x], noted := noted } := by
            rw [e]
            by_cases hyn : y.number ∈ g.noted
            · exact ⟨g.noted, List.Subset.refl _, hyn, h.noted, by simp [hyn]⟩
            · refine ⟨g.noted ++ [y.number], List.subset_append_left _ _, by simp, fun n hn => ?_, by simp [hnone, hyn]⟩
              obtain hn | hn := List.mem_append.1 hn
              · exact h.noted n hn
              · exact ⟨y, hy, (List.mem_singleton.1 hn).symm⟩
          obtain ⟨noted, hsub, hyn, hall, heq⟩ := hnext
          rw [heq]
          obtain ⟨h1, h2, h3⟩ := ih hrest (hsound noted hsub hyn hall)
          refine ⟨h1, (hgrows noted hsub).trans h2, fun hn z hz => ?_⟩
          obtain rfl | hz := List.mem_cons.1 hz
          · exact h2.region.subset (by simp)
          · exact h3 hn z hz

/-- 02 R32: one valve of a segment's incidence list. At the end its far segment is in the region, or the valve is usable,
unless the growth stops. -/
theorem growValve_sound {s : State} {inc : Incident} (segment : Nat) {g : Growth} (h : GrowthSound s inc g)
    (e : Nat × ValveRec) :
    GrowthSound s inc (s.growValve inc segment g e) ∧ Grows g (s.growValve inc segment g e)
      ∧ ((s.growValve inc segment g e).stop = none →
          inSegments (e.2.farEnd segment) (s.growValve inc segment g e).region = true ∨ s.usable inc e.1 e.2 = true) := by
  unfold State.growValve; dsimp only
  split
  · next hstop => exact ⟨h, .refl g, fun hn => by simp [hn] at hstop⟩
  split
  · next hin => exact ⟨h, .refl g, fun _ => .inl hin⟩
  split
  · next hus => exact ⟨h, .refl g, fun _ => .inr hus⟩
  split
  · next hrun _ _ _ =>
    exact ⟨h.stopped _, ⟨List.prefix_refl _, List.Subset.refl _, fun hs => absurd hs hrun⟩, fun hn => by cases hn⟩
  · next hrun hnotin _ hfar =>
    have hnone : g.stop = none := by simpa using hrun
    have hout : e.2.farEnd segment ∉ g.region := fun hm => hnotin (mem_inSegments.2 ⟨hfar, hm⟩)
    split
    · next y hy =>
      have hmem := List.mem_of_find?_eq_some hy
      have hin : inSegments (e.2.farEnd segment) y.region = true := by simpa using List.find?_some hy
      obtain ⟨h1, h2, h3⟩ := appendRegion_sound hmem y.region (fun _ => id) h
      exact ⟨h1, h2, fun hn => .inl (mem_inSegments.2 ⟨hfar, h3 hn _ (mem_inSegments.1 hin).2⟩)⟩
    · next hclaim =>
      have hun : s.Unclaimed inc.number (e.2.farEnd segment) := fun y hy hm =>
        List.find?_eq_none.1 hclaim y hy (mem_inSegments.2 ⟨hfar, hm⟩)
      obtain ⟨-, e'⟩ | ⟨hroom, e'⟩ := append_cases g (e.2.farEnd segment)
      · rw [e']
        exact ⟨h.stopped _, ⟨List.prefix_refl _, List.Subset.refl _, fun hs => absurd hs hrun⟩, fun hn => by cases hn⟩
      · rw [e']
        exact ⟨h.joined hout hroom (List.Subset.refl _) h.noted (.inr hun),
          ⟨List.prefix_append _ _, List.Subset.refl _, fun hs => absurd hs hrun⟩,
          fun _ => .inl (mem_inSegments.2 ⟨hfar, by simp⟩)⟩

/-- What the examination of a segment has made sure of each valve of its incidence list. -/
abbrev State.Examined (s : State) (inc : Incident) (segment : Nat) (es : Table ValveRec) (region : List Nat) : Prop :=
  ∀ e ∈ es, inSegments (e.2.farEnd segment) region = true ∨ s.usable inc e.1 e.2 = true

theorem State.Examined.mono {s : State} {inc : Incident} {segment : Nat} {es : Table ValveRec} {r r' : List Nat}
    (h : s.Examined inc segment es r) (hr : r <+: r') : s.Examined inc segment es r' := fun e he =>
  (h e he).imp_left fun hin => mem_inSegments.2 ⟨(mem_inSegments.1 hin).1, hr.subset (mem_inSegments.1 hin).2⟩

theorem growValves_sound {s : State} {inc : Incident} (segment : Nat) (es : Table ValveRec) {g : Growth}
    (h : GrowthSound s inc g) :
    GrowthSound s inc (es.foldl (s.growValve inc segment) g) ∧ Grows g (es.foldl (s.growValve inc segment) g)
      ∧ ((es.foldl (s.growValve inc segment) g).stop = none →
          s.Examined inc segment es (es.foldl (s.growValve inc segment) g).region) := by
  induction es generalizing g with
  | nil => exact ⟨h, .refl g, fun _ e he => by cases he⟩
  | cons e es ih =>
    obtain ⟨h1, h2, h3⟩ := growValve_sound segment h e
    obtain ⟨i1, i2, i3⟩ := ih h1
    refine ⟨i1, h2.trans i2, fun hn d hd => ?_⟩
    obtain rfl | hd := List.mem_cons.1 hd
    · refine (h3 (i2.running hn)).imp_left fun hin => ?_
      exact mem_inSegments.2 ⟨(mem_inSegments.1 hin).1, i2.region.subset (mem_inSegments.1 hin).2⟩
    · exact i3 hn d hd

/-- 02 R31: the growth from a place on. With fuel for every segment that the region may ever hold, and without a stop, every
segment of the final region from that place on has been examined. -/
theorem growFrom_sound {s : State} {inc : Incident} (n place : Nat) {g : Growth} (h : GrowthSound s inc g) :
    GrowthSound s inc (s.growFrom inc n place g) ∧ Grows g (s.growFrom inc n place g)
      ∧ (max regionCap inc.region.length < n + place → (s.growFrom inc n place g).stop = none →
          ∀ i ≥ place, ∀ x, (s.growFrom inc n place g).region[i]? = some x →
            s.Examined inc x (s.map.incidence x) (s.growFrom inc n place g).region) := by
  induction n generalizing place g with
  | zero =>
    refine ⟨h, .refl g, fun hf _ i hi x hx => ?_⟩
    have hlen := (List.getElem?_eq_some_iff.1 hx).1
    have := h.length
    simp only [State.growFrom] at hlen
    omega
  | succ n ih =>
    simp only [State.growFrom]
    split
    · next hstop => exact ⟨h, .refl g, fun _ hn => by simp [hn] at hstop⟩
    · split
      · next segment hseg =>
        obtain ⟨h1, h2, h3⟩ := growValves_sound segment (s.map.incidence segment) h
        obtain ⟨i1, i2, i3⟩ := ih (place + 1) h1
        refine ⟨i1, h2.trans i2, fun hf hn i hi x hx => ?_⟩
        by_cases e : i = place
        · subst e
          obtain ⟨tail, ht⟩ := (h2.trans i2).region
          rw [← ht, List.getElem?_append_left (List.getElem?_eq_some_iff.1 hseg).1, hseg] at hx
          cases hx
          exact (h3 (i2.running hn)).mono i2.region
        · exact i3 (by omega) hn i (by omega) x hx
      · next hend =>
        refine ⟨h, .refl g, fun _ _ i hi x hx => ?_⟩
        have hlen := (List.getElem?_eq_some_iff.1 hx).1
        have := List.getElem?_eq_none_iff.1 hend
        omega

theorem grow_sound (s : State) (inc : Incident) :
    GrowthSound s inc (s.grow inc) ∧ ((s.grow inc).stop = none →
      ∀ x ∈ (s.grow inc).region, s.Examined inc x (s.map.incidence x) (s.grow inc).region) := by
  have h0 : GrowthSound s inc { region := inc.region, noted := [], stop := none } :=
    ⟨List.prefix_refl _, id, le_max_right _ _, fun x hx => .inl hx, by simp⟩
  obtain ⟨h1, -, h3⟩ := growFrom_sound (inc.region.length + regionCap + 1) 0 h0
  refine ⟨h1, fun hn x hx => ?_⟩
  obtain ⟨i, hi⟩ := List.getElem?_of_mem hx
  exact h3 (by omega) hn i (Nat.zero_le i) x hi

/-! ### A plan's region -/

theorem mem_activeIncidents {s : State} {y : Incident} :
    y ∈ s.activeIncidents ↔ (∃ k, (k, y) ∈ s.engine.slots) ∧ y.state.active = true := by
  simp [State.activeIncidents]

theorem mem_otherActive {s : State} {n : Nat} {y : Incident} :
    y ∈ s.otherActive n ↔ y ∈ s.activeIncidents ∧ y.number ≠ n := by
  simp only [State.otherActive, State.activeIncidents, List.mem_filter, Bool.and_eq_true, bne_iff_ne, ne_eq]
  tauto

/-- Two active incidents with a segment in common are one. -/
theorem eq_of_mem_regions {l : List Incident} (h : (l.flatMap (·.region)).Nodup) {a b : Incident} (ha : a ∈ l)
    (hb : b ∈ l) {x : Nat} (hxa : x ∈ a.region) (hxb : x ∈ b.region) : a = b := by
  by_contra hne
  have hpair := (List.nodup_flatMap.1 h).2
  have : Std.Symm (Function.onFun List.Disjoint fun i : Incident => i.region) := ⟨fun _ _ hd => hd.symm⟩
  exact hpair.forall ha hb hne hxa hxb

/-- Settles O30, by the invariant of the growth. -/
theorem planRegionGrowsFromTheRecord : Obligations.PlanRegionGrowsFromTheRecord := by
  intro s inc hnd hlen
  obtain ⟨h, -⟩ := grow_sound s inc
  refine ⟨h.recorded, h.nodup hnd, h.length.trans (by simp [regionCap, hlen]), ?_⟩
  rintro other hother hne hapart hdis ⟨x, hxo, hxp⟩
  have hmem : other ∈ s.otherActive inc.number := mem_otherActive.2 ⟨hother, hne⟩
  obtain hx | ⟨y, hy, hxy, hyn⟩ | hun := h.origin x hxp
  · exact absurd hx (hapart x hxo)
  · rw [eq_of_mem_regions hdis hother (mem_otherActive.1 hy).1 hxo hxy]; exact hyn
  · exact absurd hxo (hun other hmem)

/-! ### The boundary set (02 R36 to R38) -/

/-- 02 R37: closing sequence order of the valves of a table. -/
abbrev SequenceBefore (key : Nat × ValveRec → Nat) (d e : Nat × ValveRec) : Prop :=
  key d < key e ∨ key d = key e ∧ d.1 < e.1

theorem mem_insertByKey {key : Nat × ValveRec → Nat} {d e : Nat × ValveRec} {t : Table ValveRec} :
    d ∈ insertByKey key e t ↔ d = e ∨ d ∈ t := by
  induction t with
  | nil => simp [insertByKey]
  | cons x t ih =>
    simp only [insertByKey]; split
    · simp
    · simp only [List.mem_cons, ih]; tauto

/-- A valve with an id below all those in order finds its place among them. -/
theorem pairwise_insertByKey {key : Nat × ValveRec → Nat} {e : Nat × ValveRec} {t : Table ValveRec}
    (h : t.Pairwise (SequenceBefore key)) (hlow : ∀ d ∈ t, e.1 < d.1) :
    (insertByKey key e t).Pairwise (SequenceBefore key) := by
  induction t with
  | nil => simp [insertByKey]
  | cons x t ih =>
    obtain ⟨hx, ht⟩ := List.pairwise_cons.1 h
    simp only [insertByKey]; split
    · next hle =>
      refine List.pairwise_cons.2 ⟨fun d hd => ?_, h⟩
      have hkey : key x ≤ key d := by
        obtain rfl | hd := List.mem_cons.1 hd
        · exact Nat.le_refl _
        · obtain hlt | ⟨heq, -⟩ := hx d hd <;> omega
      obtain hlt | heq := Nat.lt_or_eq_of_le (hle.trans hkey)
      · exact .inl hlt
      · exact .inr ⟨heq, hlow d hd⟩
    · next hgt =>
      refine List.pairwise_cons.2 ⟨fun d hd => ?_, ih ht fun d hd => hlow d (List.mem_cons_of_mem _ hd)⟩
      obtain rfl | hd := mem_insertByKey.1 hd
      · exact .inl (by omega)
      · exact hx d hd

theorem pairwise_closingSequence (key : Nat × ValveRec → Nat) {t : Table ValveRec} (h : Table.Wf t) :
    (t.foldr (insertByKey key) []).Pairwise (SequenceBefore key)
      ∧ ∀ d, d ∈ t.foldr (insertByKey key) [] ↔ d ∈ t := by
  induction t with
  | nil => simp
  | cons e t ih =>
    simp only [Table.Wf, Table.keys, List.map_cons, List.pairwise_cons] at h
    obtain ⟨ih1, ih2⟩ := ih h.2
    simp only [List.foldr_cons]
    exact ⟨pairwise_insertByKey ih1 fun d hd => h.1 _ (List.mem_map_of_mem ((ih2 d).1 hd)),
      fun d => by rw [mem_insertByKey, ih2, List.mem_cons]⟩

theorem Table.wf_filter {α : Type} {t : Table α} (h : Table.Wf t) (f : Nat × α → Bool) : Table.Wf (t.filter f) :=
  h.sublist (List.filter_sublist.map _)

/-- 02 R36: the boundary set is the valves with exactly one end in the region. -/
theorem mem_boundarySet {s : State} (h : Table.Wf s.map.valves) (region : List Nat) (v : Nat) :
    v ∈ s.boundarySet region ↔ ∃ r, Table.get s.map.valves v = some r ∧ r.bounds region = true := by
  obtain ⟨-, hmem⟩ := pairwise_closingSequence s.sequenceKey (Table.wf_filter h fun e => e.2.bounds region)
  simp only [State.boundarySet, List.mem_map, hmem, List.mem_filter]
  constructor
  · rintro ⟨e, ⟨he, hb⟩, rfl⟩; exact ⟨e.2, Table.get_of_mem h he, hb⟩
  · rintro ⟨r, hr, hb⟩; exact ⟨(v, r), ⟨Table.mem_of_get hr, hb⟩, rfl⟩

theorem Operability.code_inj {a b : Operability} : a.code = b.code ↔ a = b := by
  cases a <;> cases b <;> decide

theorem Operability.code_le (a : Operability) : a.code ≤ 2 := by cases a <;> decide

/-- 02 R37: the boundary set stands in closing sequence order. -/
theorem pairwise_boundarySet {s : State} (h : Table.Wf s.map.valves) (region : List Nat) :
    (s.boundarySet region).Pairwise fun u v =>
      s.rankOf u < s.rankOf v
        ∨ s.rankOf u = s.rankOf v
          ∧ ((s.dyn u).operability.code < (s.dyn v).operability.code
            ∨ (s.dyn u).operability = (s.dyn v).operability ∧ u < v) := by
  obtain ⟨hpair, hmem⟩ := pairwise_closingSequence s.sequenceKey (Table.wf_filter h fun e => e.2.bounds region)
  have hrank : ∀ e ∈ s.map.valves, s.rankOf e.1 = e.2.closingRank := fun e he => by
    simp only [State.rankOf, Table.get_of_mem h (k := e.1) (x := e.2) he]
  rw [State.boundarySet, List.pairwise_map]
  refine hpair.imp_of_mem fun {d e} hd he hde => ?_
  rw [hrank d (List.mem_filter.1 ((hmem d).1 hd)).1, hrank e (List.mem_filter.1 ((hmem e).1 he)).1,
    ← Operability.code_inj]
  have h1 := (s.dyn d.1).operability.code_le
  have h2 := (s.dyn e.1).operability.code_le
  simp only [SequenceBefore, State.sequenceKey] at hde
  omega

theorem bounds_iff (r : ValveRec) (region : List Nat) :
    r.bounds region = true ↔
      (r.endA ≠ 0 ∧ r.endA ∈ region) ∧ ¬(r.endB ≠ 0 ∧ r.endB ∈ region)
        ∨ ¬(r.endA ≠ 0 ∧ r.endA ∈ region) ∧ (r.endB ≠ 0 ∧ r.endB ∈ region) := by
  rw [← mem_inSegments, ← mem_inSegments, ValveRec.bounds]
  cases inSegments r.endA region <;> cases inSegments r.endB region <;> simp

/-- A boundary valve's end in the region has been examined, and its far end is not in the region: the valve is usable. -/
theorem usable_of_bounds {s : State} {inc : Incident} {region : List Nat}
    (hex : ∀ x ∈ region, s.Examined inc x (s.map.incidence x) region) {v : Nat} {r : ValveRec}
    (hr : (v, r) ∈ s.map.valves) (hb : r.bounds region = true) : s.usable inc v r = true := by
  have hinc (x : Nat) (hx : r.endA = x ∨ r.endB = x) : (v, r) ∈ s.map.incidence x :=
    List.mem_filter.2 ⟨hr, by simpa using hx⟩
  obtain ⟨⟨-, ha⟩, hout⟩ | ⟨hout, ⟨-, hbm⟩⟩ := (bounds_iff r region).1 hb
  · refine (hex _ ha _ (hinc _ (.inl rfl))).resolve_left fun hin => hout (mem_inSegments.1 ?_)
    simpa [ValveRec.farEnd] using hin
  · refine (hex _ hbm _ (hinc _ (.inr rfl))).resolve_left fun hin => ?_
    simp only [ValveRec.farEnd] at hin
    split at hin
    · next e => exact hout (mem_inSegments.1 (by rw [e]; exact hin))
    · exact hout (mem_inSegments.1 hin)

/-- 02 R45: a plan without a cause has not stopped growing, and its whole boundary set is within the cap. -/
theorem uncontainedCause_none {stop : Option Cause} {n : Nat} (h : uncontainedCause stop n = none) :
    stop = none ∧ n ≤ boundaryCap := by
  unfold uncontainedCause at h
  split at h
  · cases h
  · split at h
    · cases h
    · exact ⟨rfl, by omega⟩

/-- Settles O29: growth that has not stopped has examined every segment of the region. -/
theorem containedPlanHasAUsableBoundary : Obligations.ContainedPlanHasAUsableBoundary := by
  intro s inc hwf hcause p
  obtain ⟨hstop, hcap⟩ := uncontainedCause_none hcause
  have hb : p.boundary = s.boundarySet p.region := List.take_of_length_le hcap
  have hmem (v : Nat) : v ∈ p.boundary ↔ ∃ r, Table.get s.map.valves v = some r ∧ r.bounds p.region = true := by
    rw [hb, mem_boundarySet hwf]
  refine ⟨fun v => ?_, by rw [hb]; exact hcap, fun v hv r hr => ?_, by rw [hb]; exact pairwise_boundarySet hwf _⟩
  · rw [hmem]; exact exists_congr fun r => and_congr_right fun _ => bounds_iff r p.region
  · obtain ⟨r', hr', hbr⟩ := (hmem v).1 hv
    rw [hr] at hr'; cases hr'
    exact usable_of_bounds ((grow_sound s inc).2 hstop) (Table.mem_of_get hr) hbr

end Sys2Proof.Machine
end

section
/-! PROOFS. Declarations, publications and merges keep every invariant (02 R46, R47; 03 R57, R73 to R77). -/

namespace Sys2Proof.Machine

open Sys2Proof

/-! ### A declaration -/

/-- 03 R49: the lowest FREE slot. -/
theorem freeSlot?_eq_some {s : State} {k : Nat} (h : s.freeSlot? = some k) :
    k ≤ 3 ∧ s.slot k = none ∧ ∀ j < k, s.slot j ≠ none := by
  unfold State.freeSlot? at h
  have hnone := List.find?_some h
  obtain ⟨i, hi, hget, hbefore⟩ := List.find?_eq_some_iff_getElem.1 h |>.2
  have hk : k = i := by
    have hall : ∀ i (hi : i < allSlots.length), allSlots[i] = i := by decide
    rw [← hget, hall]
  subst hk
  refine ⟨by simp [allSlots] at hi; omega, by simpa using hnone, fun j hj => ?_⟩
  have hall : ∀ i (hi : i < allSlots.length), allSlots[i] = i := by decide
  have := hbefore j hj
  rw [hall] at this
  simpa [Option.isSome_iff_ne_none] using this

/-- 03 R49: no slot is FREE. -/
theorem freeSlot?_eq_none {s : State} (h : s.freeSlot? = none) : ∀ k ≤ 3, s.slot k ≠ none := by
  intro k hk
  have := List.find?_eq_none.1 h k (by simp [allSlots]; omega)
  simpa using this

theorem absorber_eq_some {s : State} {x : Nat} {y : Incident} (h : s.absorber x = some y) :
    y ∈ s.activeIncidents ∧ x ∈ y.region := by
  have hm := List.mem_of_find?_eq_some h
  have hp := List.find?_some h
  simp only [Bool.and_eq_true] at hp
  exact ⟨List.mem_filter.2 ⟨hm, hp.1⟩, (mem_inSegments.1 hp.2).2⟩

theorem absorber_eq_none {s : State} {x : Nat} (hx : x ≠ 0) (h : s.absorber x = none) :
    ∀ y ∈ s.activeIncidents, x ∉ y.region := by
  intro y hy hxy
  obtain ⟨hm, ha⟩ := List.mem_filter.1 hy
  have := List.find?_eq_none.1 h y hm
  rw [ha, mem_inSegments.2 ⟨hx, hxy⟩] at this
  simp at this

theorem slots_length_le {s : State} (h : s.SlotsSound) : s.engine.slots.length ≤ 4 := by
  have hnd : (Table.keys s.engine.slots).Nodup := h.wf.imp Nat.ne_of_lt
  have hsub : Table.keys s.engine.slots ⊆ List.range 4 := by
    intro k hk
    obtain ⟨e, he, rfl⟩ := List.mem_map.1 hk
    have := (h.2.1 e he).1
    simp; omega
  have := (hnd.subperm hsub).length_le
  simpa [Table.keys] using this

/-- `t` has the slots of `s` and in slot `k`, which was FREE, a new incident with the counter's number; the counter has gone on
to a number that is not in use. -/
structure Added (s t : State) (k : Nat) (new : Incident) : Prop where
  free : s.slot k = none
  low : k ≤ 3
  number : new.number = s.engine.counter
  slots : t.engine.slots = Table.put s.engine.slots k new
  counter : t.engine.counter
    = skipNumbers ((Table.put s.engine.slots k new).map (·.2.number)) (Table.put s.engine.slots k new).length
        (succNumber s.engine.counter)

namespace Added

variable {s t : State} {k : Nat} {new : Incident}

theorem slot (h : Added s t k new) (j : Nat) : t.slot j = if j = k then some new else s.slot j := by
  rw [State.slot, h.slots, Table.get_put]; rfl

theorem wf (h : Added s t k new) (hs : s.SlotsSound) : Table.Wf t.engine.slots := by
  rw [h.slots]; exact Table.wf_put _ _ hs.wf

theorem slot_ne (h : Added s t k new) {j : Nat} {a : Incident} (hj : s.slot j = some a) :
    j ≠ k ∧ t.slot j = some a := by
  have hjk : j ≠ k := by rintro rfl; rw [h.free] at hj; cases hj
  exact ⟨hjk, by rw [h.slot, if_neg hjk, hj]⟩

theorem backward (h : Added s t k new) {j : Nat} {b : Incident} (hj : t.slot j = some b) :
    (j ≠ k ∧ s.slot j = some b) ∨ (j = k ∧ b = new) := by
  rw [h.slot] at hj
  split at hj
  · next e => cases hj; exact .inr ⟨e, rfl⟩
  · next e => exact .inl ⟨e, hj⟩

theorem sound (h : Added s t k new) (hs : s.SlotsSound) : t.SlotsSound := by
  obtain ⟨-, hrange, hinj, hc, hc'⟩ := slotsSound_iff.1 hs
  have hlen : (Table.put s.engine.slots k new).length < 255 := by
    have hkeys : Table.Wf (Table.put s.engine.slots k new) := Table.wf_put _ _ hs.wf
    have hnd : (Table.keys (Table.put s.engine.slots k new)).Nodup := hkeys.imp Nat.ne_of_lt
    have hsub : Table.keys (Table.put s.engine.slots k new) ⊆ List.range 4 := by
      intro j hj
      obtain ⟨e, he, rfl⟩ := List.mem_map.1 hj
      obtain rfl | he := Table.mem_put he
      · have := h.low; simp; omega
      · have := (hs.2.1 e he).1; simp; omega
    have := (hnd.subperm hsub).length_le
    simp [Table.keys] at this; omega
  obtain ⟨hs1, hs2⟩ := succNumber_range s.engine.counter hc'
  have hfresh := skipNumbers_fresh (used := (Table.put s.engine.slots k new).map (·.2.number)) hs1 hs2
    (by simpa using hlen)
  rw [List.length_map, ← h.counter, ← h.slots] at hfresh
  obtain ⟨hf, hf1, hf2⟩ := hfresh
  refine slotsSound_iff.2 ⟨h.wf hs, fun j a hj => ?_, fun i j a b hi hj hab => ?_, hf1, hf2⟩
  · have hne : a.number ≠ t.engine.counter := fun e => hf (e ▸ List.mem_map_of_mem (Table.mem_of_get hj))
    obtain ⟨-, hj⟩ | ⟨rfl, rfl⟩ := h.backward hj
    · obtain ⟨h1, h2, h3, -⟩ := hrange j a hj
      exact ⟨h1, h2, h3, hne⟩
    · exact ⟨h.low, by rw [h.number]; exact hc, by rw [h.number]; exact hc', hne⟩
  · obtain ⟨hik, hi⟩ | ⟨rfl, rfl⟩ := h.backward hi <;> obtain ⟨hjk, hj⟩ | ⟨rfl, rfl⟩ := h.backward hj
    · exact hinj i j a b hi hj hab
    · exact absurd (hab.trans h.number) (hrange i a hi).2.2.2
    · exact absurd (hab.symm.trans h.number) (hrange j b hj).2.2.2
    · rfl

/-- The engine's invariants, for an incident in RUN that holds nothing yet and whose region is unclaimed. -/
theorem keepsEngine (h : Added s t k new) (hs : s.SlotsSound) (hmode : t.store.mode = .run)
    (hstate : new.state = .planning) (hnd : new.region.Nodup)
    (hunclaimed : ∀ y ∈ s.activeIncidents, List.Disjoint new.region y.region)
    (hq : t.engine.consentQueue = s.engine.consentQueue) (hqueue : t.planner.queue = s.planner.queue)
    (hplan : t.planner.plan.map (·.incident) = s.planner.plan.map (·.incident)) (hd : t.drive = s.drive) :
    KeepsEngine s t where
  slots := h.sound hs
  planner hp := by
    obtain ⟨hqs, hps⟩ := (plannerSound_iff hs.wf).1 hp
    have hplannable : ∀ n, s.Plannable n → t.Plannable n := fun n ⟨j, a, hj, ha, hr⟩ =>
      ⟨j, a, (h.slot_ne hj).2, ha, hr⟩
    refine plannerSound_of_eq (s := { t with planner := s.planner }) rfl hqueue hplan ?_
    exact (plannerSound_iff (by exact h.wf hs)).2
      ⟨⟨hqs.nodup, hqs.apart, hqs.empty, fun n hn => hplannable n (hqs.queued n hn)⟩, fun p hp => hplannable _ (hps p hp)⟩
  idle _ hm := absurd hmode hm
  regions hr := by
    rw [regionsDisjoint_iff hs] at hr
    rw [regionsDisjoint_iff (h.sound hs)]
    have hapart : ∀ j a, s.slot j = some a → a.state.active = true → List.Disjoint new.region a.region :=
      fun j a hj ha => hunclaimed a (mem_activeIncidents.2 ⟨⟨j, Table.mem_of_get hj⟩, ha⟩)
    refine ⟨fun j b hj hb => ?_, fun i j a b hij hi hj ha hb => ?_⟩
    · obtain ⟨-, hj⟩ | ⟨-, rfl⟩ := h.backward hj
      · exact hr.1 j b hj hb
      · exact hnd
    · obtain ⟨hik, hi⟩ | ⟨rfl, rfl⟩ := h.backward hi <;> obtain ⟨hjk, hj⟩ | ⟨rfl, rfl⟩ := h.backward hj
      · exact hr.2 i j a b hij hi hj ha hb
      · exact (hapart i a hi ha).symm
      · exact hapart j b hj hb
      · exact absurd rfl hij
  consent hc := by
    obtain ⟨hcn, hin, hout⟩ := (consentSound_iff hs.wf).1 hc
    rw [consentSound_iff (h.wf hs), hq]
    refine ⟨hcn, fun n hn => ?_, fun j b hj hb => ?_⟩
    · obtain ⟨j, a, hj, ha, haa⟩ := hin n hn
      exact ⟨j, a, (h.slot_ne hj).2, ha, haa⟩
    · obtain ⟨-, hj⟩ | ⟨-, rfl⟩ := h.backward hj
      · exact hout j b hj hb
      · rw [hstate] at hb; cases hb
  holders hv hh := by
    rw [holdersSound_iff hs.wf hv.1] at hh
    rw [holdersSound_iff (h.wf hs) (by rw [hd]; exact hv.1)]
    intro v n hn
    rw [State.dyn, hd] at hn
    obtain ⟨j, a, hj, ha, hr⟩ := hh v n hn
    exact ⟨j, a, (h.slot_ne hj).2, ha, hr⟩

end Added

/-- The state with the new incident and the counter gone on, before anything is told of it. -/
abbrev State.added (s : State) (k segment group : Nat) (always : Bool) (origin : Origin) : State :=
  advanceCounter (putSlot k (newIncident s.engine.counter segment group always origin s.reports.timeBase) s)

theorem added_advanceCounter {s : State} {k : Nat} (hk : s.slot k = none) (hlow : k ≤ 3) (segment group : Nat)
    (always : Bool) (origin : Origin) :
    Added s (s.added k segment group always origin) k
      (newIncident s.engine.counter segment group always origin s.reports.timeBase) :=
  ⟨hk, hlow, rfl, rfl, by simp [State.added, advanceCounter, State.numbers]⟩

/-- 03 R57: a declaration in RUN, of a segment that no active incident's region holds, into a FREE slot. -/
theorem keeps_createIncident {s : State} {k segment : Nat} (hk : s.slot k = none) (hlow : k ≤ 3)
    (hmode : s.store.mode = .run) (hun : ∀ y ∈ s.activeIncidents, segment ∉ y.region) (group : Nat) (always : Bool)
    (origin : Origin) : Keeps s (createIncident k segment group always origin s) := by
  have hadd : Keeps s (s.added k segment group always origin) :=
    ⟨.of_eq rfl rfl rfl rfl rfl rfl rfl rfl, fun hs =>
      (added_advanceCounter hk hlow segment group always origin).keepsEngine hs hmode rfl (by simp [newIncident])
        (fun y hy => by simpa [newIncident] using hun y hy) rfl rfl rfl rfl⟩
  exact ((hadd.trans (quiet_markStaleForOthers _ _).keepsAll).trans (keeps_planRequest _ _)).trans
    (Quiet.raise _ _ _ _ _).keepsAll

theorem keeps_declareBurst {s : State} {segment : Nat} (hx : segment ≠ 0) (hmode : s.store.mode = .run) (group : Nat)
    (always : Bool) (origin : Origin) : Keeps s (declareBurst segment group always origin s).1 := by
  unfold declareBurst
  split
  · exact .refl s
  · next habs =>
    split
    · exact .refl s
    · next k hk =>
      obtain ⟨hlow, hfree, -⟩ := freeSlot?_eq_some hk
      exact keeps_createIncident hfree hlow hmode (absorber_eq_none hx habs) _ _ _

/-! ### Publication (02 R47) -/

/-- A region that is written for an incident: no segment twice, and none of another active incident's. -/
abbrev State.RegionFits (s : State) (k : Nat) (region : List Nat) : Prop :=
  region.Nodup ∧ ∀ j a, j ≠ k → s.slot j = some a → a.state.active = true → List.Disjoint region a.region

/-- 02 R47: publication up to the engine's transition, whatever the incident of the plan that ends. -/
theorem keepsBlocks_publish (k : Nat) (p : Plan) (s : State) : KeepsBlocks s (publish k p s) := by
  have hend (u : State) : KeepsBlocks u (endPlan u) := (keeps_endPlan u).blocks
  unfold publish; split
  · next inc hk =>
    dsimp only
    have h1 : KeepsBlocks s (raisePlanReady (inc.publish p) (endPlan (putSlot k (inc.publish p) s))) :=
      ((keepsBlocks_putSlot _ _ _).trans (hend _)).trans (keepsBlocks_raise _ _ _ _ _)
    refine h1.trans ?_
    unfold actOnPublication; split
    · split
      · exact (keepsBlocks_quitConsent _ _).trans (keepsBlocks_enterState _ _ _)
      split
      · unfold awaitConsent; split
        · dsimp only
          have hw : ∀ u w : State, KeepsBlocks u w → KeepsBlocks u (match w.slot k with
              | some inc => raiseConsentNeeded inc w
              | none => w) := fun u w h => by
            split
            · exact h.trans (keepsBlocks_raise _ _ _ _ _)
            · exact h
          refine hw _ _ (KeepsBlocks.trans ?_ (keepsBlocks_enterState _ _ _))
          split
          · exact .refl _
          · exact (keepsBlocks_setConsent _ _ _).trans (.of_eq rfl rfl rfl rfl rfl rfl rfl rfl)
        · exact .refl _
      split
      · exact ((keepsBlocks_quitConsent _ _).trans (keepsBlocks_setConsent _ _ _)).trans (keepsBlocks_enterState _ _ _)
      · exact ((keepsBlocks_quitConsent _ _).trans (keepsBlocks_setConsent _ _ _)).trans (keepsBlocks_enterClosing _ _)
    · exact .refl _
  · exact hend s

/-- The invariants of the engine while the plan in progress is about to end: its incident need not be in a slot any more. -/
structure KeepsEnding (s t : State) : Prop where
  slots : t.SlotsSound
  planner : s.PlannerSound → t.PlanQueueSound
  idle : s.IdleOutsideRun → t.IdleOutsideRun
  regions : s.RegionsDisjoint → t.RegionsDisjoint
  consent : s.ConsentSound → t.ConsentSound
  valves : s.ValvesSound → t.ValvesSound
  holders : s.ValvesSound → s.HoldersSound → t.HoldersSound

/-- Ending the plan and going on makes the planner sound again. -/
theorem KeepsEnding.endPlan {s t : State} (h : KeepsEnding s t) : KeepsEngine s (endPlan t) where
  slots := h.slots
  planner hp := plannerSound_endPlan h.slots.wf (h.planner hp)
  idle := h.idle
  regions := h.regions
  consent := h.consent
  holders := h.holders

theorem KeepsEngine.trans {s t u : State} (a : KeepsEngine s t) (hv : s.ValvesSound → t.ValvesSound)
    (b : KeepsEngine t u) : KeepsEngine s u :=
  ⟨b.slots, b.planner ∘ a.planner, b.idle ∘ a.idle, b.regions ∘ a.regions, b.consent ∘ a.consent,
    fun h hh => b.holders (hv h) (a.holders h hh)⟩

/-- 02 R47: the record written, before the plan ends. -/
theorem keepsEnding_putPublished {s t : State} {k : Nat} {inc : Incident} {p : Plan} (h : KeepsEnding s t)
    (hk : t.slot k = some inc) (hr : inc.state ≠ .restoring) (hfit : s.RegionsDisjoint → t.RegionFits k p.region) :
    KeepsEnding s (putSlot k (inc.publish p) t) where
  slots := (rewritten_putSlot (new := inc.publish p) hk rfl).sound h.slots
  planner hp := by
    have hw := rewritten_putSlot (new := inc.publish p) hk rfl
    obtain ⟨h1, h2, h3, h4⟩ := h.planner hp
    refine ⟨h1, h2, h3, fun n hn => ?_⟩
    obtain ⟨j, a, hj, ha, har⟩ := h4 n hn
    obtain ⟨-, hj⟩ | ⟨-, rfl, hj⟩ := hw.forward hj
    · exact ⟨j, a, hj, ha, har⟩
    · exact ⟨j, _, hj, ha, har⟩
  idle hi := (rewritten_putSlot (new := inc.publish p) hk rfl).idle (h.idle hi)
  regions hrd := (rewritten_putSlot (new := inc.publish p) hk rfl).regions h.slots (h.regions hrd)
    fun _ => ⟨(hfit hrd).1, (hfit hrd).2⟩
  consent hc := (rewritten_putSlot (new := inc.publish p) hk rfl).consent_same h.slots rfl Iff.rfl (h.consent hc)
  valves := h.valves
  holders hv hd := (rewritten_putSlot (new := inc.publish p) hk rfl).holders_same h.slots (h.valves hv).1 (h.valves hv).1
    (fun _ => List.Subset.refl _) (fun e => absurd e hr) (h.holders hv hd)

/-- 02 R47, 03 R60: a plan published into an incident's slot. -/
theorem keepsEngine_publish {s t : State} {k : Nat} {inc : Incident} {p : Plan} (h : KeepsEnding s t)
    (hk : t.slot k = some inc) (hr : inc.state ≠ .restoring) (hfit : s.RegionsDisjoint → t.RegionFits k p.region) :
    KeepsEngine s (publish k p t) := by
  have hput := keepsEnding_putPublished h hk hr hfit
  simp only [publish, hk]
  have hslot : (raisePlanReady (inc.publish p) (endPlan (putSlot k (inc.publish p) t))).slot k = some (inc.publish p) :=
    slot_putSlot_same t k _
  have hraise := (Quiet.raise .planReady (.incident (inc.publish p).number) (causeCode (inc.publish p).cause)
    [some (inc.publish p).customersInRegion, some (inc.publish p).customersInOutage,
      some (inc.publish p).region.length, some (inc.publish p).boundary.length]
    (endPlan (putSlot k (inc.publish p) t))).keepsAll
  have hact := keeps_actOnPublication hslot hr p.consentNeeded
  have hend := hput.endPlan
  exact hend.trans hput.valves ((hraise.trans hact).engine hend.slots)

theorem KeepsEnding.refl {s : State} (hs : s.SlotsSound) : KeepsEnding s s :=
  ⟨hs, fun hp => ((plannerSound_iff hs.wf).1 hp).1, id, id, id, id, fun _ => id⟩

/-- 02 R33: the region of a plan that notes no incident holds no other active incident's segment. -/
theorem regionFits_makePlan {s : State} (hs : s.SlotsSound) {k : Nat} {inc : Incident} (hk : s.slot k = some inc)
    (ha : inc.state.active = true) (hd : s.RegionsDisjoint) :
    (s.makePlan inc).region.Nodup ∧ ∀ j a, j ≠ k → s.slot j = some a → a.state.active = true →
      a.number ∉ (s.makePlan inc).noted → List.Disjoint (s.makePlan inc).region a.region := by
  obtain ⟨h, -⟩ := grow_sound s inc
  have hr := (regionsDisjoint_iff hs).1 hd
  refine ⟨h.nodup (hr.1 k inc hk ha), fun j a hjk hj haa hnoted x hx hxa => ?_⟩
  have hact : ∀ {i : Nat} {b : Incident}, s.slot i = some b → b.state.active = true → b ∈ s.activeIncidents :=
    fun hi hb => mem_activeIncidents.2 ⟨⟨_, Table.mem_of_get hi⟩, hb⟩
  have hother : a ∈ s.otherActive inc.number :=
    mem_otherActive.2 ⟨hact hj haa, fun e => hjk (hs.slot_inj hj hk e)⟩
  obtain hxi | ⟨y, hy, hxy, hyn⟩ | hun := h.origin x hx
  · exact hr.2 k j inc a (Ne.symm hjk) hk hj ha haa hxi hxa
  · rw [eq_of_mem_regions hd (mem_otherActive.1 hy).1 (hact hj haa) hxy hxa] at hyn
    exact hnoted hyn
  · exact hun a hother hxa

end Sys2Proof.Machine
end

section
/-! PROOFS. A merge, told by the state that it leaves (02 R46; 03 R73 to R77), and the plan's completion. -/

namespace Sys2Proof.Machine

open Sys2Proof

/-! ### The survivor takes over (03 R76) -/

theorem mem_replaceHolder {y w n : Nat} {hs : List Nat} :
    n ∈ replaceHolder y w hs ↔ (n ∈ hs ∧ n ≠ y) ∨ (n = w ∧ y ∈ hs) := by
  unfold replaceHolder
  split
  · next h =>
    have hy : y ∈ hs := by simpa using h
    simp only [mem_insertAscending, List.mem_filter, bne_iff_ne, ne_eq, hy, and_true]
    tauto
  · next h =>
    have hy : y ∉ hs := by simpa using h
    simp only [hy, and_false, or_false]
    exact ⟨fun hn => ⟨hn, fun e => hy (e ▸ hn)⟩, And.left⟩

theorem pairwise_replaceHolder {y w : Nat} {hs : List Nat} (h : hs.Pairwise (· < ·)) :
    (replaceHolder y w hs).Pairwise (· < ·) := by
  unfold replaceHolder
  split
  · exact pairwise_insertAscending (h.filter _)
  · exact h

theorem keepsBlocks_onDyn {v : Nat} {f : ValveDyn → ValveDyn} {s : State} (h : ∀ d, d.Sound → (f d).Sound) :
    KeepsBlocks s (onDyn v f s) :=
  { KeepsBlocks.refl s with valves := fun hs => hs.setDyn v (h _ (hs.dyn v)) }

theorem keepsBlocks_rewriteHolders (y w : Nat) (s : State) : KeepsBlocks s (rewriteHolders y w s) :=
  KeepsBlocks.foldl (fun _ v => keepsBlocks_onDyn (v := v) (f := fun d => d.rewrite y w)
    fun _ hd => ⟨hd.1, pairwise_replaceHolder hd.2⟩) _ _

theorem rewriteHolders_only (y w : Nat) (s : State) :
    rewriteHolders y w s = { s with drive := (rewriteHolders y w s).drive } := by
  have hfold : ∀ (vs : List Nat) (u : State), ∃ d,
      vs.foldl (fun s v => onDyn v (fun d => d.rewrite y w) s) u = { u with drive := d } := by
    intro vs
    induction vs with
    | nil => exact fun u => ⟨u.drive, rfl⟩
    | cons v vs ih => exact fun u => (ih _).imp fun d h => by rw [List.foldl_cons, h]; rfl
  obtain ⟨d, h⟩ := hfold (Table.keys s.drive.valves) s
  rw [rewriteHolders, h]

/-- One function applied to the records of some valve ids, where twice is as once. -/
theorem dyn_foldl_onDyn (f : ValveDyn → ValveDyn) (hf : ∀ d, f (f d) = f d) (vs : List Nat) (s : State) (v : Nat) :
    (vs.foldl (fun s v => onDyn v f s) s).dyn v = if v ∈ vs then f (s.dyn v) else s.dyn v := by
  induction vs generalizing s with
  | nil => rfl
  | cons u vs ih =>
    rw [List.foldl_cons, ih, dyn_onDyn]
    by_cases e : v = u
    · subst e; simp [hf]
    · simp [e]

/-- 03 R76: rewriting twice is rewriting once. -/
theorem rewrite_rewrite {y w : Nat} (h : w ≠ y) (d : ValveDyn) : (d.rewrite y w).rewrite y w = d.rewrite y w := by
  have hheld : replaceHolder y w (replaceHolder y w d.holders) = replaceHolder y w d.holders := by
    have hgone : y ∉ replaceHolder y w d.holders := fun hm => by
      obtain ⟨-, hn⟩ | ⟨hw, -⟩ := mem_replaceHolder.1 hm
      · exact hn rfl
      · exact h hw.symm
    exact if_neg fun hc => hgone (List.contains_iff_mem.1 hc)
  simp only [ValveDyn.rewrite, hheld, Option.map_map]
  cases d.move with
  | none => rfl
  | some m =>
    simp only [Option.map_some, Function.comp]
    by_cases hm : m.starter = some y
    · simp [hm, h]
    · simp [hm]

theorem dyn_rewriteHolders {y w : Nat} (h : w ≠ y) (s : State) (v : Nat) :
    (rewriteHolders y w s).dyn v = (s.dyn v).rewrite y w := by
  rw [rewriteHolders, dyn_foldl_onDyn _ (rewrite_rewrite h)]
  split
  · rfl
  · next h =>
    have hnone : Table.get s.drive.valves v = none := by
      cases hg : Table.get s.drive.valves v with
      | none => rfl
      | some d => exact absurd (List.mem_map_of_mem (Table.mem_of_get hg)) h
    simp only [State.dyn, hnone]; rfl

/-- The numbers of some incidents. -/
abbrev numbersOf (ys : List (Nat × Incident)) : List Nat := ys.map (·.2.number)

/-- What the survivor's taking over leaves: its record with another excluded list, and its number in the holder sets in the
place of the younger ones'. -/
structure TakenOver (s t : State) (k : Nat) (w : Incident) (ys : List (Nat × Incident)) : Prop where
  only : ∃ ex, t = { s with
    engine := { s.engine with slots := Table.put s.engine.slots k { w with excluded := ex } }, drive := t.drive }
  blocks : KeepsBlocks s t
  holders : ∀ v n, n ∈ (t.dyn v).holders ↔
    (n ∈ (s.dyn v).holders ∧ n ∉ numbersOf ys) ∨ (n = w.number ∧ ∃ y ∈ numbersOf ys, y ∈ (s.dyn v).holders)

theorem takenOver_one {s : State} {k : Nat} {w : Incident} (hk : s.slot k = some w) {y : Nat × Incident}
    (hy : w.number ≠ y.2.number) : TakenOver s (takeOver k y.2 s) k w [y] := by
  simp only [takeOver, hk]
  refine ⟨⟨_, rewriteHolders_only _ _ _⟩, (keepsBlocks_putSlot _ _ _).trans (keepsBlocks_rewriteHolders _ _ _),
    fun v n => ?_⟩
  rw [dyn_rewriteHolders hy]
  simpa [ValveDyn.rewrite] using mem_replaceHolder

theorem takenOver_foldl {s : State} {k : Nat} {w : Incident} (hs : s.SlotsSound) (hk : s.slot k = some w)
    (ys : List (Nat × Incident)) (hys : w.number ∉ numbersOf ys) :
    TakenOver s (ys.foldl (fun s e => takeOver k e.2 s) s) k w ys := by
  induction ys generalizing s w with
  | nil =>
    refine ⟨⟨w.excluded, ?_⟩, .refl s, fun v n => by simp [numbersOf]⟩
    exact (congrArg (fun u : State => u) (putSlot_self hs hk)).symm
  | cons y ys ih =>
    simp only [numbersOf, List.map_cons, List.mem_cons, not_or] at hys
    have h1 := takenOver_one hk hys.1
    obtain ⟨ex, e⟩ := h1.only
    have hrw : Rewritten s (takeOver k y.2 s) k w { w with excluded := ex } := ⟨hk, rfl, by rw [e], by rw [e], by rw [e]⟩
    have h2 := ih (hrw.sound hs) hrw.slot_same hys.2
    obtain ⟨ex', e'⟩ := h2.only
    refine ⟨⟨ex', ?_⟩, h1.blocks.trans h2.blocks, fun v n => ?_⟩
    · rw [List.foldl_cons, e', e]; simp
    · rw [List.foldl_cons, h2.holders v n]
      simp only [h1.holders]
      simp only [numbersOf, List.map_cons, List.map_nil, List.mem_cons, List.not_mem_nil, or_false, exists_eq_left,
        not_or, exists_eq_or_imp]
      constructor
      · rintro (⟨⟨ha, hb⟩ | ⟨ha, hb⟩, hc⟩ | ⟨ha, m, hm, ⟨hb, hc⟩ | ⟨rfl, hc⟩⟩)
        · exact .inl ⟨ha, hb, hc⟩
        · exact .inr ⟨ha, .inl hb⟩
        · exact .inr ⟨ha, .inr ⟨m, hm, hb⟩⟩
        · exact absurd hm hys.2
      · rintro (⟨ha, hb, hc⟩ | ⟨rfl, hb | ⟨m, hm, hb⟩⟩)
        · exact .inl ⟨.inl ⟨ha, hb⟩, hc⟩
        · exact .inl ⟨.inr ⟨rfl, hb⟩, hys.2⟩
        · by_cases e : m = y.2.number
          · exact .inl ⟨.inr ⟨rfl, e ▸ hb⟩, hys.2⟩
          · exact .inr ⟨rfl, m, hm, .inl ⟨hb, e⟩⟩

/-! ### The younger incidents go (03 R77) -/

/-- What the younger incidents leave behind: FREE slots, and neither of the two queues names them. -/
structure FoldedIn (s t : State) (ys : List (Nat × Incident)) : Prop where
  only : t = { s with engine := t.engine, planner := t.planner, reports := t.reports }
  counter : t.engine.counter = s.engine.counter
  wf : Table.Wf s.engine.slots → Table.Wf t.engine.slots
  slot : ∀ j, t.slot j = if j ∈ ys.map (·.1) then none else s.slot j
  consent : t.engine.consentQueue = s.engine.consentQueue.filter (· ∉ numbersOf ys)
  queue : t.planner.queue = s.planner.queue.filter (· ∉ numbersOf ys)
  plan : t.planner.plan = s.planner.plan
  blocks : KeepsBlocks s t

theorem foldedIn_one (k w : Nat) (y : Nat × Incident) (s : State) : FoldedIn s (foldIn k w y.1 y.2 s) [y] where
  only := by unfold foldIn; rw [leaveConsent_only]; rfl
  counter := by unfold foldIn; rw [leaveConsent_only]; rfl
  wf h := by unfold foldIn; rw [leaveConsent_only]; exact Table.wf_erase _ h
  slot j := by
    unfold foldIn; rw [leaveConsent_only]
    have := Table.get_erase s.engine.slots y.1 j
    simp only [List.map_cons, List.map_nil, List.mem_singleton]
    exact this
  consent := by
    have h : (foldIn k w y.1 y.2 s).engine.consentQueue = (leaveConsent y.2.number false s).engine.consentQueue := rfl
    rw [h, leaveConsent_queue]
    exact List.filter_congr fun n _ => by rw [Bool.eq_iff_iff]; simp
  queue := by
    unfold foldIn; rw [leaveConsent_only]
    exact List.filter_congr fun n _ => by rw [Bool.eq_iff_iff]; simp
  plan := by unfold foldIn; rw [leaveConsent_only]; rfl
  blocks := by
    have h : KeepsBlocks (leaveConsent y.2.number false s)
        (freeSlot y.1 (dropQueuedPlan y.2.number (leaveConsent y.2.number false s))) :=
      .of_eq rfl rfl rfl rfl rfl rfl rfl rfl
    exact ((keepsBlocks_leaveConsent _ _ _).trans h).trans (keepsBlocks_raise _ _ _ _ _)

theorem FoldedIn.trans {s t u : State} {ys zs : List (Nat × Incident)} (h : FoldedIn s t ys) (h' : FoldedIn t u zs) :
    FoldedIn s u (ys ++ zs) where
  only := by rw [h'.only, h.only]
  counter := h'.counter.trans h.counter
  wf := h'.wf ∘ h.wf
  slot j := by
    rw [h'.slot, h.slot]
    by_cases hz : j ∈ zs.map (·.1) <;> by_cases hy : j ∈ ys.map (·.1) <;> simp only [List.map_append, List.mem_append, hz, hy] <;> simp
  consent := by
    rw [h'.consent, h.consent, List.filter_filter]
    exact List.filter_congr fun n _ => by rw [Bool.eq_iff_iff]; simp [and_comm]
  queue := by
    rw [h'.queue, h.queue, List.filter_filter]
    exact List.filter_congr fun n _ => by rw [Bool.eq_iff_iff]; simp [and_comm]
  plan := h'.plan.trans h.plan
  blocks := h.blocks.trans h'.blocks

theorem foldedIn_nil (s : State) : FoldedIn s s [] :=
  ⟨rfl, rfl, id, by simp, by simp, by simp, rfl, .refl s⟩

theorem foldedIn_foldl (k w : Nat) (ys : List (Nat × Incident)) (s : State) :
    FoldedIn s (ys.foldl (fun s e => foldIn k w e.1 e.2 s) s) ys := by
  induction ys generalizing s with
  | nil => exact foldedIn_nil s
  | cons y ys ih => exact (foldedIn_one k w y s).trans (ih _)

/-! ### The state that a merge leaves -/

/-- 03 R74 to R77: both parts of a merge: the survivor with its region takes over, then the younger incidents go. -/
abbrev mergedState (k : Nat) (w : Incident) (region : List Nat) (ys : List (Nat × Incident)) (s : State) : State :=
  ys.foldl (fun s e => foldIn k w.number e.1 e.2 s)
    (ys.foldl (fun s e => takeOver k e.2 s) (putSlot k { w with region := region } s))

/-- What a merge leaves of the slots, the two queues and the holder sets. -/
structure Merged (s t : State) (k : Nat) (w : Incident) (region ex : List Nat) (ys : List (Nat × Incident)) : Prop where
  held : s.slot k = some w
  younger : ∀ y ∈ ys, s.slot y.1 = some y.2 ∧ y.1 ≠ k
  only : t = { s with engine := t.engine, planner := t.planner, drive := t.drive, reports := t.reports }
  counter : t.engine.counter = s.engine.counter
  wf : Table.Wf t.engine.slots
  slot : ∀ j, t.slot j =
    if j = k then some { w with region := region, excluded := ex } else if j ∈ ys.map (·.1) then none else s.slot j
  consent : t.engine.consentQueue = s.engine.consentQueue.filter (· ∉ numbersOf ys)
  queue : t.planner.queue = s.planner.queue.filter (· ∉ numbersOf ys)
  plan : t.planner.plan = s.planner.plan
  blocks : KeepsBlocks s t
  holders : ∀ v n, n ∈ (t.dyn v).holders ↔
    (n ∈ (s.dyn v).holders ∧ n ∉ numbersOf ys) ∨ (n = w.number ∧ ∃ y ∈ numbersOf ys, y ∈ (s.dyn v).holders)

theorem merged_mergedState {s : State} {k : Nat} {w : Incident} (hs : s.SlotsSound) (hk : s.slot k = some w)
    (region : List Nat) {ys : List (Nat × Incident)} (hys : ∀ y ∈ ys, s.slot y.1 = some y.2 ∧ y.1 ≠ k) :
    ∃ ex, Merged s (mergedState k w region ys s) k w region ex ys := by
  have hput := rewritten_putSlot (new := { w with region := region }) hk rfl
  have hnum : w.number ∉ numbersOf ys := by
    intro h
    obtain ⟨y, hy, hn⟩ := List.mem_map.1 h
    exact (hys y hy).2 (hs.slot_inj (hys y hy).1 hk hn)
  have htake := takenOver_foldl (hput.sound hs) hput.slot_same ys hnum
  have hfold := foldedIn_foldl k w.number ys
    (ys.foldl (fun s e => takeOver k e.2 s) (putSlot k { w with region := region } s))
  obtain ⟨ex, hex⟩ := htake.only
  generalize hu : ys.foldl (fun s e => takeOver k e.2 s) (putSlot k { w with region := region } s) = u at *
  have hslots : u.engine.slots = Table.put s.engine.slots k { w with region := region, excluded := ex } := by
    rw [hex]; simp
  refine ⟨ex, hk, hys, ?_, ?_, ?_, fun j => ?_, ?_, ?_, ?_, ?_, fun v n => ?_⟩
  · rw [mergedState, hu, hfold.only, hex]; rfl
  · rw [mergedState, hu, hfold.counter, hex]; rfl
  · rw [mergedState, hu]; exact hfold.wf (by rw [hslots]; exact Table.wf_put _ _ hs.wf)
  · rw [mergedState, hu, hfold.slot]
    by_cases hj : j = k
    · subst hj
      have hny : j ∉ ys.map (·.1) := by
        intro h
        obtain ⟨y, hy, e⟩ := List.mem_map.1 h
        exact (hys y hy).2 e
      rw [if_neg hny, if_pos rfl, State.slot, hslots, Table.get_put, if_pos rfl]
    · rw [if_neg hj, State.slot, hslots, Table.get_put, if_neg hj]; rfl
  · rw [mergedState, hu, hfold.consent, hex]; rfl
  · rw [mergedState, hu, hfold.queue, hex]; rfl
  · rw [mergedState, hu, hfold.plan, hex]; rfl
  · rw [mergedState, hu]; exact ((keepsBlocks_putSlot _ _ _).trans htake.blocks).trans hfold.blocks
  · have hd : (mergedState k w region ys s).drive = u.drive := by rw [mergedState, hu, hfold.only]
    rw [State.dyn, hd]
    exact htake.holders v n

namespace Merged

variable {s t : State} {k : Nat} {w : Incident} {region ex : List Nat} {ys : List (Nat × Incident)}

theorem slot_same (h : Merged s t k w region ex ys) : t.slot k = some { w with region := region, excluded := ex } := by
  rw [h.slot, if_pos rfl]

/-- An incident that is left is the survivor, or one that the merge does not concern. -/
theorem backward (h : Merged s t k w region ex ys) {j : Nat} {b : Incident} (hj : t.slot j = some b) :
    (j = k ∧ b = { w with region := region, excluded := ex }) ∨ (j ≠ k ∧ j ∉ ys.map (·.1) ∧ s.slot j = some b) := by
  rw [h.slot] at hj
  split at hj
  · next e => cases hj; exact .inl ⟨e, rfl⟩
  · next e =>
    split at hj
    · cases hj
    · next e' => exact .inr ⟨e, e', hj⟩

/-- An incident whose number is not a younger one's is left, the survivor with its new record. -/
theorem forward (h : Merged s t k w region ex ys) {j : Nat} {a : Incident} (hj : s.slot j = some a)
    (hn : a.number ∉ numbersOf ys) :
    (j ≠ k ∧ t.slot j = some a) ∨ (j = k ∧ a = w ∧ t.slot j = some { w with region := region, excluded := ex }) := by
  have hny : j ∉ ys.map (·.1) := by
    intro hm
    obtain ⟨y, hy, e⟩ := List.mem_map.1 hm
    have := (h.younger y hy).1
    rw [e, hj] at this; cases this
    exact hn (List.mem_map_of_mem hy)
  by_cases e : j = k
  · subst e
    rw [h.held] at hj; cases hj
    exact .inr ⟨rfl, rfl, h.slot_same⟩
  · exact .inl ⟨e, by rw [h.slot, if_neg e, if_neg hny, hj]⟩

theorem number_notMem (h : Merged s t k w region ex ys) (hs : s.SlotsSound) : w.number ∉ numbersOf ys := by
  intro hm
  obtain ⟨y, hy, hn⟩ := List.mem_map.1 hm
  exact (h.younger y hy).2 (hs.slot_inj (h.younger y hy).1 h.held hn)

theorem sound (h : Merged s t k w region ex ys) (hs : s.SlotsSound) : t.SlotsSound := by
  obtain ⟨-, hrange, hinj, hc, hc'⟩ := slotsSound_iff.1 hs
  have hback : ∀ {j : Nat} {b : Incident}, t.slot j = some b → ∃ a, s.slot j = some a ∧ a.number = b.number := by
    intro j b hj
    obtain ⟨rfl, rfl⟩ | ⟨-, -, hj⟩ := h.backward hj
    · exact ⟨w, h.held, rfl⟩
    · exact ⟨b, hj, rfl⟩
  refine slotsSound_iff.2 ⟨h.wf, fun j b hj => ?_, fun i j a b hi hj hab => ?_, by rwa [h.counter], by rwa [h.counter]⟩
  · obtain ⟨a, ha, hn⟩ := hback hj
    rw [h.counter, ← hn]; exact hrange j a ha
  · obtain ⟨a', ha, hna⟩ := hback hi
    obtain ⟨b', hb, hnb⟩ := hback hj
    exact hinj i j a' b' ha hb (hna.trans (hab.trans hnb.symm))

theorem plannable (h : Merged s t k w region ex ys) {n : Nat} (hn : n ∉ numbersOf ys) (hp : s.Plannable n) :
    t.Plannable n := by
  obtain ⟨j, a, hj, rfl, hr⟩ := hp
  obtain ⟨-, hj⟩ | ⟨-, rfl, hj⟩ := h.forward hj hn
  · exact ⟨j, a, hj, rfl, hr⟩
  · exact ⟨j, _, hj, rfl, hr⟩

/-- The engine's invariants, before the plan ends. -/
theorem keepsEnding (h : Merged s t k w region ex ys) (hs : s.SlotsSound) (hr : w.state ≠ .restoring)
    (hfit : s.RegionsDisjoint → t.RegionFits k region) : KeepsEnding s t where
  slots := h.sound hs
  planner hp := by
    obtain ⟨hq, -⟩ := (plannerSound_iff hs.wf).1 hp
    have hqueued : ∀ n ∈ t.planner.queue, n ∈ s.planner.queue ∧ n ∉ numbersOf ys := fun n hn => by
      rw [h.queue] at hn
      simpa using List.mem_filter.1 hn
    refine ⟨by rw [h.queue]; exact hq.nodup.filter _, fun p hp hm => ?_, fun hn => ?_, fun n hn => ?_⟩
    · exact hq.apart p (h.plan ▸ hp) (hqueued _ hm).1
    · rw [h.queue, hq.empty (h.plan ▸ hn)]; rfl
    · exact h.plannable (hqueued n hn).2 (hq.queued n (hqueued n hn).1)
  idle hi hm := absurd (hi (by rw [h.only] at hm; exact hm)) (slots_ne_nil h.held)
  regions hrd := by
    obtain ⟨hnd, hapart⟩ := hfit hrd
    rw [regionsDisjoint_iff hs] at hrd
    rw [regionsDisjoint_iff (h.sound hs)]
    refine ⟨fun j b hj hb => ?_, fun i j a b hij hi hj ha hb => ?_⟩
    · obtain ⟨rfl, rfl⟩ | ⟨-, -, hj⟩ := h.backward hj
      · exact hnd
      · exact hrd.1 j b hj hb
    · obtain ⟨rfl, rfl⟩ | ⟨hik, -, hi'⟩ := h.backward hi
      · exact hapart j b hij.symm hj hb
      · obtain ⟨rfl, rfl⟩ | ⟨-, -, hj⟩ := h.backward hj
        · exact (hapart i a hij hi ha).symm
        · exact hrd.2 i j a b hij hi' hj ha hb
  consent hc := by
    obtain ⟨hcn, hin, hout⟩ := (consentSound_iff hs.wf).1 hc
    rw [consentSound_iff h.wf, h.consent]
    refine ⟨hcn.filter _, fun n hn => ?_, fun j b hj hb => ?_⟩
    · obtain ⟨hn, hy⟩ : n ∈ s.engine.consentQueue ∧ n ∉ numbersOf ys := by simpa using List.mem_filter.1 hn
      obtain ⟨j, a, hj, rfl, ha⟩ := hin n hn
      obtain ⟨-, hj⟩ | ⟨-, rfl, hj⟩ := h.forward hj hy
      · exact ⟨j, a, hj, rfl, ha⟩
      · exact ⟨j, _, hj, rfl, ha⟩
    · obtain ⟨rfl, rfl⟩ | ⟨-, hy, hj⟩ := h.backward hj
      · exact List.mem_filter.2 ⟨hout _ w h.held hb, by simpa using h.number_notMem hs⟩
      · have hnum : b.number ∉ numbersOf ys := fun hm => by
          obtain ⟨y, hym, hn⟩ := List.mem_map.1 hm
          exact hy (hs.slot_inj (h.younger y hym).1 hj hn ▸ List.mem_map_of_mem hym)
        exact List.mem_filter.2 ⟨hout j b hj hb, by simpa using hnum⟩
  valves := h.blocks.valves
  holders hv hh := by
    rw [holdersSound_iff hs.wf hv.1] at hh
    rw [holdersSound_iff h.wf (h.blocks.valves hv).1]
    intro v n hn
    obtain ⟨hn, hy⟩ | ⟨rfl, -⟩ := (h.holders v n).1 hn
    · obtain ⟨j, a, hj, rfl, ha⟩ := hh v n hn
      obtain ⟨-, hj⟩ | ⟨-, rfl, hj⟩ := h.forward hj hy
      · exact ⟨j, a, hj, rfl, ha⟩
      · exact ⟨j, _, hj, rfl, fun e => absurd e hr⟩
    · exact ⟨k, _, h.slot_same, rfl, fun e => absurd e hr⟩

end Merged

/-! ### The survivor (03 R73) -/

/-- 03 R73: an incident was declared before another, or at the same time and stands in no higher slot. -/
abbrev DeclaredFirst (x y : Nat × Incident) : Prop :=
  x.2.declaredAt < y.2.declaredAt ∨ x.2.declaredAt = y.2.declaredAt ∧ x.1 ≤ y.1

theorem foldl_earlier (rest : List (Nat × Incident)) (x : Nat × Incident) (h : Table.Wf (x :: rest)) :
    rest.foldl earlier x ∈ x :: rest ∧ ∀ e ∈ x :: rest, DeclaredFirst (rest.foldl earlier x) e := by
  induction rest generalizing x with
  | nil => simp [DeclaredFirst]
  | cons y rest ih =>
    simp only [Table.Wf, Table.keys, List.map_cons, List.pairwise_cons, List.mem_cons, forall_eq_or_imp] at h ih
    obtain ⟨⟨hxy, hx⟩, hy, hrest⟩ := h
    have hcase : earlier x y = x ∧ x.2.declaredAt ≤ y.2.declaredAt ∨ earlier x y = y ∧ y.2.declaredAt < x.2.declaredAt := by
      unfold earlier; split
      · exact .inr ⟨rfl, ‹_›⟩
      · exact .inl ⟨rfl, by omega⟩
    obtain ⟨hm, hfirst, hall⟩ := ih (earlier x y) ⟨by obtain ⟨e, -⟩ | ⟨e, -⟩ := hcase <;> rw [e] <;> assumption, hrest⟩
    refine ⟨?_, ?_⟩
    · rw [List.foldl_cons, List.mem_cons, List.mem_cons]
      obtain e | e := hm
      · obtain ⟨e', -⟩ | ⟨e', -⟩ := hcase
        · exact .inl (e.trans e')
        · exact .inr (.inl (e.trans e'))
      · exact .inr (.inr e)
    · simp only [List.foldl_cons, List.mem_cons, forall_eq_or_imp]
      refine ⟨?_, ?_, hall⟩
      all_goals
        obtain ⟨e, hle⟩ | ⟨e, hlt⟩ := hcase <;> rw [e] at hfirst ⊢ <;> unfold DeclaredFirst at * <;> omega

theorem survivorOf_eq_some {xs : List (Nat × Incident)} (h : Table.Wf xs) {w : Nat × Incident}
    (hw : survivorOf xs = some w) : w ∈ xs ∧ ∀ e ∈ xs, DeclaredFirst w e := by
  cases xs with
  | nil => cases hw
  | cons x rest => cases hw; exact foldl_earlier rest x h

theorem survivorOf_eq_none {xs : List (Nat × Incident)} (h : survivorOf xs = none) : xs = [] := by
  cases xs with
  | nil => rfl
  | cons x rest => cases h

/-- 03 R74: nothing but the survivor's segments and those of R comes into the survivor's region. -/
theorem mergeRegions_sound (own grown : List Nat) :
    own <+: mergeRegions own grown ∧ (own.Nodup → (mergeRegions own grown).Nodup)
      ∧ ∀ x ∈ mergeRegions own grown, x ∈ own ∨ x ∈ grown := by
  induction grown generalizing own with
  | nil => exact ⟨List.prefix_refl _, id, fun x hx => .inl hx⟩
  | cons y grown ih =>
    simp only [mergeRegions, List.foldl_cons]
    split
    · obtain ⟨h1, h2, h3⟩ := ih own
      exact ⟨h1, h2, fun x hx => (h3 x hx).imp_right (List.mem_cons_of_mem _)⟩
    · next hy =>
      obtain ⟨h1, h2, h3⟩ := ih (own ++ [y])
      have hyo : y ∉ own := by simp at hy; exact hy.1
      refine ⟨(List.prefix_append _ _).trans h1, fun hnd => h2 ?_, fun x hx => ?_⟩
      · exact List.nodup_append.2 ⟨hnd, List.nodup_singleton y, fun a ha b hb e => hyo (List.mem_singleton.1 hb ▸ e ▸ ha)⟩
      · obtain hx | hx := h3 x hx
        · obtain hx | hx := List.mem_append.1 hx
          · exact .inl hx
          · exact .inr (List.mem_singleton.1 hx ▸ List.mem_cons_self)
        · exact .inr (List.mem_cons_of_mem _ hx)

/-! ### The merge -/

/-- 03 R73: the incidents that a merge concerns. -/
theorem mem_concerned {s : State} {n : Nat} {noted : List Nat} {e : Nat × Incident} :
    e ∈ s.concerned n noted ↔ e ∈ s.engine.slots ∧ (e.2.number = n ∨ e.2.number ∈ noted) := by
  simp [State.concerned]

/-- 03 R73: those that are not the survivor. -/
abbrev State.younger (s : State) (n : Nat) (noted : List Nat) (k : Nat) : List (Nat × Incident) :=
  (s.concerned n noted).filter fun e => e.1 != k

/-- 03 R73, R74: the survivor's region before its plan: its own, with R's segments when the plan is another's. -/
abbrev survivorRegion (n : Nat) (p : Plan) (w : Incident) : List Nat :=
  if w.number = n then w.region else mergeRegions w.region p.region

/-- 02 R46, 03 R73 to R77: a merge goes on from the merged state: by publication when the plan is the survivor's, and by a
plan request for the survivor otherwise. -/
theorem merge_eq {s : State} (hs : s.SlotsSound) {k n : Nat} {inc : Incident} (hk : s.slot k = some inc)
    (hn : inc.number = n) (p : Plan) :
    ∃ j w ex, (j, w) ∈ s.concerned n p.noted ∧ (∀ e ∈ s.concerned n p.noted, DeclaredFirst (j, w) e)
      ∧ Merged s (mergedState j w (survivorRegion n p w) (s.younger n p.noted j) s) j w (survivorRegion n p w) ex
          (s.younger n p.noted j)
      ∧ merge n p s =
          if w.number = n then publish j p (mergedState j w (survivorRegion n p w) (s.younger n p.noted j) s)
          else endPlan (requestReplan j { w with region := survivorRegion n p w, excluded := ex }
            (mergedState j w (survivorRegion n p w) (s.younger n p.noted j) s)) := by
  have hwf : Table.Wf (s.concerned n p.noted) := Table.wf_filter hs.wf _
  cases hsv : survivorOf (s.concerned n p.noted) with
  | none =>
    have hin : (k, inc) ∈ s.concerned n p.noted := mem_concerned.2 ⟨Table.mem_of_get hk, .inl hn⟩
    rw [survivorOf_eq_none hsv] at hin; simp at hin
  | some e =>
    obtain ⟨j, w⟩ := e
    obtain ⟨hmem, hfirst⟩ := survivorOf_eq_some hwf hsv
    have hj : s.slot j = some w := Table.get_of_mem hs.wf (mem_concerned.1 hmem).1
    obtain ⟨ex, hm⟩ := merged_mergedState hs hj (survivorRegion n p w) (ys := s.younger n p.noted j) fun y hy => by
      obtain ⟨hy, hne⟩ := List.mem_filter.1 hy
      exact ⟨Table.get_of_mem hs.wf (mem_concerned.1 hy).1, by simpa using hne⟩
    refine ⟨j, w, ex, hmem, hfirst, hm, ?_⟩
    have hput : (if w.number = n then s else putSlot j { w with region := mergeRegions w.region p.region } s)
        = putSlot j { w with region := survivorRegion n p w } s := by
      split
      · exact (putSlot_self hs hj).symm
      · rfl
    have hslot := hm.slot_same
    simp only [merge, hsv]
    rw [hput]
    generalize survivorRegion n p w = region at hslot ⊢
    change (if w.number = n then publish j p (mergedState j w region (s.younger n p.noted j) s)
      else match (mergedState j w region (s.younger n p.noted j) s).slot j with
        | some inc => endPlan (requestReplan j inc (mergedState j w region (s.younger n p.noted j) s))
        | none => endPlan (mergedState j w region (s.younger n p.noted j) s)) = _
    rw [hslot]

/-- 03 R74: the survivor's region claims no segment of an incident that the merge does not concern. -/
theorem Merged.regionFits {s t : State} {k j n : Nat} {inc w : Incident} {p : Plan} {region ex : List Nat} (hs : s.SlotsSound)
    (hk : s.slot k = some inc) (hn : inc.number = n) (ha : w.state.active = true)
    (h : Merged s t j w region ex (s.younger n p.noted j))
    (hregion : region.Nodup ∧ ∀ x ∈ region, x ∈ w.region ∨ x ∈ p.region)
    (hfit : ∀ i a, i ≠ k → s.slot i = some a → a.state.active = true → a.number ∉ p.noted → List.Disjoint p.region a.region)
    (hrd : s.RegionsDisjoint) : t.RegionFits j region := by
  refine ⟨hregion.1, fun i a hij hi haa x hx hxa => ?_⟩
  obtain ⟨rfl, -⟩ | ⟨-, hy, hi⟩ := h.backward hi
  · exact hij rfl
  have hnot : (i, a) ∉ s.concerned n p.noted := fun hm =>
    hy (List.mem_map.2 ⟨(i, a), List.mem_filter.2 ⟨hm, by simpa using hij⟩, rfl⟩)
  obtain ⟨hna, hnoted⟩ : a.number ≠ n ∧ a.number ∉ p.noted := by
    simpa [mem_concerned, Table.mem_of_get hi] using hnot
  obtain hx | hx := hregion.2 x hx
  · exact ((regionsDisjoint_iff hs).1 hrd).2 j i w a (Ne.symm hij) h.held hi ha haa hx hxa
  · exact hfit i a (fun e => hna (by subst e; rw [hk] at hi; cases hi; exact hn)) hi haa hnoted hx hxa

/-- A record written for an incident that goes on keeps the planner's queue sound. -/
theorem State.PlanQueueSound.putSlot {s : State} (h : s.PlanQueueSound) {k : Nat} {old new : Incident}
    (hk : s.slot k = some old) (hn : new.number = old.number) (hr : new.state = .restoring → old.state = .restoring) :
    (putSlot k new s).PlanQueueSound := by
  refine ⟨h.nodup, h.apart, h.empty, fun n hnq => ?_⟩
  obtain ⟨j, a, hj, ha, har⟩ := h.queued n hnq
  obtain ⟨-, hj⟩ | ⟨-, rfl, hj⟩ := (rewritten_putSlot hk hn).forward hj
  · exact ⟨j, a, hj, ha, har⟩
  · exact ⟨j, new, hj, hn.trans ha, fun e => har (hr e)⟩

/-- 03 R63: a replan requested while the plan in progress is about to end. -/
theorem keepsEnding_requestReplan {s t : State} {k : Nat} {inc : Incident} {q : PlanInProgress} (h : KeepsEnding s t)
    (hk : t.slot k = some inc) (hr : inc.state ≠ .restoring) (hq : t.planner.plan = some q) :
    KeepsEnding s (requestReplan k inc t) := by
  have hkeep := (calm_requestReplan (old := inc) hk hr inc.excluded).keeps
  have heng := hkeep.engine h.slots
  exact
    { slots := heng.slots
      planner := fun hp => (((h.planner hp).putSlot (new := { inc with replanPending := true }) hk rfl id).planRequest
        ((rewritten_putSlot (new := { inc with replanPending := true }) hk rfl).wf h.slots) (p := q) hq inc.number).1
      idle := heng.idle ∘ h.idle
      regions := heng.regions ∘ h.regions
      consent := heng.consent ∘ h.consent
      valves := hkeep.blocks.valves ∘ h.valves
      holders := fun hv hh => heng.holders (h.valves hv) (h.holders hv hh) }

/-- What a plan's growth gives for a merge: it notes active incidents, and claims no other's segments. -/
structure NotedSound (s : State) (k : Nat) (inc : Incident) (p : Plan) : Prop where
  noted : ∀ n ∈ p.noted, ∃ y ∈ s.activeIncidents, y.number = n
  fits : s.RegionsDisjoint → p.region.Nodup ∧ ∀ j a, j ≠ k → s.slot j = some a → a.state.active = true →
    a.number ∉ p.noted → List.Disjoint p.region a.region

theorem active_iff {st : IncidentState} : st.active = true ↔ st ≠ .restoring := by cases st <;> simp [IncidentState.active]

/-- 03 R73: every incident that a merge concerns is active. -/
theorem NotedSound.active {s : State} {k : Nat} {inc : Incident} {p : Plan} (h : NotedSound s k inc p) (hs : s.SlotsSound)
    (hk : s.slot k = some inc) (hr : inc.state ≠ .restoring) {e : Nat × Incident}
    (he : e ∈ s.concerned inc.number p.noted) : e.2.state ≠ .restoring := by
  obtain ⟨hm, hn | hn⟩ := mem_concerned.1 he
  · have hj := Table.get_of_mem hs.wf hm
    obtain rfl := hs.slot_inj hj hk hn
    rw [State.slot, hj] at hk; cases hk; exact hr
  · obtain ⟨y, hy, hyn⟩ := h.noted _ hn
    obtain ⟨⟨j, hj⟩, ha⟩ := mem_activeIncidents.1 hy
    have hj := Table.get_of_mem hs.wf hj
    have he := Table.get_of_mem hs.wf hm
    obtain rfl := hs.slot_inj hj he hyn
    rw [hj] at he; cases he
    exact active_iff.1 ha

theorem keepsBlocks_takeOver (k : Nat) (y : Incident) (s : State) : KeepsBlocks s (takeOver k y s) := by
  unfold takeOver; split
  · exact (keepsBlocks_putSlot _ _ _).trans (keepsBlocks_rewriteHolders _ _ _)
  · exact .refl s

theorem keepsBlocks_requestReplan (k : Nat) (inc : Incident) (s : State) : KeepsBlocks s (requestReplan k inc s) :=
  (keepsBlocks_putSlot _ _ _).trans (keeps_planRequest _ _).blocks

theorem keepsBlocks_merge (n : Nat) (p : Plan) (s : State) : KeepsBlocks s (merge n p s) := by
  unfold merge; dsimp only; split
  · exact (keeps_endPlan s).blocks
  · next k w _ =>
    have hput : KeepsBlocks s
        (if w.number = n then s else putSlot k { w with region := mergeRegions w.region p.region } s) := by
      split
      · exact .refl s
      · exact keepsBlocks_putSlot _ _ _
    refine hput.trans ?_
    generalize (if w.number = n then s else putSlot k { w with region := mergeRegions w.region p.region } s) = u
    generalize (s.concerned n p.noted).filter (fun e => e.1 != k) = ys
    refine KeepsBlocks.trans (KeepsBlocks.foldl (fun u e => keepsBlocks_takeOver k e.2 u) ys u) ?_
    generalize List.foldl (fun s (e : Nat × Incident) => takeOver k e.2 s) u ys = v
    refine KeepsBlocks.trans (KeepsBlocks.foldl (fun v e => (foldedIn_one k w.number e v).blocks) ys v) ?_
    generalize List.foldl (fun s e => foldIn k w.number e.1 e.2 s) v ys = z
    split
    · exact keepsBlocks_publish _ _ _
    · split
      · exact (keepsBlocks_requestReplan _ _ _).trans (keeps_endPlan _).blocks
      · exact (keeps_endPlan _).blocks

theorem keepsEngine_merge {s : State} (hs : s.SlotsSound) {k : Nat} {inc : Incident} (hk : s.slot k = some inc)
    (hr : inc.state ≠ .restoring) {p : Plan} (hp : NotedSound s k inc p) {q : PlanInProgress}
    (hq : s.planner.plan = some q) :
    KeepsEngine s (merge inc.number p s) := by
  obtain ⟨j, w, ex, hmem, -, hm, e⟩ := merge_eq hs hk rfl p
  have hwr : w.state ≠ .restoring := hp.active hs hk hr hmem
  have hnd (hrd : s.RegionsDisjoint) : w.region.Nodup := ((regionsDisjoint_iff hs).1 hrd).1 j w hm.held (active_iff.2 hwr)
  have hsub : ∀ x ∈ survivorRegion inc.number p w, x ∈ w.region ∨ x ∈ p.region := by
    unfold survivorRegion; split
    · exact fun x hx => .inl hx
    · exact (mergeRegions_sound _ _).2.2
  have hsnd (hrd : s.RegionsDisjoint) : (survivorRegion inc.number p w).Nodup := by
    unfold survivorRegion; split
    · exact hnd hrd
    · exact (mergeRegions_sound _ _).2.1 (hnd hrd)
  have hend := hm.keepsEnding hs hwr fun hrd =>
    hm.regionFits hs hk rfl (active_iff.2 hwr) ⟨hsnd hrd, hsub⟩ (hp.fits hrd).2 hrd
  rw [e]
  generalize mergedState j w (survivorRegion inc.number p w) (s.younger inc.number p.noted j) s = u at hm hend ⊢
  generalize survivorRegion inc.number p w = region at hm hend ⊢
  split
  · next hwn =>
    refine keepsEngine_publish hend hm.slot_same hwr fun hrd => ?_
    obtain rfl := hs.slot_inj hm.held hk hwn
    refine ⟨(hp.fits hrd).1, fun i a hij hi ha => ?_⟩
    obtain ⟨rfl, -⟩ | ⟨-, hy, hi⟩ := hm.backward hi
    · exact absurd rfl hij
    · refine (hp.fits hrd).2 i a hij hi ha fun hn => hy (List.mem_map.2 ⟨(i, a), List.mem_filter.2 ⟨?_, by simpa using hij⟩, rfl⟩)
      exact mem_concerned.2 ⟨Table.mem_of_get hi, .inr hn⟩
  · have hplan : u.planner.plan = some q := hm.plan.trans hq
    exact (keepsEnding_requestReplan hend hm.slot_same hwr hplan).endPlan

/-! ### The plan completes (02 R28) -/

theorem notedSound_makePlan {s : State} (hs : s.SlotsSound) {k : Nat} {inc : Incident} (hk : s.slot k = some inc)
    (hr : inc.state ≠ .restoring) : NotedSound s k inc (s.makePlan inc) where
  noted n hn := by
    obtain ⟨y, hy, e⟩ := (grow_sound s inc).1.noted n hn
    exact ⟨y, (mem_otherActive.1 hy).1, e⟩
  fits hrd := regionFits_makePlan hs hk (active_iff.2 hr) hrd

/-- 02 R28: the working sets filled in change no number in the planner. -/
theorem keeps_workOutPlan {s : State} (inc : Incident) {p : PlanInProgress} (hp : s.planner.plan = some p) :
    Keeps s (workOutPlan inc p s) :=
  keeps_planner fun _ h => plannerSound_of_eq (s := s) rfl rfl (by simp [hp]) h

theorem keeps_restartPlan {s : State} {p : PlanInProgress} (hp : s.planner.plan = some p) : Keeps s (restartPlan p s) :=
  keeps_planner fun _ h => plannerSound_of_eq (s := s) rfl rfl (by simp [hp, newPlan]) h

/-- 02 R46, R47: a plan delivered, by publication or merge. -/
theorem keepsEngine_delivered {s : State} {p : PlanInProgress} (hp : s.planner.plan = some p) {k : Nat} {inc : Incident}
    (hk : s.slot k = some inc) (hr : inc.state ≠ .restoring) (hsound : NotedSound s k inc p.sets) (hs : s.SlotsSound) :
    KeepsEngine s (deliverPlan k inc s) := by
  simp only [deliverPlan, hp]
  split
  · next hn =>
    have hnone : p.sets.noted = [] := by simpa using hn
    refine (keepsEngine_publish (.refl hs) hk hr fun hrd => ?_).trans (keepsBlocks_publish _ _ _).valves
      ((keeps_settle _).engine ?_)
    · exact ⟨(hsound.fits hrd).1, fun j a hj hja haa => (hsound.fits hrd).2 j a hj hja haa (by simp [hnone])⟩
    · exact (keepsEngine_publish (.refl hs) hk hr fun hrd => ⟨(hsound.fits hrd).1, fun j a hj hja haa =>
        (hsound.fits hrd).2 j a hj hja haa (by simp [hnone])⟩).slots
  · have he := keepsEngine_merge hs hk hr hsound hp
    exact he.trans (keepsBlocks_merge _ _ _).valves ((keeps_settle _).engine he.slots)

theorem keeps_completePlan (s : State) : Keeps s (completePlan s) := by
  unfold completePlan
  split
  · exact .refl s
  · next p hp =>
    split
    · exact keeps_restartPlan hp
    · split
      · next k inc hi =>
        split
        · exact keeps_endPlan s
        · next hr =>
          have hwork := keeps_workOutPlan inc hp
          refine ⟨hwork.blocks.trans ?_, fun hs => ?_⟩
          · simp only [deliverPlan, workOutPlan]
            refine KeepsBlocks.trans ?_ (keeps_settle _).blocks
            split
            · exact keepsBlocks_publish _ _ _
            · exact keepsBlocks_merge _ _ _
          · obtain ⟨hk, -⟩ := slot_of_incident hs.wf hi
            have hsound := notedSound_makePlan hs hk hr
            exact (hwork.engine hs).trans hwork.blocks.valves
              (keepsEngine_delivered (p := { p with sets := s.makePlan inc }) rfl hk hr ⟨hsound.noted, hsound.fits⟩ hs)
      · exact keeps_endPlan s

end Sys2Proof.Machine
end

section
/-! PROOFS. Every step keeps every invariant: the events and requests that are left, and the step (08; 06, section 6.1; 05,
sections 5.1 and 5.3; 01, section 1.1; 03; 02; 10). -/

namespace Sys2Proof.Machine

open Sys2Proof

/-! ### Changes outside the engine -/

/-- A change outside the incident engine, the planner, the mode and the holder sets. -/
theorem Keeps.of_blocks {s t : State} (hb : KeepsBlocks s t) (he : t.engine = s.engine) (hp : t.planner = s.planner)
    (hm : t.store.mode = s.store.mode) (hh : ∀ v, (t.dyn v).holders ⊆ (s.dyn v).holders) : Keeps s t :=
  ⟨hb, fun hs => .of_eq hs (by rw [he]) (by rw [he]) (by rw [he]) (by rw [hp]) (by rw [hp]) hm hb.valves hh⟩

theorem keeps_reports {s : State} {u : ReportUnit} (h : s.reports.Sound → u.Sound) : Keeps s { s with reports := u } :=
  .of_blocks { KeepsBlocks.refl s with reports := h } rfl rfl rfl fun _ => List.Subset.refl _

theorem keeps_onAlarm (i : Fin 8) (f : AlarmInput → AlarmInput) (s : State) : Keeps s (onAlarm i f s) :=
  .of_blocks (.of_eq rfl rfl rfl rfl rfl rfl rfl rfl) rfl rfl rfl fun _ => List.Subset.refl _

theorem keeps_onMap {f : NetworkMap → NetworkMap} {s : State} (h : s.map.Sound → (f s.map).Sound) : Keeps s (onMap f s) :=
  .of_blocks { KeepsBlocks.refl s with maps := fun hm => ⟨h hm.1, hm.2⟩ } rfl rfl rfl fun _ => List.Subset.refl _

theorem keeps_onLink {f : HostLink → HostLink} {s : State} (h : s.FrameFits → (f s.link).frame.length ≤ 246) :
    Keeps s (onLink f s) :=
  .of_blocks { KeepsBlocks.refl s with frame := h } rfl rfl rfl fun _ => List.Subset.refl _

theorem quiet_onDyn_same {v : Nat} {f : ValveDyn → ValveDyn} {s : State} (hp : ∀ d, (f d).position = d.position)
    (hh : ∀ d, (f d).holders = d.holders) : Quiet s (onDyn v f s) :=
  .dyn (fun d hd => ⟨by rw [hp]; exact hd.1, by rw [hh]; exact hd.2⟩) fun d => by rw [hh]; exact List.Subset.refl _

theorem quiet_onControl_same {l : Line} {f : LineControl → LineControl} {s : State} (hq : ∀ c, (f c).queue = c.queue)
    (hu : ∀ c, (f c).urgentCount = c.urgentCount) (he : ∀ c, (f c).errorLog = c.errorLog) : Quiet s (onControl l f s) :=
  .control fun c hc => by simpa only [LineControl.Sound, hq, hu, he] using hc

/-! ### Alarm inputs (07) -/

theorem keeps_raiseAlarm (i : Fin 8) (d x n : Nat) (b : Bool) (s : State) : Keeps s (raiseAlarm i d x n b s) :=
  (Quiet.raise _ _ _ _ _).keepsAll

theorem keeps_alarmDeclaration (i : Fin 8) (deferred : Bool) {s : State} (hx : s.map.alarms[i].segment ≠ 0)
    (hm : s.store.mode = .run) : Keeps s (alarmDeclaration i deferred s) := by
  have h := keeps_declareBurst hx hm 0 false (.alarm (i.val + 1))
  unfold alarmDeclaration; dsimp only
  split <;> (next e => rw [e] at h; exact h.trans (keeps_raiseAlarm _ _ _ _ _ _))

theorem segment_ne_zero_of_asserted {s : State} {i : Fin 8} (h : s.asserted i = true) : s.map.alarms[i].segment ≠ 0 := by
  simp only [State.asserted, assertedWith, Bool.and_eq_true, bne_iff_ne] at h
  exact h.2

theorem keeps_assertAlarm {i : Fin 8} {s : State} (hx : s.map.alarms[i].segment ≠ 0) : Keeps s (assertAlarm i s) := by
  unfold assertAlarm; dsimp only
  refine (keeps_onAlarm i (fun x => { x with latched := true }) s).trans ?_
  split
  · exact keeps_raiseAlarm _ _ _ _ _ _
  · split
    · exact keeps_alarmDeclaration i false (by simpa using hx) ‹_›
    · exact (keeps_onAlarm i _ _).trans (keeps_raiseAlarm _ _ _ _ _ _)

theorem keeps_judgeAlarm (i : Fin 8) (before s : State) : Keeps s (judgeAlarm i before s) := by
  unfold judgeAlarm
  split
  · exact .refl s
  · split
    · exact keeps_assertAlarm (segment_ne_zero_of_asserted ‹_›)
    · exact keeps_raiseAlarm _ _ _ _ _ _

theorem keeps_judgeAlarms (before s : State) : Keeps s (judgeAlarms before s) :=
  Keeps.foldl (fun s i => keeps_judgeAlarm i before s) _ _

/-! ### Modes (10) -/

theorem keeps_changeMode {new : Mode} {s : State} (h : new ≠ .run → s.IdleOutsideRun → s.engine.slots = []) :
    Keeps s (changeMode new s) := by
  have hmode : Keeps s { s with store := { s.store with mode := new } } :=
    ⟨.of_eq rfl rfl rfl rfl rfl rfl rfl rfl, fun hs => ⟨hs, id, fun hi hn => h hn hi, id, id, fun _ => id⟩⟩
  exact hmode.trans (Quiet.raise _ _ _ _ _).keepsAll

theorem keeps_quiesceDone (s : State) : Keeps s (quiesceDone s) := by
  unfold quiesceDone
  split
  · next h => exact keeps_changeMode fun _ hi => hi (by simp [h.1])
  · exact .refl s

theorem mode_takeDeferred (i : Fin 8) (s : State) : (takeDeferred s i).store = s.store := by
  have hdecl (i : Fin 8) (b : Bool) (s : State) : (alarmDeclaration i b s).store = s.store := by
    unfold alarmDeclaration declareBurst; dsimp only
    split
    · next s' n k e =>
      split at e
      · cases e
      · split at e
        · cases e
        · cases e
          simp only [createIncident, raiseState, raiseAlarm, raise]
          rw [planRequest_only]; rfl
    · next s' n e =>
      split at e
      · cases e; rfl
      · split at e <;> cases e
    · next s' e =>
      split at e
      · cases e
      · split at e <;> cases e
        rfl
  unfold takeDeferred; dsimp only
  split
  · split
    · exact hdecl i true _
    · rfl
  · rfl

theorem keeps_takeDeferred {s : State} (hm : s.store.mode = .run) (i : Fin 8) : Keeps s (takeDeferred s i) := by
  unfold takeDeferred; dsimp only
  split
  · refine (keeps_onAlarm i (fun x => { x with deferred := false }) s).trans ?_
    split
    · next h => exact keeps_alarmDeclaration i true h.2 hm
    · exact keeps_raiseAlarm _ _ _ _ _ _
  · exact .refl s

theorem keeps_takeDeferreds {s : State} (hm : s.store.mode = .run) : Keeps s (takeDeferreds s) := by
  unfold takeDeferreds
  generalize allInputs = is
  induction is generalizing s with
  | nil => exact .refl s
  | cons i is ih => exact (keeps_takeDeferred hm i).trans (ih (by rw [mode_takeDeferred]; exact hm))

theorem freshStation_sound : freshStation.Sound := by decide

theorem keeps_freshStations (s : State) : Keeps s (freshStations s) := by
  refine .of_blocks { KeepsBlocks.refl s with stations := fun _ => ?_ } rfl rfl rfl fun _ => List.Subset.refl _
  intro e he
  obtain ⟨x, -, rfl⟩ := List.mem_map.1 he
  exact freshStation_sound

theorem quiet_enterRunSupply (l : Line) (b : Bool) (s : State) : Quiet s (onSupply l (fun u => u.enterRun b) s) :=
  .supply fun u hu => by
    unfold Supply.enterRun; split
    · exact ⟨Nat.zero_le _, hu.2⟩
    · exact ⟨Nat.zero_le _, Nat.zero_le _⟩

theorem quiet_adoptSettings (l : Line) (s : State) : Quiet s (adoptSettings l s) :=
  quiet_onControl_same (fun _ => by rfl) (fun _ => by rfl) fun _ => by rfl

theorem quiet_fillSchedule (l : Line) (s : State) : Quiet s (fillSchedule l s) := by
  unfold fillSchedule
  exact .control fun _ hc => ⟨hc.1, hc.2.1, Nat.zero_le _, hc.2.2.2⟩

/-- What each part of a fold leaves, the fold leaves. -/
theorem foldl_preserves {α β : Type} (g : State → β) {f : State → α → State} (h : ∀ s x, g (f s x) = g s) (xs : List α)
    (s : State) : g (xs.foldl f s) = g s := by
  induction xs generalizing s with
  | nil => rfl
  | cons x xs ih => exact (ih _).trans (h s x)

theorem keeps_prepareRun (s : State) : Keeps s (prepareRun s) := by
  unfold prepareRun; dsimp only
  refine Keeps.trans (Keeps.foldl (fun s l => (quiet_adoptSettings l s).keepsAll) allLines s) ?_
  refine Keeps.trans (Keeps.foldl (fun s l => (quiet_forgetPositions l s).keepsAll) allLines _) ?_
  refine (keeps_freshStations _).trans ?_
  refine Keeps.trans (Keeps.foldl (fun s l => (quiet_enterRunSupply l (s.map.lines.get l).enabled s).keepsAll) allLines _) ?_
  exact Keeps.foldl (fun s l => (quiet_fillSchedule l s).keepsAll) allLines _

theorem store_prepareRun (s : State) : (prepareRun s).store = s.store := by
  have hforget (s : State) (l : Line) : (forgetPositions l s).store = s.store := (quiet_forgetPositions l s).store
  have hadopt (s : State) (l : Line) : (adoptSettings l s).store = s.store := rfl
  have hfill (s : State) (l : Line) : (fillSchedule l s).store = s.store := rfl
  have hfresh (s : State) : (freshStations s).store = s.store := rfl
  unfold prepareRun; dsimp only
  refine (foldl_preserves State.store hfill _ _).trans ?_
  refine (foldl_preserves State.store (f := fun s l => onSupply l (fun u => u.enterRun (s.map.lines.get l).enabled) s)
    (fun _ _ => by rfl) _ _).trans ?_
  rw [hfresh]
  exact (foldl_preserves State.store hforget _ _).trans (foldl_preserves State.store hadopt _ _)

theorem keeps_enterRun (s : State) : Keeps s (enterRun s) := by
  have hchange : Keeps s (changeMode .run s) := keeps_changeMode fun h => absurd rfl h
  have hm : (changeMode .run s).store.mode = .run := rfl
  unfold enterRun
  generalize changeMode .run s = u at hchange hm ⊢
  exact (hchange.trans (keeps_prepareRun u)).trans (keeps_takeDeferreds (by rw [store_prepareRun, hm]))

/-! ### The load and the resets -/

theorem dynAfterPut_fields (d : ValveDyn) (r : ValveRec) :
    (dynAfterPut d r).position.getD 0 ≤ 1000 ∧ (dynAfterPut d r).holders = d.holders
      ∧ (dynAfterPut d r).operability = d.operability := by
  unfold dynAfterPut
  split
  · exact ⟨Nat.zero_le _, rfl, rfl⟩
  · refine ⟨?_, rfl, rfl⟩
    cases r.normal <;> simp [manualPosition]

theorem quiet_dynAfterPut (v : Nat) (r : ValveRec) (s : State) : Quiet s (onDyn v (fun d => dynAfterPut d r) s) :=
  .dyn (fun d hd => ⟨(dynAfterPut_fields d r).1, by rw [(dynAfterPut_fields d r).2.1]; exact hd.2⟩)
    fun d => by rw [(dynAfterPut_fields d r).2.1]; exact List.Subset.refl _

theorem quiet_dynAfterDrop (v : Nat) (s : State) : Quiet s (onDyn v dynAfterDrop s) :=
  .dyn (fun _ hd => ⟨Nat.zero_le _, hd.2⟩) fun _ => List.Subset.refl _

theorem keeps_loadValid {content : NetworkMap} {s : State} (h : s.MapsSound → content.Sound) :
    Keeps s (loadValid content s) := by
  have hmap : Keeps s { s with map := content } :=
    .of_blocks { KeepsBlocks.refl s with maps := fun hm => ⟨h hm, hm.2⟩ } rfl rfl rfl fun _ => List.Subset.refl _
  have hplace : Keeps { s with map := content } (placeValves { s with map := content }) :=
    Keeps.foldl (fun s e => (quiet_dynAfterPut e.1 e.2 s).keepsAll) content.valves _
  exact ((hmap.trans hplace).trans (keeps_judgeAlarms _ _)).trans (keeps_enterRun _)

theorem emptyMap_sound : emptyMap.Sound := ⟨.nil, .nil, .nil⟩

theorem keeps_emptyMap (s : State) : Keeps s { s with map := emptyMap } :=
  keeps_onMap (f := fun _ => emptyMap) fun _ => emptyMap_sound

theorem keeps_loadInvalid (detail : Nat) {s : State} (hm : s.store.mode ≠ .run) : Keeps s (loadInvalid detail s) :=
  ((keeps_emptyMap s).trans (Quiet.raise _ _ _ _ _).keepsAll).trans (keeps_changeMode fun _ hi => hi hm)

theorem keeps_completeLoad {s : State} (hm : s.store.mode ≠ .run) : Keeps s (completeLoad s) := by
  unfold completeLoad
  split
  · exact keeps_loadInvalid _ hm
  · exact keeps_loadInvalid _ hm
  · next content sum e =>
    split
    · exact keeps_loadValid fun h => h.2 content (by rw [e]; rfl)
    · exact keeps_loadInvalid _ hm

theorem content_afterReset (image : Image) (n : Nat) : ∀ m ∈ (image.afterReset n).content, m ∈ image.content := by
  cases image with
  | blank => exact fun _ h => h
  | written content sum => exact fun _ h => h
  | saving content =>
    intro m hm
    unfold Image.afterReset at hm
    dsimp only at hm
    split at hm
    · cases hm
    · exact hm

theorem reset_sound : State.reset.reports.Sound ∧ State.reset.LinesSound := by decide

theorem keeps_fullReset (a b : Nat) (s : State) : Keeps s (fullReset a b s) where
  blocks :=
    { reports := fun _ => reset_sound.1
      stations := fun _ => by simp [fullReset, State.reset, State.StationsSound]
      lines := fun _ => reset_sound.2
      maps := fun h => ⟨emptyMap_sound, fun m hm => h.2 m (content_afterReset _ _ m hm)⟩
      valves := fun _ => ⟨.nil, by simp [fullReset, State.reset], by simp [fullReset, State.reset]⟩
      frame := fun _ => Nat.zero_le _ }
  engine _ :=
    { slots := by change State.reset.SlotsSound; decide
      planner := fun _ => by change State.reset.PlannerSound; decide
      idle := fun _ _ => rfl
      regions := fun _ => .nil
      consent := fun _ => ⟨.nil, by simp [fullReset, State.reset], by simp [fullReset, State.reset]⟩
      holders := fun _ _ => by simp [fullReset, State.reset, State.HoldersSound] }

/-! ### Quiescing (10 R198) -/

theorem quiet_quiesceValves (s : State) :
    Quiet s ((Table.keys s.drive.valves).foldl (fun s v => onDyn v ValveDyn.quiesce s) s) :=
  Quiet.foldl (fun _ v => quiet_onDyn_same (v := v) (f := ValveDyn.quiesce) (fun _ => rfl) fun _ => rfl) _ s

theorem quiet_quiesceLine (l : Line) (s : State) :
    Quiet s (onSupply l (fun u => { u with retryLeft := none }) (emptyUrgent l s)) :=
  (quiet_emptyUrgent l s).trans (.supply fun _ h => h)

theorem quiet_prepareQuiesce (s : State) : Quiet s (prepareQuiesce s) :=
  (quiet_quiesceValves s).trans (Quiet.foldl (fun u l => quiet_quiesceLine l u) allLines _)

theorem keeps_beginQuiesce {s : State} (hs : s.engine.slots = []) : Keeps s (beginQuiesce s) :=
  (((keeps_changeMode fun _ _ => hs).trans (quiet_prepareQuiesce _).keepsAll).trans
    (quiet_retimePolls _).keepsAll).trans (keeps_quiesceDone _)

/-! ### Exchanges and supplies (05, 06) -/

/-- A reply's readings are in range. -/
structure StationReply.Fits (r : StationReply) : Prop where
  position : ∀ c, (r.channels.get c).position.getD 0 ≤ 1000
  pressure : r.pressure.getD 0 ≤ 4000

theorem readPosition_le (n : Nat) : (readPosition n).getD 0 ≤ 1000 := by
  unfold readPosition; split
  · exact Nat.zero_le _
  · exact Nat.min_le_right _ _

theorem readPressure_le (n : Nat) : (readPressure n).getD 0 ≤ 4000 := by
  unfold readPressure; split
  · exact Nat.zero_le _
  · exact Nat.min_le_right _ _

/-- 05 R124: a reply as read has its readings clamped. -/
theorem readReply_fits (payload : List Byte) : (readReply payload).Fits where
  position c := by
    unfold PerChannel.get; split <;> exact readPosition_le _
  pressure := readPressure_le _

theorem judgeReply_fits {a : Nat} {cs : List Character} {r : StationReply} (h : judgeReply a cs = .good r) : r.Fits := by
  unfold judgeReply at h; dsimp only at h
  split at h
  · cases h
  · split at h
    · cases h
    · split at h
      · cases h
      · cases h; exact readReply_fits _

theorem calm_driveTakes (l : Line) (x : Exchange) {r : StationReply} (hr : r.Fits) (s : State) :
    Calm s (driveTakes l x r s) := by
  have hchannels : Calm s (allChannels.foldl (fun u channel =>
      match u.valveOfChannel l x.address channel with
      | some (v, p) => takeReport v p (r.channels.get channel) (s.pressureOf l x.address r) u
      | none => u) s) := Calm.foldl (fun u c => by
    split
    · exact calm_takeReport _ _ (hr.position c) _ _
    · exact .refl _) _ _
  unfold driveTakes; dsimp only
  split
  · exact hchannels.trans (.quiet (quiet_acknowledge _ _))
  · exact hchannels

theorem calm_superviseCompletion (l : Line) (a : Nat) {c : Completion} (hc : ∀ r, c = .good r → r.Fits) (s : State) :
    Calm s (superviseCompletion l a c s) := by
  unfold superviseCompletion
  refine Calm.trans ?_ (calm_handReach _ _ _)
  cases c with
  | good r =>
    exact .quiet (((quiet_takeLocal _ _ _ _).trans (quiet_supervise _ _ _ _)).trans
      (quiet_takePressure _ (hc r rfl).pressure))
  | error e => exact .quiet (quiet_supervise _ _ _ _)

/-- 05 R128: an exchange's completion, up to the end of QUIESCING and the restores. -/
theorem keeps_completeExchange (l : Line) (x : Exchange) {c : Completion} (hc : ∀ r, c = .good r → r.Fits) (s : State) :
    Keeps s (completeExchange l x c s) := by
  have hquiet : Quiet s (onControl l (fun k => { k with exchange := none }) s) :=
    quiet_onControl_same (fun _ => rfl) (fun _ => rfl) fun _ => rfl
  unfold completeExchange; dsimp only
  refine ((hquiet.keepsAll.trans (calm_superviseCompletion l x.address hc _).keeps).trans ?_).trans (keeps_quiesceDone _)
  refine Keeps.trans ?_ (keeps_settle _)
  generalize superviseCompletion l x.address c (onControl l (fun k => { k with exchange := none }) s) = u
  refine Keeps.trans ?_ (quiet_reofferRefused _ _).keepsAll
  cases c with
  | good r => exact ((calm_driveTakes l x (hc r rfl) u).trans (.quiet (quiet_reschedule _ _ _ _))).keeps
  | error e =>
    exact (((quiet_driveFails l x u).trans (quiet_countError _ _ _)).trans (quiet_reschedule _ _ _ _)).keepsAll

theorem keeps_switchOn (l : Line) (s : State) : Keeps s (switchOn l s) := by
  have hquiet : Quiet s (allDue l (forgetPositions l
      (onSupply l (fun u => { u with state := .on, timeOn := some 0, retryLeft := none }) s))) :=
    ((Quiet.supply (f := fun u => { u with state := .on, timeOn := some 0, retryLeft := none }) fun _ h => h).trans
      (quiet_forgetPositions _ _)).trans (quiet_allDue _ _)
  exact hquiet.keepsAll.trans (calm_handReach _ _ _).keeps

theorem keeps_tripSupply (l : Line) (s : State) : Keeps s (tripSupply l s) := by
  unfold tripSupply; dsimp only
  refine Keeps.trans (Keeps.trans (Keeps.trans ?_ (calm_handReach l s _).keeps) (keeps_settle _)) (keeps_quiesceDone _)
  have hlines (h : s.LinesSound) :
      (onSupply l (fun _ => (s.supply.get l).trip (s.map.lines.get l) s.store.mode) s).LinesSound := fun k hk => by
    refine ⟨(h k hk).1, ?_⟩
    simp only [onSupply, PerLine.get_set]
    split
    · exact (h.get l).2.trip _ _
    · exact (h k hk).2
  have htrip : Keeps s (onSupply l (fun _ => (s.supply.get l).trip (s.map.lines.get l) s.store.mode) s) :=
    .of_blocks { KeepsBlocks.refl s with lines := hlines } rfl rfl rfl fun _ => List.Subset.refl _
  have hclear (u : State) : Quiet u (onControl l (fun c => { c with exchange := none }) u) :=
    quiet_onControl_same (fun _ => rfl) (fun _ => rfl) fun _ => rfl
  exact htrip.trans (((Quiet.raise _ _ _ _ _).trans (hclear _)).trans (quiet_emptyUrgent _ _)).keepsAll

theorem keeps_resetLine (l : Line) (s : State) : Keeps s (resetLine l s) := by
  unfold resetLine; dsimp only
  have h := ((quiet_resetController l s).trans
    (Quiet.foldl quiet_resetStation ((resetController l s).stationKeys l) _)).trans (quiet_supplyReset l _)
  exact ((h.trans (quiet_resetValves l _)).trans (quiet_markStale _)).keepsAll.trans
    ((calm_handReach l s _).keeps.trans (keeps_settle _))

end Sys2Proof.Machine
end

section
/-! PROOFS. The requests as answers, and every step keeps every invariant. -/

namespace Sys2Proof.Machine

open Sys2Proof

/-! ### Requests and their answers (09, section 9.5) -/

/-- The kind and the owner's answer of a unicast request. -/
def requestAnswer : Instr → Option (Byte × (State → Answer))
  | .putSegment a b c d => some (0x01#8, putSegment a b c d)
  | .putValve f => some (0x02#8, putValve f)
  | .putStation a b c d e f => some (0x03#8, putStation a b c d e f)
  | .putLine a b c d e f => some (0x04#8, putLine a b c d e f)
  | .putAlarm a b c d e => some (0x05#8, putAlarm a b c d e)
  | .putPolicy a b c d e f => some (0x06#8, putPolicy a b c d e f)
  | .dropSegment a => some (0x07#8, dropSegment a)
  | .dropValve a => some (0x08#8, dropValve a)
  | .dropStation a b => some (0x09#8, dropStation a b)
  | .clearMap => some (0x0A#8, clearMap)
  | .enterConfig => some (0x10#8, enterConfig)
  | .leaveConfig => some (0x11#8, leaveConfig)
  | .saveMap => some (0x12#8, saveMap)
  | .readSegment a b => some (0x20#8, readSegment a b)
  | .readValve a => some (0x21#8, readValve a)
  | .readStation a b => some (0x22#8, readStation a b)
  | .readLine a => some (0x23#8, readLine a)
  | .readIncident a => some (0x24#8, readIncident a)
  | .readPlan a b c => some (0x25#8, readPlan a b c)
  | .readPart => some (0x26#8, readPart)
  | .declare a b c => some (0x30#8, declare a b c)
  | .consent a b => some (0x31#8, consent a b)
  | .crewResult a b => some (0x32#8, crewResult a b)
  | .replan a => some (0x33#8, replan a)
  | .restore a => some (0x34#8, restore a)
  | .setOperability a b => some (0x35#8, setOperabilityRequest a b)
  | .release false a => some (0x36#8, releaseRequest a)
  | .fetch => some (0x40#8, fetch)
  | .setMask a b => some (0x41#8, setMask a b)
  | .setRoute a b => some (0x42#8, setRoute a b)
  | .setWatermark a => some (0x43#8, setWatermark a)
  | .setTime false a => some (0x50#8, setTime a)
  | .resetLine a => some (0x51#8, resetLineRequest a)
  | .supplyOn a => some (0x52#8, supplyOnRequest a)
  | .resetPart => some (0x53#8, resetPart)
  | _ => none

/-- 09 R185: a unicast request is answered with its owner's answer. -/
theorem exec_of_requestAnswer {i : Instr} {k : Byte} {a : State → Answer} (h : requestAnswer i = some (k, a)) (s : State) :
    exec i s = .next (answered k (a s)) := by
  cases i
  case release broadcast code => cases broadcast <;> cases h; rfl
  case setTime broadcast time => cases broadcast <;> cases h; rfl
  all_goals cases h
  all_goals rfl

/-- 09, section 9.5: what a row of the catalogue does is the answer of a request. -/
theorem exists_request_of_row : ∀ r ∈ catalogue, ∀ p, ∃ i k, requestAnswer i = some (k, r.act p) := by
  simp only [catalogue, mapCatalogue, readCatalogue, actCatalogue, List.forall_mem_append, List.forall_mem_cons]
  refine ⟨⟨⟨?_, ?_, ?_, ?_, ?_, ?_, ?_, ?_, ?_, ?_, by simp⟩, ?_, ?_, ?_, ?_, ?_, ?_, ?_, ?_, ?_, ?_, by simp⟩,
    ?_, ?_, ?_, ?_, ?_, ?_, ?_, ?_, ?_, ?_, ?_, ?_, ?_, ?_, ?_, by simp⟩
  · exact fun p => ⟨.putSegment _ _ _ _, _, rfl⟩
  · exact fun p => ⟨.putValve _, _, rfl⟩
  · exact fun p => ⟨.putStation _ _ _ _ _ _, _, rfl⟩
  · exact fun p => ⟨.putLine _ _ _ _ _ _, _, rfl⟩
  · exact fun p => ⟨.putAlarm _ _ _ _ _, _, rfl⟩
  · exact fun p => ⟨.putPolicy _ _ _ _ _ _, _, rfl⟩
  · exact fun p => ⟨.dropSegment _, _, rfl⟩
  · exact fun p => ⟨.dropValve _, _, rfl⟩
  · exact fun p => ⟨.dropStation _ _, _, rfl⟩
  · exact fun _ => ⟨.clearMap, _, rfl⟩
  · exact fun _ => ⟨.enterConfig, _, rfl⟩
  · exact fun _ => ⟨.leaveConfig, _, rfl⟩
  · exact fun _ => ⟨.saveMap, _, rfl⟩
  · exact fun p => ⟨.readSegment _ _, _, rfl⟩
  · exact fun p => ⟨.readValve _, _, rfl⟩
  · exact fun p => ⟨.readStation _ _, _, rfl⟩
  · exact fun p => ⟨.readLine _, _, rfl⟩
  · exact fun p => ⟨.readIncident _, _, rfl⟩
  · exact fun p => ⟨.readPlan _ _ _, _, rfl⟩
  · exact fun _ => ⟨.readPart, _, rfl⟩
  · exact fun p => ⟨.declare _ _ _, _, rfl⟩
  · exact fun p => ⟨.consent _ _, _, rfl⟩
  · exact fun p => ⟨.crewResult _ _, _, rfl⟩
  · exact fun p => ⟨.replan _, _, rfl⟩
  · exact fun p => ⟨.restore _, _, rfl⟩
  · exact fun p => ⟨.setOperability _ _, _, rfl⟩
  · exact fun p => ⟨.release false _, _, rfl⟩
  · exact fun _ => ⟨.fetch, _, rfl⟩
  · exact fun p => ⟨.setMask _ _, _, rfl⟩
  · exact fun p => ⟨.setRoute _ _, _, rfl⟩
  · exact fun p => ⟨.setWatermark _, _, rfl⟩
  · exact fun p => ⟨.setTime false _, _, rfl⟩
  · exact fun p => ⟨.resetLine _, _, rfl⟩
  · exact fun p => ⟨.supplyOn _, _, rfl⟩
  · exact fun _ => ⟨.resetPart, _, rfl⟩

/-! ### Gates -/

@[simp] theorem state_done (s : State) : (done s).state = s := rfl

/-- A gated request keeps every invariant when the request itself does, in its modes and with its fields in range. -/
theorem keeps_gated_fields {permitted : Mode → Bool} {checks : List Bool} {act : State → Answer} {s : State}
    (h : permitted s.store.mode = true → firstBad checks = none → Keeps s (act s).state) :
    Keeps s (gated permitted checks act s).state := by
  unfold gated
  split
  · split
    · exact .refl s
    · exact h ‹_› ‹_›
  · exact .refl s

theorem keeps_gated {permitted : Mode → Bool} {checks : List Bool} {act : State → Answer} {s : State}
    (h : permitted s.store.mode = true → Keeps s (act s).state) : Keeps s (gated permitted checks act s).state :=
  keeps_gated_fields fun hm _ => h hm

theorem keeps_mapEdit {checks : List Bool} {edit : State → Answer} {s : State}
    (h : s.store.mode = .config → Keeps s (edit s).state) : Keeps s (mapEdit checks edit s).state := by
  unfold mapEdit
  split
  · exact .refl s
  · split
    · exact .refl s
    · split
      · exact .refl s
      · next hm _ _ _ => exact h (by simpa using hm)

theorem keeps_answered (k : Byte) {a : Answer} {s : State} (h : Keeps s a.state) : Keeps s (answered k a) :=
  h.trans (keeps_onLink (f := fun x => { x with reply := some ⟨k, a.status, a.data⟩, receiver := .replying false false })
    fun hf => hf)

/-! ### Map requests (01, section 1.7) -/

/-- A map edit that changes nothing but the running map. -/
theorem keeps_mapEdit_onMap {checks : List Bool} {f : NetworkMap → NetworkMap} (s : State)
    (h : s.map.Sound → (f s.map).Sound) : Keeps s (mapEdit checks (fun s => done (onMap f s)) s).state :=
  keeps_mapEdit fun _ => keeps_onMap h

theorem keeps_putSegment (a b c d : Nat) (s : State) : Keeps s (putSegment a b c d s).state :=
  keeps_mapEdit_onMap s fun h => ⟨Table.wf_put _ _ h.1, h.2⟩

theorem keeps_putValve (f : ValveFields) (s : State) : Keeps s (putValve f s).state :=
  keeps_mapEdit fun _ =>
    (keeps_onMap (f := fun m => { m with valves := Table.put m.valves f.valve (valveRecord f) })
      fun h => ⟨h.1, Table.wf_put _ _ h.2.1, h.2.2⟩).trans (quiet_dynAfterPut _ _ _).keepsAll

theorem keeps_putStation (a b c d e f : Nat) (s : State) : Keeps s (putStation a b c d e f s).state :=
  keeps_mapEdit_onMap s fun h => ⟨h.1, h.2.1, Table.wf_put _ _ h.2.2⟩

theorem keeps_putLine (a b c d e f : Nat) (s : State) : Keeps s (putLine a b c d e f s).state :=
  keeps_mapEdit_onMap s fun h => ⟨h.1, h.2.1, h.2.2⟩

theorem keeps_changeAlarm (i : Fin 8) (x : AlarmSettings) (s : State) : Keeps s (changeAlarm i x s) :=
  ((keeps_onMap (f := fun m => { m with alarms := m.alarms.set i x }) fun h => ⟨h.1, h.2.1, h.2.2⟩).trans
    (keeps_onAlarm i _ _)).trans (keeps_judgeAlarm i s _)

theorem keeps_putAlarm (a b c d e : Nat) (s : State) : Keeps s (putAlarm a b c d e s).state :=
  keeps_mapEdit fun _ => by
    split
    · exact keeps_changeAlarm _ _ s
    · exact .refl s

theorem keeps_putPolicy (a b c d e f : Nat) (s : State) : Keeps s (putPolicy a b c d e f s).state :=
  keeps_mapEdit_onMap s fun h => ⟨h.1, h.2.1, h.2.2⟩

theorem keeps_dropSegment (a : Nat) (s : State) : Keeps s (dropSegment a s).state :=
  keeps_mapEdit fun _ => by
    split
    · exact keeps_onMap (f := fun m => { m with segments := Table.erase m.segments a })
        fun h => ⟨Table.wf_erase _ h.1, h.2⟩
    · exact .refl s

theorem keeps_dropValve (a : Nat) (s : State) : Keeps s (dropValve a s).state :=
  keeps_mapEdit fun _ => by
    split
    · exact (keeps_onMap (f := fun m => { m with valves := Table.erase m.valves a })
        fun h => ⟨h.1, Table.wf_erase _ h.2.1, h.2.2⟩).trans (quiet_dynAfterDrop _ _).keepsAll
    · exact .refl s

theorem keeps_removeStation (l : Line) (a : Nat) (s : State) : Keeps s (removeStation l a s) := by
  have hmap : Keeps s { s with
      stations := Table.erase s.stations (stationKey l a)
      map := { s.map with stations := Table.erase s.map.stations (stationKey l a) } } :=
    .of_blocks { KeepsBlocks.refl s with
      stations := fun h e he => h e (Table.mem_erase.1 he).1
      maps := fun h => ⟨⟨h.1.1, h.1.2.1, Table.wf_erase _ h.1.2.2⟩, h.2⟩ } rfl rfl rfl fun _ => List.Subset.refl _
  exact hmap.trans (quiet_onControl_same (f := fun c => { c with schedule := c.schedule.filter fun e => e.address != a })
    (fun _ => rfl) (fun _ => rfl) fun _ => rfl).keepsAll

theorem keeps_dropStation (a b : Nat) (s : State) : Keeps s (dropStation a b s).state :=
  keeps_mapEdit fun _ => by
    dsimp only; split
    · exact keeps_removeStation _ _ s
    · exact .refl s

theorem quiet_clearSchedule (l : Line) (s : State) : Quiet s (onControl l (fun c => { c with schedule := [] }) s) :=
  quiet_onControl_same (fun _ => rfl) (fun _ => rfl) fun _ => rfl

theorem keeps_dropAllDyn (s : State) : Keeps s (dropAllDyn s) :=
  Keeps.foldl (fun u v => (quiet_dynAfterDrop v u).keepsAll) _ s

theorem keeps_settleDebounce (before s : State) : Keeps s (settleDebounce before s) :=
  Keeps.foldl (fun u i => keeps_onAlarm i (fun x => x.settingsChanged before.map.alarms[i] u.map.alarms[i]) u) allInputs s

theorem keeps_emptyTheMap (s : State) : Keeps s (emptyTheMap s) := by
  have hempty : Keeps s { s with map := emptyMap, stations := [] } :=
    .of_blocks { KeepsBlocks.refl s with
      stations := fun _ => by simp [State.StationsSound]
      maps := fun h => ⟨emptyMap_sound, h.2⟩ } rfl rfl rfl fun _ => List.Subset.refl _
  unfold emptyTheMap; dsimp only
  refine ((Keeps.trans ?_ (keeps_dropAllDyn _)).trans (keeps_settleDebounce s _)).trans (keeps_judgeAlarms s _)
  exact hempty.trans (Keeps.foldl (fun u l => (quiet_clearSchedule l u).keepsAll) allLines _)

theorem keeps_clearMap (s : State) : Keeps s (clearMap s).state := keeps_mapEdit fun _ => keeps_emptyTheMap s

/-! ### Mode requests (10) -/

theorem keeps_enterConfig (s : State) : Keeps s (enterConfig s).state :=
  keeps_gated fun _ => by
    split
    · next h => exact keeps_beginQuiesce (by simpa using h)
    · exact .refl s

theorem keeps_validated {act : State → Answer} {s : State} (h : Keeps s (act s).state) : Keeps s (validated act s).state := by
  unfold validated
  split
  · exact .refl s
  · exact h

theorem keeps_leaveConfig (s : State) : Keeps s (leaveConfig s).state := by
  have h : Keeps s (done (enterRun s)).state := by rw [state_done]; exact keeps_enterRun s
  unfold leaveConfig
  exact keeps_mapEdit fun _ => keeps_validated h

theorem keeps_beginSave (s : State) : Keeps s (beginSave s) :=
  .of_blocks { KeepsBlocks.refl s with maps := fun h => ⟨h.1, fun m hm => by cases hm; exact h.1⟩ } rfl rfl rfl
    fun _ => List.Subset.refl _

theorem keeps_saveMap (s : State) : Keeps s (saveMap s).state :=
  keeps_mapEdit fun _ => keeps_validated (keeps_beginSave s)

theorem keeps_endSave (s : State) : Keeps s (endSave s) := by
  unfold endSave
  split
  · next content e =>
    have hstore : Keeps s { s with
        store := { s.store with busy := false, image := .written content (imageSum content) } } :=
      .of_blocks { KeepsBlocks.refl s with
        maps := fun h => ⟨h.1, fun m hm => h.2 m (by rw [e]; exact hm)⟩ } rfl rfl rfl fun _ => List.Subset.refl _
    exact hstore.trans (Quiet.raise _ _ _ _ _).keepsAll
  · exact .refl s

theorem keeps_resetPart (s : State) : Keeps s (resetPart s).state :=
  keeps_gated fun _ => keeps_onLink (f := fun k => { k with resetPending := true }) fun h => h

/-! ### Reads -/

theorem keeps_readSegment (a b : Nat) (s : State) : Keeps s (readSegment a b s).state :=
  keeps_gated fun _ => by
    split
    · exact .refl s
    · dsimp only; split <;> exact .refl s

theorem keeps_readValve (a : Nat) (s : State) : Keeps s (readValve a s).state :=
  keeps_gated fun _ => by split <;> exact .refl s

theorem keeps_readStation (a b : Nat) (s : State) : Keeps s (readStation a b s).state :=
  keeps_gated fun _ => by dsimp only; split <;> exact .refl s

theorem keeps_clearLine (l : Line) (s : State) : Keeps s (clearLine l s) :=
  ((Quiet.control (f := fun c => { c with errorLog := 0, overflowReported := false, lastError := .noNew })
    fun _ h => ⟨h.1, h.2.1, h.2.2.1, Nat.zero_le _⟩).trans
    (.supply (f := fun u => { u with trippedFlag := false }) fun _ h => h)).keepsAll

theorem keeps_readLine (a : Nat) (s : State) : Keeps s (readLine a s).state :=
  keeps_gated fun _ => keeps_clearLine _ s

theorem keeps_readIncident (a : Nat) (s : State) : Keeps s (readIncident a s).state :=
  keeps_gated fun _ => by split <;> exact .refl s

theorem keeps_readPlan (a b c : Nat) (s : State) : Keeps s (readPlan a b c s).state :=
  keeps_gated fun _ => by
    split
    · exact .refl s
    · split <;> exact .refl s

theorem keeps_clearLatched (s : State) : Keeps s (clearLatched s) :=
  Keeps.foldl (fun u i => keeps_onAlarm i (fun x => { x with latched := false }) u) allInputs s

theorem keeps_readPart (s : State) : Keeps s (readPart s).state := keeps_gated fun _ => keeps_clearLatched s

end Sys2Proof.Machine
end

section
/-! PROOFS. Requests on incidents, crews, reports and lines, the host link, elapsed time, and the step: every invariant is
kept (tier 3). -/

namespace Sys2Proof.Machine

open Sys2Proof

/-! ### Incidents and crews (03, 04) -/

theorem state_declareAnswer (s : State) (d : Declared) : (declareAnswer s d).state = s := by cases d <;> rfl

theorem mode_of_inRun {m : Mode} (h : inRun m = true) : m = .run := by cases m <;> simp [inRun] at h ⊢

theorem keeps_declare (a b c : Nat) (s : State) : Keeps s (declare a b c s).state :=
  keeps_gated_fields fun hm hbad => by
    split
    · dsimp only
      rw [state_declareAnswer]
      refine keeps_declareBurst ?_ (mode_of_inRun hm) _ _ _
      rintro rfl
      simp [firstBad, inRange, List.findIdx?_cons] at hbad
    · exact .refl s

/-- An operation on an incident found by its number; the blocks' invariants do not need sound slots. -/
theorem Keeps.of_incident {s t : State} {n k : Nat} {inc : Incident} (hi : s.incident n = some (k, inc))
    (hb : KeepsBlocks s t) (h : s.slot k = some inc → Keeps s t) : Keeps s t :=
  ⟨hb, fun hs => (h (slot_of_incident hs.wf hi).1).engine hs⟩

theorem keepsBlocks_resolveConsent (k : Nat) (inc : Incident) (c : ConsentState) (byTimer proceed : Bool) (s : State) :
    KeepsBlocks s (resolveConsent k inc c byTimer proceed s) := by
  have hleft (new : Incident) : KeepsBlocks s (putSlot k new (leaveConsent inc.number byTimer s)) :=
    (keepsBlocks_leaveConsent _ _ _).trans (keepsBlocks_putSlot _ _ _)
  have hraise (st : IncidentState) (u : State) : KeepsBlocks u (raiseConsentResolved inc c byTimer st u) :=
    keepsBlocks_raise _ _ _ _ _
  unfold resolveConsent; dsimp only
  split
  · split
    · exact ((hleft _).trans (hraise _ _)).trans (keepsBlocks_enterClosing _ _)
    · exact ((hleft _).trans (hraise _ _)).trans (keepsBlocks_enterState _ _ _)
  · exact ((hleft _).trans (hraise _ _)).trans (keepsBlocks_enterState _ _ _)

theorem keeps_consent (a b : Nat) (s : State) : Keeps s (consent a b s).state :=
  keeps_gated fun _ => by
    split
    · exact .refl s
    · next k inc hi =>
      split
      · next haw =>
        rw [state_done]
        exact (Keeps.of_incident hi (keepsBlocks_resolveConsent _ _ _ _ _ _) fun hk =>
          keeps_resolveConsent hk (by simp [haw]) _ _ _).trans (keeps_settle _)
      · exact .refl s

theorem calm_crewClosed (v : Nat) (normal : NormalState) (s : State) : Calm s (crewClosed v normal s) := by
  unfold crewClosed; dsimp only
  refine Calm.trans ?_ (calm_setConfirmed _ _ _)
  have h := (((quiet_endCrewWait v s).trans (quiet_setPosition v (r := some 1000) (by decide) _)).trans
    (quiet_redeem v _)).trans (.raise .valveClosed (.valve v) 1 [some 1000, some 0, some 0] _)
  split
  · exact .quiet (h.trans (quiet_raiseOffNormal _ _ _))
  · exact .quiet h

theorem calm_takeCrewResult (v : Nat) (normal : NormalState) (result : Nat) (s : State) :
    Calm s (takeCrewResult v normal result s) := by
  unfold takeCrewResult
  split
  · exact calm_crewClosed v normal s
  · exact (Calm.quiet ((((quiet_endCrewWait v s).trans (quiet_setPosition v (r := some 0) (by decide) _)).trans
      (quiet_redeem v _)).trans (.raise .valveOpened (.valve v) 1 [some 0, some 0, some 0] _))).trans
      (calm_setConfirmed _ _ _)
  · unfold crewFailed; dsimp only
    have h := ((quiet_endCrewWait v s).trans (quiet_setOperability v .inoperable _)).trans (quiet_raiseFailed v failedCrew 0 _)
    split
    · exact .quiet h
    · exact (Calm.quiet h).trans (calm_replanRequest _ _)

theorem keeps_crewResult (a b : Nat) (s : State) : Keeps s (crewResult a b s).state :=
  keeps_gated fun _ => by
    split
    · exact .refl s
    · split
      · exact .refl s
      · rw [state_done]
        exact (calm_takeCrewResult _ _ _ s).keeps.trans (keeps_settle _)

theorem noReplan_not_restoring {st : IncidentState} (h : st.noReplan = false) : st ≠ .restoring := by
  rintro rfl; simp [IncidentState.noReplan] at h

theorem keeps_replan (a : Nat) (s : State) : Keeps s (replan a s).state :=
  keeps_gated fun _ => by
    split
    · exact .refl s
    · next k inc hi =>
      split
      · exact .refl s
      · next hn =>
        exact Keeps.of_incident hi (keepsBlocks_requestReplan _ _ _) fun hk =>
          (calm_requestReplan hk (noReplan_not_restoring (by simpa using hn)) inc.excluded).keeps

theorem keepsBlocks_beginRestore (k : Nat) (inc : Incident) (s : State) : KeepsBlocks s (beginRestore k inc s) := by
  unfold beginRestore
  refine KeepsBlocks.trans ?_ (quiet_markStaleForOthers _ _).keeps
  refine ((keepsBlocks_quitConsent k s).trans (keeps_dropPlan inc.number _).blocks).trans ?_
  unfold enterRestoring
  split
  · exact (keepsBlocks_putSlot _ _ _).trans (keepsBlocks_raise _ _ _ _ _)
  · exact .refl _

theorem keepsBlocks_discardPlanning (k : Nat) (inc : Incident) (s : State) : KeepsBlocks s (discardPlanning k inc s) := by
  have hfree (u : State) : KeepsBlocks u (freeSlot k u) := .of_eq rfl rfl rfl rfl rfl rfl rfl rfl
  exact (((keeps_dropPlan inc.number s).blocks.trans (hfree _)).trans (keepsBlocks_raise _ _ _ _ _)).trans
    (quiet_markStaleForOthers _ _).keeps

theorem keeps_restore (a : Nat) (s : State) : Keeps s (restore a s).state :=
  keeps_gated fun _ => by
    split
    · exact .refl s
    · next k inc hi =>
      split
      · exact .refl s
      · next hr =>
        split
        · next h =>
          rw [state_done]
          exact Keeps.of_incident hi (keepsBlocks_discardPlanning _ _ _) fun hk =>
            keeps_discardPlanning hk h.1 (by simpa using h.2)
        · dsimp only
          exact (Keeps.of_incident hi (keepsBlocks_beginRestore _ _ _) fun hk => keeps_beginRestore hk hr).trans
            (keeps_settle _)

theorem keeps_setOperabilityRequest (a b : Nat) (s : State) : Keeps s (setOperabilityRequest a b s).state :=
  keeps_gated fun _ => by
    split
    · split
      · exact .refl s
      · rw [state_done]
        exact (quiet_setOperability _ _ s).keepsAll.trans (keeps_settle _)
    · exact .refl s

theorem releasedBy_armed {inc : Incident} {code : Nat} (h : inc.releasedBy code = true) : inc.state = .armed := by
  simp only [Incident.releasedBy, Bool.and_eq_true, decide_eq_true_eq] at h
  exact h.1

theorem keeps_releaseArmed (code : Nat) (s : State) : Keeps s (releaseArmed code s) := by
  refine Keeps.trans (Keeps.forSlots (fun k inc s hk => ?_) s) (keeps_settle _)
  split
  · next h =>
    have harmed := releasedBy_armed h
    exact keeps_enterClosing hk (by simp [harmed]) (by simp [harmed])
  · exact .refl s

theorem keeps_releaseRequest (a : Nat) (s : State) : Keeps s (releaseRequest a s).state :=
  keeps_gated fun _ => by
    dsimp only
    exact keeps_releaseArmed a s

theorem keeps_releaseBroadcast (a : Nat) (s : State) : Keeps s (releaseBroadcast a s) := by
  unfold releaseBroadcast
  split
  · exact keeps_releaseArmed a s
  · exact .refl s

theorem keeps_resolveByTimer {s : State} {n k : Nat} {inc : Incident} (hi : s.incident n = some (k, inc))
    (haw : inc.state = .awaitConsent) : Keeps s (resolveByTimer k inc s) := by
  unfold resolveByTimer
  split
  · exact (Keeps.of_incident hi (keepsBlocks_resolveConsent _ _ _ _ _ _) fun hk =>
      keeps_resolveConsent hk (by simp [haw]) _ _ _).trans (keeps_settle _)
  · exact (Keeps.of_incident hi (keepsBlocks_resolveConsent _ _ _ _ _ _) fun hk =>
      keeps_resolveConsent hk (by simp [haw]) _ _ _).trans (keeps_settle _)

theorem keeps_consentExpiry (s : State) : Keeps s (consentExpiry s) := by
  unfold consentExpiry
  split
  · unfold resolveOldest
    split
    · split
      · next k inc hi =>
        split
        · exact keeps_resolveByTimer hi ‹_›
        · exact .refl s
      · exact .refl s
    · exact .refl s
  · exact ⟨.of_eq rfl rfl rfl rfl rfl rfl rfl rfl, fun hs =>
      .of_eq hs rfl rfl rfl rfl rfl rfl id fun _ => List.Subset.refl _⟩

/-! ### Reports (08) -/

theorem keeps_fetch (s : State) : Keeps s (fetch s).state :=
  keeps_gated fun _ => keeps_reports fun ⟨hq, _, hk, hw, hw', ht, _, _⟩ =>
    ReportUnit.sound_derive (by simp only [List.length_drop]; omega) (Nat.zero_le _) hk hw hw' ht

theorem keeps_onKind {k : ReportKind} {f : KindSetting → KindSetting} {s : State}
    (hc : ∀ x, x.maskedCount ≤ 255 → (f x).maskedCount ≤ 255) (hr : ∀ x, (f x).onLine1 = x.onLine1) :
    Keeps s (onKind k f s) :=
  keeps_reports fun h => h.setKind (hc _ (h.kind_count k)) (hr _)

theorem keeps_unmaskKind (k : ReportKind) (s : State) : Keeps s (unmaskKind k s) := by
  unfold unmaskKind; dsimp only
  refine Keeps.trans ?_ (keeps_onKind (fun _ _ => Nat.zero_le _) fun _ => rfl)
  have h : Keeps s (onKind k (fun x => { x with masked := false }) s) := keeps_onKind (fun _ h => h) fun _ => rfl
  split
  · exact h
  · exact h.trans (Quiet.raise _ _ _ _ _).keepsAll

theorem keeps_applyMask (k : ReportKind) (setting : Nat) (s : State) : Keeps s (applyMask k setting s) := by
  unfold applyMask
  split
  · exact keeps_onKind (fun _ h => h) fun _ => rfl
  · split
    · exact keeps_unmaskKind k s
    · exact .refl s

theorem keeps_setMask (a b : Nat) (s : State) : Keeps s (setMask a b s).state :=
  keeps_gated fun _ => by
    split
    · exact keeps_applyMask _ _ s
    · exact .refl s

theorem keeps_setRoute (a b : Nat) (s : State) : Keeps s (setRoute a b s).state :=
  keeps_gated fun _ => by
    split
    · exact keeps_reports fun h => ReportUnit.sound_derive h.1 h.2.1
        (maskedCount_setKind (h.kind_count _) h.2.2.1) h.2.2.2.1 h.2.2.2.2.1 h.2.2.2.2.2.1
    · exact .refl s

theorem keeps_setWatermark (a : Nat) (s : State) : Keeps s (setWatermark a s).state :=
  keeps_gated_fields fun _ hbad => by
    have ha : 1 ≤ a ∧ a ≤ 32 := by
      by_contra hc
      have : inRange 1 32 a = false := by simp [inRange]; omega
      simp [firstBad, this] at hbad
    exact keeps_reports fun h => ReportUnit.sound_derive h.1 h.2.1 h.2.2.1 ha.1 ha.2 h.2.2.2.2.2.1

theorem keeps_takeTime (time : Nat) (s : State) : Keeps s (takeTime time s) :=
  keeps_reports fun ⟨hq, hl, hk, hw, hw', _, h0, h1⟩ =>
    ⟨hq, hl, hk, hw, hw', Nat.le_of_lt_succ (Nat.mod_lt _ (by decide)), h0, h1⟩

theorem keeps_setTime (a : Nat) (s : State) : Keeps s (setTime a s).state := keeps_gated fun _ => keeps_takeTime a s

/-! ### Line requests (06) -/

theorem keeps_resetLineRequest (a : Nat) (s : State) : Keeps s (resetLineRequest a s).state :=
  keeps_gated fun _ => by
    dsimp only; split
    · rw [state_done]
      exact keeps_resetLine _ s
    · exact .refl s

theorem keeps_supplyOnEffect (l : Line) (s : State) : Keeps s (supplyOnEffect l s) := by
  unfold supplyOnEffect
  split
  · exact (keeps_switchOn l s).trans (keeps_settle _)
  · exact (keeps_switchOn l s).trans (keeps_settle _)
  · exact .refl s
  · exact .refl s

theorem keeps_supplyOnRequest (a : Nat) (s : State) : Keeps s (supplyOnRequest a s).state :=
  keeps_gated fun _ => by
    dsimp only; split
    · exact keeps_supplyOnEffect _ s
    · exact .refl s

/-- Every request's answer keeps every invariant. -/
theorem keeps_requestAnswer {i : Instr} {k : Byte} {a : State → Answer} (h : requestAnswer i = some (k, a)) (s : State) :
    Keeps s (a s).state := by
  cases i
  case putSegment => cases h; exact keeps_putSegment _ _ _ _ s
  case putValve => cases h; exact keeps_putValve _ s
  case putStation => cases h; exact keeps_putStation _ _ _ _ _ _ s
  case putLine => cases h; exact keeps_putLine _ _ _ _ _ _ s
  case putAlarm => cases h; exact keeps_putAlarm _ _ _ _ _ s
  case putPolicy => cases h; exact keeps_putPolicy _ _ _ _ _ _ s
  case dropSegment => cases h; exact keeps_dropSegment _ s
  case dropValve => cases h; exact keeps_dropValve _ s
  case dropStation => cases h; exact keeps_dropStation _ _ s
  case clearMap => cases h; exact keeps_clearMap s
  case enterConfig => cases h; exact keeps_enterConfig s
  case leaveConfig => cases h; exact keeps_leaveConfig s
  case saveMap => cases h; exact keeps_saveMap s
  case readSegment => cases h; exact keeps_readSegment _ _ s
  case readValve => cases h; exact keeps_readValve _ s
  case readStation => cases h; exact keeps_readStation _ _ s
  case readLine => cases h; exact keeps_readLine _ s
  case readIncident => cases h; exact keeps_readIncident _ s
  case readPlan => cases h; exact keeps_readPlan _ _ _ s
  case readPart => cases h; exact keeps_readPart s
  case declare => cases h; exact keeps_declare _ _ _ s
  case consent => cases h; exact keeps_consent _ _ s
  case crewResult => cases h; exact keeps_crewResult _ _ s
  case replan => cases h; exact keeps_replan _ s
  case restore => cases h; exact keeps_restore _ s
  case setOperability => cases h; exact keeps_setOperabilityRequest _ _ s
  case release broadcast code => cases broadcast <;> cases h; exact keeps_releaseRequest _ s
  case fetch => cases h; exact keeps_fetch s
  case setMask => cases h; exact keeps_setMask _ _ s
  case setRoute => cases h; exact keeps_setRoute _ _ s
  case setWatermark => cases h; exact keeps_setWatermark _ s
  case setTime broadcast time => cases broadcast <;> cases h; exact keeps_setTime _ s
  case resetLine => cases h; exact keeps_resetLineRequest _ s
  case supplyOn => cases h; exact keeps_supplyOnRequest _ s
  case resetPart => cases h; exact keeps_resetPart s
  all_goals cases h

/-! ### The host link (09) -/

theorem keeps_takeUnicast (k : Byte) (p : List Byte) (s : State) : Keeps s (takeUnicast k p s) := by
  refine keeps_answered k ?_
  unfold answerTo
  split
  · exact .refl s
  · next r hr =>
    split
    · obtain ⟨i, k', h⟩ := exists_request_of_row r (List.mem_of_find?_eq_some hr) p
      exact keeps_requestAnswer h s
    · exact .refl s

theorem keeps_takeBroadcast (k : Byte) (p : List Byte) (s : State) : Keeps s (takeBroadcast k p s) := by
  unfold takeBroadcast
  split
  · exact keeps_releaseBroadcast _ s
  · split
    · exact keeps_takeTime _ s
    · exact .refl s

theorem keeps_judgeFrame (frame : List Byte) (s : State) : Keeps s (judgeFrame frame s) := by
  unfold judgeFrame; dsimp only
  split
  · exact .refl s
  · split
    · exact keeps_takeBroadcast _ _ s
    · split
      · exact keeps_takeUnicast _ _ s
      · exact .refl s

theorem keeps_frameEnd (s : State) : Keeps s (frameEnd s) := by
  unfold frameEnd
  split
  · exact .refl s
  · exact (keeps_onLink (f := fun k => { k with receiver := .idle, frame := [] }) fun _ => Nat.zero_le _).trans
      (keeps_judgeFrame _ _)
  · exact keeps_onLink (f := fun k => { k with receiver := .idle }) fun h => h
  · exact .refl s

theorem firstCharacter_fits (k : HostLink) (c : Character) : (k.firstCharacter c).frame.length ≤ 246 := by
  unfold HostLink.firstCharacter; split <;> simp

theorem nextCharacter_fits (k : HostLink) (c : Character) :
    (k.nextCharacter c).frame.length ≤ 246 := by
  unfold HostLink.nextCharacter; split
  · next hc =>
    have hlt : k.frame.length < longestHostFrame := of_decide_eq_true (Bool.and_eq_true_iff.1 hc).2
    rw [List.length_append]
    exact hlt
  · simp

theorem keeps_resetFromLink (s : State) : Keeps s (resetFromLink s) := keeps_fullReset _ _ s

theorem keeps_discardReply (s : State) : Keeps s (discardReply s) := by
  have h : Keeps s (onLink (fun k => { k with receiver := .idle, reply := none }) s) := keeps_onLink fun h => h
  unfold discardReply; dsimp only
  split
  · exact h.trans (keeps_resetFromLink _)
  · exact h

theorem keeps_hostCharacter (c : Character) (s : State) : Keeps s (hostCharacter c s) := by
  unfold hostCharacter
  split
  · exact keeps_onLink fun _ => firstCharacter_fits _ _
  · exact keeps_onLink fun _ => nextCharacter_fits _ c
  · exact .refl s
  · exact (keeps_discardReply s).trans (keeps_onLink fun _ => firstCharacter_fits _ _)
  · exact keeps_onLink (f := fun k => { k with receiver := .replying true true }) fun h => h

theorem keeps_replyStart (s : State) : Keeps s (replyStart s) := by
  unfold replyStart
  split
  · next heard _ => exact keeps_onLink (f := fun k => { k with receiver := .replying true heard }) fun h => h
  · exact .refl s

theorem keeps_replySent (s : State) : Keeps s (replySent s) := by
  unfold replySent
  split
  · next heard _ =>
    have h : Keeps s (onLink (fun k => { k with reply := none, receiver := if heard then .discarding else .idle }) s) :=
      keeps_onLink fun h => h
    unfold endReply
    generalize onLink (fun k => { k with reply := none, receiver := if heard then .discarding else .idle }) s = u at h ⊢
    dsimp only
    split
    · exact h.trans (keeps_resetFromLink _)
    · exact h
  · exact .refl s

/-! ### Events of the lines and the valves (05, 06, 04) -/

theorem quiet_exchangeStart (l : Line) (s : State) : Quiet s (exchangeStart l s) := by
  unfold exchangeStart
  split
  · refine .control fun c hc => ?_
    obtain ⟨hlen, hnd, hu, he⟩ := hc
    unfold LineControl.start
    have hroutine (d : PollEntry) : (c.startRoutine d).Sound := ⟨hlen, hnd, Nat.zero_le _, he⟩
    have hurgent (e : QueueEntry) (rest : List QueueEntry) (hq : c.queue = e :: rest) : (c.startUrgent e rest).Sound := by
      rw [hq] at hlen hnd
      exact ⟨by simp only [List.length_cons, LineControl.startUrgent] at hlen ⊢; omega,
        (List.nodup_cons.1 hnd).2, saturate_le _ _, he⟩
    split
    · split
      · exact hroutine _
      · exact hurgent _ _ ‹_›
    · exact hurgent _ _ ‹_›
    · exact hroutine _
    · exact ⟨hlen, hnd, hu, he⟩
  · exact .refl s

theorem quiet_onExchange (l : Line) (f : Exchange → Exchange) (s : State) : Quiet s (onExchange l f s) :=
  quiet_onControl_same (fun _ => by rfl) (fun _ => by rfl) fun _ => by rfl

theorem keeps_windowExpiry (l : Line) (s : State) : Keeps s (windowExpiry l s) := by
  unfold windowExpiry
  split
  · split
    · exact keeps_completeExchange _ _ (by simp) s
    · exact .refl s
  · exact .refl s

theorem keeps_replyEnd (l : Line) (cs : List Character) (s : State) : Keeps s (replyEnd l cs s) := by
  unfold replyEnd
  split
  · split
    · exact keeps_completeExchange _ _ (fun _ h => judgeReply_fits h) s
    · exact .refl s
  · exact .refl s

theorem quiet_pollDue (l : Line) (a : Nat) (s : State) : Quiet s (pollDue l a s) := by
  unfold pollDue
  split
  · exact quiet_onPollEntry _ _ _ _
  · exact .refl s

theorem Supply.Sound.overcurrentStarts {u : Supply} (h : u.Sound) : u.overcurrentStarts.Sound := by
  unfold Supply.overcurrentStarts; split
  · exact ⟨h.1, Nat.zero_le _⟩
  · exact h

theorem Supply.Sound.timeOnReached {u : Supply} (h : u.Sound) : u.timeOnReached.Sound := by
  unfold Supply.timeOnReached; split
  · exact ⟨Nat.zero_le _, h.2⟩
  · exact h

theorem keeps_supplyTrip (l : Line) (s : State) : Keeps s (supplyTrip l s) := by
  unfold supplyTrip; split
  · exact keeps_tripSupply l s
  · exact .refl s

theorem keeps_supplyRetry (l : Line) (s : State) : Keeps s (supplyRetry l s) := by
  unfold supplyRetry; split
  · exact (keeps_switchOn l s).trans (keeps_settle _)
  · exact .refl s

theorem keeps_moveTimerExpiry (v : Nat) (s : State) : Keeps s (moveTimerExpiry v s) := by
  unfold moveTimerExpiry
  split
  · split
    · refine Keeps.trans ?_ (keeps_settle _)
      split
      · exact (quiet_firstExpiry _ _ _ s).keepsAll
      · exact (calm_secondExpiry _ _ _ s).keeps
    · exact .refl s
  · exact .refl s

theorem quiet_surgeStall (v : Nat) (s : State) : Quiet s (surgeStall v s) := by
  unfold surgeStall
  split
  · split
    · exact (quiet_onMove _ _ _).trans (.raise _ _ _ _ _)
    · exact .refl s
  · exact .refl s

theorem quiet_dwellEnd (v : Nat) (s : State) : Quiet s (dwellEnd v s) := by
  unfold dwellEnd
  split
  · split
    · exact quiet_endDwell _ _ s
    · exact .refl s
  · exact .refl s

theorem calm_planAround (v : Nat) (s : State) : Calm s (planAround v s) :=
  Calm.forSlots (fun k inc s hk => by
    split
    · next h =>
      simp only [Bool.and_eq_true, bne_iff_ne] at h
      exact (Calm.quiet (quiet_markStaleFor _ _)).trans (calm_requestReplan (s := markStaleFor inc.number s) hk h.2 _)
    · exact .refl s) s

theorem calm_crewOverdue (v : Nat) (s : State) : Calm s (crewOverdue v s) := by
  unfold crewOverdue
  split
  · unfold overdue; dsimp only
    have h := (Quiet.raise .crewOverdue (.valve v) (crewDetail (s.dyn v).motion)
      [some s.map.policy.overdueAction.code, some s.map.policy.crewTimeout] s).trans
      (quiet_onDyn_same (v := v) (f := fun d => { d with crewLeft := none }) (fun _ => rfl) fun _ => rfl)
    split
    · exact .quiet h
    · exact (Calm.quiet h).trans (calm_planAround v _)
  · exact .refl s

theorem keeps_forInput {n : Nat} {f : Fin 8 → State → State} {s : State} (h : ∀ i, Keeps s (f i s)) :
    Keeps s (forInput n f s) := by
  unfold forInput; split
  · exact h _
  · exact .refl s

theorem keeps_debounceExpiry (i : Fin 8) (s : State) : Keeps s (debounceExpiry i s) := by
  unfold debounceExpiry; split
  · exact (keeps_onAlarm i _ s).trans (keeps_judgeAlarm i s _)
  · exact .refl s

end Sys2Proof.Machine
end

section
/-! PROOFS. Elapsed time and the step keep every invariant: O54 to O60, and O1. -/

namespace Sys2Proof.Machine

open Sys2Proof

/-! ### Elapsed time (log 3) -/

theorem dynMillisecond_ne_blank {d : ValveDyn} (h : d ≠ blankDyn) : d.millisecond ≠ blankDyn := by
  intro e
  apply h
  obtain ⟨position, confirmed, motion, operability, holders, move, crewLeft, told⟩ := d
  simp only [ValveDyn.millisecond, blankDyn, ValveDyn.mk.injEq, countDown, Option.map_eq_none_iff] at e ⊢
  exact e

theorem keys_map_snd {α : Type} (t : Table α) (f : Nat × α → α) :
    Table.keys (t.map fun e => (e.1, f e)) = Table.keys t := by
  simp [Table.keys]

theorem get_map_snd {α : Type} (t : Table α) (f : α → α) (k : Nat) :
    Table.get (t.map fun e => (e.1, f e.2)) k = (Table.get t k).map f := by
  induction t with
  | nil => rfl
  | cons e t ih =>
    simp only [List.map_cons, Table.get]
    split
    · rfl
    · exact ih

theorem dyn_millisecond (s : State) (v : Nat) : s.millisecond.dyn v = (s.dyn v).millisecond := by
  have h : Table.get s.millisecond.drive.valves v = (Table.get s.drive.valves v).map ValveDyn.millisecond :=
    get_map_snd _ _ _
  rw [State.dyn, h, State.dyn]
  cases Table.get s.drive.valves v <;> rfl

theorem Supply.Sound.millisecond {u : Supply} (h : u.Sound) (m : Mode) : (u.millisecond m).Sound := by
  refine ⟨h.1, ?_⟩
  simp only [Supply.millisecond]
  split
  · omega
  · exact h.2

theorem keeps_millisecond (s : State) : Keeps s s.millisecond := by
  have hv (h : s.ValvesSound) : s.millisecond.ValvesSound := by
    obtain ⟨hwf, hblank, hsound⟩ := h
    refine ⟨?_, fun e he => ?_, fun e he => ?_⟩
    · rw [State.millisecond, Table.Wf, keys_map_snd]; exact hwf
    · obtain ⟨x, hx, rfl⟩ := List.mem_map.1 he
      exact dynMillisecond_ne_blank (hblank x hx)
    · obtain ⟨x, hx, rfl⟩ := List.mem_map.1 he
      exact hsound x hx
  have hb : KeepsBlocks s s.millisecond := by
    refine ⟨fun h => ?_, id, fun h l hl => ?_, id, hv, id⟩
    · obtain ⟨hq, hl, hk, hw, hw', ht, h0, h1⟩ := h
      refine ⟨hq, hl, hk, hw, hw', ?_, h0, h1⟩
      simp only [State.millisecond, lastTime]
      split <;> omega
    · simp only [State.millisecond, PerLine.get_map]
      exact ⟨(h l hl).1, (h l hl).2.millisecond _⟩
  exact ⟨hb, fun hs => .of_eq hs rfl rfl rfl rfl rfl rfl hv fun v => by rw [dyn_millisecond]; exact List.Subset.refl _⟩

theorem keeps_pending (is : List Instr) (s : State) : Keeps s { s with pending := is } :=
  .of_blocks (.of_eq rfl rfl rfl rfl rfl rfl rfl rfl) rfl rfl rfl fun _ => List.Subset.refl _

theorem keeps_tick (s : State) : Keeps s (tick s) := (keeps_millisecond s).trans (keeps_pending _ _)

/-! ### The step -/

theorem keeps_of_next {s t u : State} (h : Keeps s u) (e : Host.Outcome.next u = (.next t : Host.Outcome State Fault Refusal)) :
    Keeps s t := by cases e; exact h

theorem keeps_exec {i : Instr} {s t : State} (h : exec i s = .next t) : Keeps s t := by
  cases hr : requestAnswer i with
  | some p =>
    rw [exec_of_requestAnswer (a := p.2) (k := p.1) hr] at h
    exact keeps_of_next (keeps_answered _ (keeps_requestAnswer hr s)) h
  | none =>
    cases i
    case release broadcast code =>
      cases broadcast
      · cases hr
      · exact keeps_of_next (keeps_releaseBroadcast _ s) h
    case setTime broadcast time =>
      cases broadcast
      · cases hr
      · exact keeps_of_next (keeps_takeTime _ s) h
    case powerOn => exact keeps_of_next (keeps_fullReset _ _ s) h
    case resetnAsserted => exact keeps_of_next (keeps_fullReset _ _ s) h
    case hostCharReceived => exact keeps_of_next (keeps_hostCharacter _ s) h
    case hostFrameEnd => exact keeps_of_next (keeps_frameEnd s) h
    case replyStart => exact keeps_of_next (keeps_replyStart s) h
    case replySent => exact keeps_of_next (keeps_replySent s) h
    case loadComplete =>
      refine keeps_of_next ?_ h
      split
      · next hm => exact keeps_completeLoad (by simp [hm])
      · exact .refl s
    case saveComplete => exact keeps_of_next (keeps_endSave s) h
    case planComplete => exact keeps_of_next (keeps_completePlan s) h
    case consentTimeout => exact keeps_of_next (keeps_consentExpiry s) h
    case moveTimerExpiry => exact keeps_of_next (keeps_moveTimerExpiry _ s) h
    case surgeStall => exact keeps_of_next (quiet_surgeStall _ s).keepsAll h
    case dwellEnd => exact keeps_of_next (quiet_dwellEnd _ s).keepsAll h
    case crewOverdue => exact keeps_of_next (calm_crewOverdue _ s).keeps h
    case exchangeStart => exact keeps_of_next (quiet_exchangeStart _ s).keepsAll h
    case fieldRequestSent => exact keeps_of_next (quiet_onExchange _ _ s).keepsAll h
    case fieldReplyStart => exact keeps_of_next (quiet_onExchange _ _ s).keepsAll h
    case responseWindowExpiry => exact keeps_of_next (keeps_windowExpiry _ s) h
    case fieldReplyEnd => exact keeps_of_next (keeps_replyEnd _ _ s) h
    case fieldUnsolicitedChars => exact keeps_of_next (.refl s) h
    case pollDue => exact keeps_of_next (quiet_pollDue _ _ s).keepsAll h
    case overcurrentStart => exact keeps_of_next (Quiet.supply fun _ hu => hu.overcurrentStarts).keepsAll h
    case overcurrentEnd =>
      exact keeps_of_next (Quiet.supply (f := Supply.overcurrentEnds) fun _ hu => ⟨hu.1, Nat.zero_le _⟩).keepsAll h
    case supplyTrip => exact keeps_of_next (keeps_supplyTrip _ s) h
    case supplyRetry => exact keeps_of_next (keeps_supplyRetry _ s) h
    case timeOnReached => exact keeps_of_next (Quiet.supply fun _ hu => hu.timeOnReached).keepsAll h
    case alarmLevelChange => exact keeps_of_next (keeps_forInput fun i => keeps_onAlarm i _ s) h
    case debounceExpiry => exact keeps_of_next (keeps_forInput fun i => keeps_debounceExpiry i s) h
    case timeBaseWrap => exact keeps_of_next (keeps_takeTime 0 s) h
    all_goals cases hr

theorem keeps_step {s t : State} (h : step s = .next t) : Keeps s t := by
  unfold step at h
  split at h
  · exact keeps_of_next (keeps_tick s) h
  · exact (keeps_pending _ s).trans (keeps_exec h)

/-! ### The statements -/

/-- Settles O1: it is how the step is defined. -/
theorem frontCommandRuns : Obligations.FrontCommandRuns := fun _ _ _ => rfl

/-- Settles O54, by the step lemma: each block's invariant is kept on its own. -/
theorem stepsKeepReportsStationsAndLinesSound : Obligations.StepsKeepReportsStationsAndLinesSound := fun _ _ h =>
  have hb := (keeps_step h).blocks
  ⟨hb.reports, hb.stations, hb.lines⟩

/-- Settles O55, by the step lemma. -/
theorem stepsKeepTablesCanonical : Obligations.StepsKeepTablesCanonical := fun _ _ hm hv hf h =>
  have hb := (keeps_step h).blocks
  ⟨hb.maps hm, hb.valves hv, hb.frame hf⟩

/-- Settles O56, by the step lemma from sound slots on. -/
theorem stepsKeepSlotsAndPlannerSound : Obligations.StepsKeepSlotsAndPlannerSound := fun _ _ hs hp hi h =>
  have he := (keeps_step h).engine hs
  ⟨he.slots, he.planner hp, he.idle hi⟩

/-- Settles O57, by the step lemma: regions grow only by segments that no other active incident's region holds, and a merge
takes the regions that it meets. -/
theorem stepsKeepRegionsDisjoint : Obligations.StepsKeepRegionsDisjoint := fun _ _ hs hr h =>
  ((keeps_step h).engine hs).regions hr

/-- Settles O58, by the step lemma: an incident enters and leaves AWAIT_CONSENT with its place in the queue. -/
theorem stepsKeepTheConsentQueue : Obligations.StepsKeepTheConsentQueue := fun _ _ hs hc h =>
  ((keeps_step h).engine hs).consent hc

/-- Settles O59, by the step lemma: a slot becomes FREE only when no holder set names its incident, or with the survivor in
its place. -/
theorem stepsKeepHoldersToIncidents : Obligations.StepsKeepHoldersToIncidents := fun _ _ hs hv hh h =>
  ((keeps_step h).engine hs).holders hv hh

/-- Settles O60: the state after reset holds nothing yet. -/
theorem resetStateIsSound : Obligations.ResetStateIsSound := by
  refine ⟨reset_sound.1, by decide, reset_sound.2, ⟨emptyMap_sound, by decide⟩, by decide, Nat.zero_le _, by decide,
    by decide, by decide, by decide, by decide, by decide⟩

end Sys2Proof.Machine
end

section
/-! PROOFS. The gates of the requests: O3, O4 and O5 (09, sections 9.3 and 9.4). -/

namespace Sys2Proof.Machine

open Sys2Proof

/-! ### What a request does past its gate -/

/-- An answer that is no refusal for the mode, and that leaves the state when it is a refusal. -/
structure PlainAnswer (s : State) (a : Answer) : Prop where
  mode : a.status ≠ .wrongMode
  kept : a.status ≠ .done → a.status ≠ .accepted → a.state = s

theorem plain_done (s t : State) (data : List Byte) : PlainAnswer s ⟨t, .done, data⟩ := ⟨by simp, by simp⟩

theorem plain_accepted (s t : State) (data : List Byte) : PlainAnswer s ⟨t, .accepted, data⟩ := ⟨by simp, by simp⟩

theorem plain_refuse {st : Status} (s : State) (h : st ≠ .wrongMode) : PlainAnswer s (refuse st s) := ⟨h, fun _ _ => rfl⟩

theorem plain_badField (n : Nat) (s : State) : PlainAnswer s (badField n s) := ⟨by simp [badField], fun _ _ => rfl⟩

theorem plain_ite {s : State} {c : Prop} [Decidable c] {a b : Answer} (ha : PlainAnswer s a) (hb : PlainAnswer s b) :
    PlainAnswer s (if c then a else b) := by
  split
  · exact ha
  · exact hb

theorem plain_validated {act : State → Answer} {s : State} (h : PlainAnswer s (act s)) : PlainAnswer s (validated act s) := by
  unfold validated
  split
  · exact ⟨by simp [badRecord], fun _ _ => rfl⟩
  · exact h

theorem plain_declareAnswer {segment group : Nat} {always : Bool} (s : State) :
    PlainAnswer s (declareAnswer (declareBurst segment group always .host s).1 (declareBurst segment group always .host s).2) := by
  unfold declareBurst
  split
  · exact ⟨by simp [declareAnswer], fun _ _ => rfl⟩
  · split
    · exact plain_refuse s (by simp)
    · exact plain_accepted s _ _

/-- 10 R199, R201: a map edit is taken in CONFIG only; another request in RUN and where its owner says. Past the gate neither
refuses for the mode, and a refusal leaves the state. -/
theorem requestAnswer_gate {i : Instr} {k : Byte} {a : State → Answer} (h : requestAnswer i = some (k, a)) :
    (∃ checks edit, a = mapEdit checks edit ∧ (∀ m, takenIn i m = decide (m = .config)) ∧ ∀ s, PlainAnswer s (edit s))
    ∨ ∃ permitted checks act, a = gated permitted checks act ∧ (∀ m, takenIn i m = permitted m) ∧ permitted .run = true
        ∧ ∀ s, PlainAnswer s (act s) := by
  have hrun (m : Mode) : decide (m = .run) = inRun m := by cases m <;> rfl
  have hafter (m : Mode) : decide (m ≠ .starting) = afterStart m := by cases m <;> rfl
  cases i
  case putSegment => cases h; exact .inl ⟨_, _, rfl, fun _ => rfl, fun s => plain_done s _ _⟩
  case putValve => cases h; exact .inl ⟨_, _, rfl, fun _ => rfl, fun s => plain_done s _ _⟩
  case putStation => cases h; exact .inl ⟨_, _, rfl, fun _ => rfl, fun s => plain_done s _ _⟩
  case putLine => cases h; exact .inl ⟨_, _, rfl, fun _ => rfl, fun s => plain_done s _ _⟩
  case putAlarm =>
    cases h
    refine .inl ⟨_, _, rfl, fun _ => rfl, fun s => ?_⟩
    split
    · exact plain_done s _ _
    · exact plain_badField _ s
  case putPolicy => cases h; exact .inl ⟨_, _, rfl, fun _ => rfl, fun s => plain_done s _ _⟩
  case dropSegment =>
    cases h; exact .inl ⟨_, _, rfl, fun _ => rfl, fun s => plain_ite (plain_done s _ _) (plain_refuse s (by simp))⟩
  case dropValve =>
    cases h; exact .inl ⟨_, _, rfl, fun _ => rfl, fun s => plain_ite (plain_done s _ _) (plain_refuse s (by simp))⟩
  case dropStation =>
    cases h; exact .inl ⟨_, _, rfl, fun _ => rfl, fun s => plain_ite (plain_done s _ _) (plain_refuse s (by simp))⟩
  case clearMap => cases h; exact .inl ⟨_, _, rfl, fun _ => rfl, fun s => plain_done s _ _⟩
  case leaveConfig =>
    cases h; exact .inl ⟨_, _, rfl, fun _ => rfl, fun s => plain_validated (plain_done s (enterRun s) [])⟩
  case saveMap => cases h; exact .inl ⟨_, _, rfl, fun _ => rfl, fun s => plain_validated (plain_accepted s (beginSave s) [])⟩
  case enterConfig =>
    cases h
    exact .inr ⟨_, _, _, rfl, hrun, rfl, fun s => plain_ite (plain_accepted s _ _) (plain_refuse s (by simp))⟩
  case readSegment =>
    cases h
    refine .inr ⟨_, _, _, rfl, hafter, rfl, fun s => ?_⟩
    split
    · exact plain_refuse s (by simp)
    · exact plain_ite (plain_badField _ s) (plain_done s _ _)
  case readValve =>
    cases h
    refine .inr ⟨_, _, _, rfl, hafter, rfl, fun s => ?_⟩
    split
    · exact plain_refuse s (by simp)
    · exact plain_done s _ _
  case readStation =>
    cases h
    refine .inr ⟨_, _, _, rfl, hafter, rfl, fun s => ?_⟩
    dsimp only
    split
    · exact plain_refuse s (by simp)
    · exact plain_done s _ _
  case readLine => cases h; exact .inr ⟨_, _, _, rfl, hafter, rfl, fun s => plain_done s _ _⟩
  case readIncident =>
    cases h
    refine .inr ⟨_, _, _, rfl, fun _ => rfl, rfl, fun s => ?_⟩
    split
    · exact plain_done s _ _
    · exact plain_done s _ _
  case readPlan =>
    cases h
    refine .inr ⟨_, _, _, rfl, hrun, rfl, fun s => ?_⟩
    split
    · exact plain_refuse s (by simp)
    · exact plain_ite (plain_badField _ s) (plain_done s _ _)
  case readPart => cases h; exact .inr ⟨_, _, _, rfl, fun _ => rfl, rfl, fun s => plain_done s _ _⟩
  case declare =>
    cases h
    exact .inr ⟨_, _, _, rfl, hrun, rfl, fun s => plain_ite (plain_declareAnswer s) (plain_refuse s (by simp))⟩
  case consent =>
    cases h
    refine .inr ⟨_, _, _, rfl, hrun, rfl, fun s => ?_⟩
    split
    · exact plain_refuse s (by simp)
    · exact plain_ite (plain_done s _ _) (plain_refuse s (by simp))
  case crewResult =>
    cases h
    refine .inr ⟨_, _, _, rfl, hrun, rfl, fun s => ?_⟩
    split
    · exact plain_refuse s (by simp)
    · split
      · exact plain_refuse s (by simp)
      · exact plain_done s _ _
  case replan =>
    cases h
    refine .inr ⟨_, _, _, rfl, hrun, rfl, fun s => ?_⟩
    split
    · exact plain_refuse s (by simp)
    · exact plain_ite (plain_refuse s (by simp)) (plain_accepted s _ _)
  case restore =>
    cases h
    refine .inr ⟨_, _, _, rfl, hrun, rfl, fun s => ?_⟩
    split
    · exact plain_refuse s (by simp)
    · exact plain_ite (plain_done s _ _) (plain_ite (plain_done s _ _) (plain_accepted s _ _))
  case setOperability =>
    cases h
    refine .inr ⟨_, _, _, rfl, fun m => by cases m <;> rfl, rfl, fun s => ?_⟩
    exact plain_ite (plain_ite (plain_refuse s (by simp)) (plain_done s _ _)) (plain_refuse s (by simp))
  case release broadcast code =>
    cases broadcast <;> cases h
    exact .inr ⟨_, _, _, rfl, hrun, rfl, fun s => plain_done s _ _⟩
  case fetch => cases h; exact .inr ⟨_, _, _, rfl, fun _ => rfl, rfl, fun s => plain_done s _ _⟩
  case setMask =>
    cases h
    refine .inr ⟨_, _, _, rfl, fun _ => rfl, rfl, fun s => ?_⟩
    split
    · exact plain_done s _ _
    · exact plain_badField _ s
  case setRoute =>
    cases h
    refine .inr ⟨_, _, _, rfl, fun _ => rfl, rfl, fun s => ?_⟩
    split
    · exact plain_done s _ _
    · exact plain_badField _ s
  case setWatermark => cases h; exact .inr ⟨_, _, _, rfl, fun _ => rfl, rfl, fun s => plain_done s _ _⟩
  case setTime broadcast time =>
    cases broadcast <;> cases h
    exact .inr ⟨_, _, _, rfl, fun _ => rfl, rfl, fun s => plain_done s _ _⟩
  case resetLine =>
    cases h
    exact .inr ⟨_, _, _, rfl, hrun, rfl, fun s => plain_ite (plain_done s _ _) (plain_refuse s (by simp))⟩
  case supplyOn =>
    cases h
    exact .inr ⟨_, _, _, rfl, hrun, rfl, fun s => plain_ite (plain_done s _ _) (plain_refuse s (by simp))⟩
  case resetPart => cases h; exact .inr ⟨_, _, _, rfl, fun _ => rfl, rfl, fun s => plain_done s _ _⟩
  all_goals cases h

theorem gated_cases (permitted : Mode → Bool) (checks : List Bool) (act : State → Answer) (s : State) :
    (permitted s.store.mode = false ∧ gated permitted checks act s = refuse .wrongMode s)
    ∨ (permitted s.store.mode = true ∧ ((∃ n, gated permitted checks act s = badField n s) ∨ gated permitted checks act s = act s)) := by
  unfold gated
  split
  · refine .inr ⟨‹_›, ?_⟩
    split
    · exact .inl ⟨_, rfl⟩
    · exact .inr rfl
  · next hc => exact .inl ⟨by simpa using hc, rfl⟩

theorem mapEdit_cases (checks : List Bool) (edit : State → Answer) (s : State) :
    (s.store.mode ≠ .config ∧ mapEdit checks edit s = refuse .wrongMode s)
    ∨ (s.store.mode = .config ∧ s.store.busy = true ∧ mapEdit checks edit s = refuse .busy s)
    ∨ (s.store.mode = .config ∧ s.store.busy = false
        ∧ ((∃ n, mapEdit checks edit s = badField n s) ∨ mapEdit checks edit s = edit s)) := by
  unfold mapEdit
  split
  · exact .inl ⟨‹_›, rfl⟩
  · next hm =>
    have hm : s.store.mode = .config := by simpa using hm
    split
    · exact .inr (.inl ⟨hm, ‹_›, rfl⟩)
    next hb =>
      refine .inr (.inr ⟨hm, by simpa using hb, ?_⟩)
      split
      · exact .inl ⟨_, rfl⟩
      · exact .inr rfl

/-- 09 R185, 10: a request's answer is the refusal for the mode exactly where the request is not taken; and a refusal leaves
the state. -/
theorem requestAnswer_cases {i : Instr} {k : Byte} {a : State → Answer} (h : requestAnswer i = some (k, a)) (s : State) :
    (takenIn i s.store.mode = false ∧ a s = refuse .wrongMode s)
      ∨ (takenIn i s.store.mode = true ∧ PlainAnswer s (a s)) := by
  obtain ⟨checks, edit, rfl, htaken, hplain⟩ | ⟨permitted, checks, act, rfl, htaken, -, hplain⟩ := requestAnswer_gate h
  · rw [htaken]
    obtain ⟨hm, e⟩ | ⟨hm, -, e⟩ | ⟨hm, -, ⟨n, e⟩ | e⟩ := mapEdit_cases checks edit s <;> rw [e]
    · exact .inl ⟨by simpa using hm, rfl⟩
    · exact .inr ⟨by simpa using hm, plain_refuse s (by simp)⟩
    · exact .inr ⟨by simpa using hm, plain_badField n s⟩
    · exact .inr ⟨by simpa using hm, hplain s⟩
  · rw [htaken]
    obtain ⟨hm, e⟩ | ⟨hm, ⟨n, e⟩ | e⟩ := gated_cases permitted checks act s <;> rw [e]
    · exact .inl ⟨hm, rfl⟩
    · exact .inr ⟨hm, plain_badField n s⟩
    · exact .inr ⟨hm, hplain s⟩

/-- 09, section 9.5: every unicast request has an answer, under its kind in the catalogue. -/
theorem requestAnswer_of_kind {i : Instr} {k : Byte} (hk : requestKind i = some k) (hb : isBroadcast i = false) :
    ∃ a, requestAnswer i = some (k, a) := by
  cases i
  case release broadcast code =>
    cases broadcast
    · cases hk; exact ⟨_, rfl⟩
    · cases hb
  case setTime broadcast time =>
    cases broadcast
    · cases hk; exact ⟨_, rfl⟩
    · cases hb
  all_goals cases hk
  all_goals exact ⟨_, rfl⟩

/-- Settles O3, by the shape of the answers. -/
theorem requestsAreAnsweredAndRefusalsChangeNothing : Obligations.RequestsAreAnsweredAndRefusalsChangeNothing := by
  intro i k s hk hb
  obtain ⟨a, ha⟩ := requestAnswer_of_kind hk hb
  refine ⟨(a s).status, (a s).data, (a s).state, exec_of_requestAnswer ha s, fun hd hacc => ?_⟩
  obtain ⟨-, e⟩ | ⟨-, hp⟩ := requestAnswer_cases ha s
  · rw [e]; rfl
  · exact hp.kept hd hacc

theorem status_of_answered {k : Byte} {a b : Answer} (h : answered k a = answered k b) : a.status = b.status := by
  have hreply := congrArg (fun u : State => u.link.reply) h
  simp only [answered, Option.some.injEq, Reply.mk.injEq, true_and] at hreply
  exact hreply.1

/-- Settles O4, by the gates. -/
theorem wrongModeAndBusyGateTheRequests : Obligations.WrongModeAndBusyGateTheRequests := by
  intro i k s hk hb
  obtain ⟨a, ha⟩ := requestAnswer_of_kind hk hb
  have hexec := exec_of_requestAnswer ha s
  refine ⟨⟨?_, fun hnot => ?_⟩, fun hmode hbusy honly => ?_⟩
  · rintro ⟨data, t, ht⟩
    rw [Answers, hexec] at ht
    have hst := status_of_answered (Host.Outcome.next.inj ht)
    obtain ⟨hn, -⟩ | ⟨-, hp⟩ := requestAnswer_cases ha s
    · exact hn
    · exact absurd hst hp.mode
  · obtain ⟨-, e⟩ | ⟨hy, -⟩ := requestAnswer_cases ha s
    · exact ⟨[], s, by rw [Answers, hexec, e]; rfl⟩
    · rw [hnot] at hy; cases hy
  · obtain ⟨checks, edit, rfl, -, -⟩ | ⟨permitted, -, -, -, htaken, hrun, -⟩ := requestAnswer_gate ha
    · rw [Answers, hexec, mapEdit, if_neg (by simp [hmode]), if_pos hbusy]; rfl
    · have := honly .run
      rw [htaken, hrun] at this
      cases this

/-! ### The first bad field (01 R13, 09 R187) -/

theorem firstBad_true (bs : List Bool) : firstBad (true :: bs) = (firstBad bs).map (· + 1) := by
  simp [firstBad, List.findIdx?_cons, Function.comp_def]

theorem firstBad_append_false {pre rest : List Bool} (h : ∀ b ∈ pre, b = true) :
    firstBad (pre ++ false :: rest) = some (pre.length + 1) := by
  induction pre with
  | nil => rfl
  | cons b pre ih =>
    obtain rfl : b = true := h b List.mem_cons_self
    rw [List.cons_append, firstBad_true, ih fun c hc => h c (List.mem_cons_of_mem _ hc)]; rfl

/-- Nothing is judged after a bad field. -/
theorem firstBad_of_mem_false {pre rest : List Bool} (h : false ∈ pre) : firstBad (pre ++ rest) = firstBad pre := by
  induction pre with
  | nil => cases h
  | cons b pre ih =>
    cases b with
    | false => rfl
    | true => rw [List.cons_append, firstBad_true, firstBad_true, ih (by simpa using h)]

theorem firstBad_append_true {pre rest : List Bool} (h : ∀ b ∈ rest, b = true) : firstBad (pre ++ rest) = firstBad pre := by
  induction pre with
  | nil =>
    induction rest with
    | nil => rfl
    | cons b rest ih =>
      obtain rfl : b = true := h b List.mem_cons_self
      rw [List.nil_append, firstBad_true]
      exact congrArg (Option.map (· + 1)) (ih fun c hc => h c (List.mem_cons_of_mem _ hc))
  | cons b pre ih =>
    cases b with
    | false => rfl
    | true => rw [List.cons_append, firstBad_true, firstBad_true, ih]

/-- A check judges what it stands for. -/
abbrev Judges (b : Bool) (p : Prop) : Prop := b = true ↔ p

/-- A request whose gate judges its fields names the first bad one. -/
theorem namesFirstBad_append {i : Instr} {k : Byte} {s : State} {act : State → Answer} {rest : List Bool} {ps : List Prop}
    (hjudges : List.Forall₂ Judges rest ps) :
    ∀ pre : List Bool, (∀ b ∈ pre, b = true) →
      exec i s = .next (answered k (match firstBad (pre ++ rest) with
        | some n => badField n s
        | none => act s)) →
      NamesFirstBad i k s (pre.length + 1) ps := by
  induction hjudges with
  | nil => intros; trivial
  | @cons b p rest ps hb hrest ih =>
    intro pre hpre hexec
    refine ⟨fun hp => ?_, fun hp => ?_⟩
    · have hf : b = false := by simpa using fun e => hp (hb.1 e)
      rw [Answers, hexec, hf, firstBad_append_false hpre]; rfl
    · have ht : b = true := hb.2 hp
      have := ih (pre ++ [b]) (by simpa [ht] using hpre) (by simpa using hexec)
      simpa using this

theorem namesFirstBad {i : Instr} {k : Byte} {s : State} {act : State → Answer} {checks : List Bool} {ps : List Prop}
    (hexec : exec i s = .next (answered k (match firstBad checks with
        | some n => badField n s
        | none => act s)))
    (hjudges : List.Forall₂ Judges checks ps) : NamesFirstBad i k s 1 ps :=
  namesFirstBad_append hjudges [] (by simp) hexec

/-- A map edit judges its fields in CONFIG while the store is not busy, by checks that find the same first bad field. -/
theorem namesFirstBad_mapEdit_of_eq {i : Instr} {k : Byte} {s : State} {checks checks' : List Bool} {edit : State → Answer}
    {ps : List Prop} (hm : s.store.mode = .config) (hb : s.store.busy = false)
    (hexec : exec i s = .next (answered k (mapEdit checks edit s))) (hsame : firstBad checks = firstBad checks')
    (hjudges : List.Forall₂ Judges checks' ps) : NamesFirstBad i k s 1 ps := by
  rw [mapEdit, if_neg (by simp [hm]), if_neg (by simp [hb]), hsame] at hexec
  exact namesFirstBad hexec hjudges

theorem namesFirstBad_mapEdit {i : Instr} {k : Byte} {s : State} {checks : List Bool} {edit : State → Answer} {ps : List Prop}
    (hm : s.store.mode = .config) (hb : s.store.busy = false) (hexec : exec i s = .next (answered k (mapEdit checks edit s)))
    (hjudges : List.Forall₂ Judges checks ps) : NamesFirstBad i k s 1 ps :=
  namesFirstBad_mapEdit_of_eq hm hb hexec rfl hjudges

/-- Another request judges its fields where it is taken. -/
theorem namesFirstBad_gated {i : Instr} {k : Byte} {s : State} {permitted : Mode → Bool} {checks : List Bool}
    {act : State → Answer} {ps : List Prop} (hm : permitted s.store.mode = true)
    (hexec : exec i s = .next (answered k (gated permitted checks act s)))
    (hjudges : List.Forall₂ Judges checks ps) : NamesFirstBad i k s 1 ps := by
  rw [gated, if_pos hm] at hexec
  exact namesFirstBad hexec hjudges

theorem judges_inRange (low high n : Nat) : Judges (inRange low high n) (low ≤ n ∧ n ≤ high) := by simp [Judges, inRange]

theorem judges_atMost (high n : Nat) : Judges (inRange 0 high n) (n ≤ high) := by simp [Judges, inRange]

theorem judges_isFlag (n : Nat) : Judges (isFlag n) (n ≤ 1) := by simp [Judges, isFlag]

theorem judges_true : Judges true True := by simp [Judges]

/-- 01 R15: the checks of an ACTUATED valve's fields, each of them conditional on the kind. -/
abbrev actuatedChecks (f : ValveFields) : List Bool :=
  [decide (f.kind = 0 → f.stationLine ≤ 3), decide (f.kind = 0 → 1 ≤ f.stationAddress ∧ f.stationAddress ≤ 16),
    decide (f.kind = 0 → 1 ≤ f.channel ∧ f.channel ≤ 4), decide (f.kind = 0 → 10 ≤ f.strokeTime ∧ f.strokeTime ≤ 1000),
    decide (f.kind = 0 → 500 ≤ f.throttlePoint ∧ f.throttlePoint ≤ 990),
    decide (f.kind = 0 → 1 ≤ f.slowRatio ∧ f.slowRatio ≤ 8),
    decide (f.kind = 0 → f.surgeCeiling = 0 ∨ (50 ≤ f.surgeCeiling ∧ f.surgeCeiling ≤ 2500)),
    decide (f.kind = 0 → (10 ≤ f.surgeHysteresis ∧ f.surgeHysteresis ≤ 500)
      ∧ (f.surgeCeiling = 0 ∨ f.surgeHysteresis < f.surgeCeiling)),
    decide (f.kind = 0 → f.maximumHold ≤ 3600), decide (f.kind = 0 → f.torqueRetries ≤ 3),
    decide (f.kind = 0 → 10 ≤ f.chargeOpening ∧ f.chargeOpening ≤ 200), decide (f.kind = 0 → f.chargeDwell ≤ 600)]

/-- 01 R15: the checks of the fields that every valve has. -/
abbrev commonChecks (f : ValveFields) : List Bool :=
  [inRange 1 1023 f.valve, inRange 1 511 f.endA, inRange 0 511 f.endB && f.endB != f.endA, isFlag f.kind,
    isFlag f.normalState, inRange 0 15 f.closingRank]

/-- 01 R15: judging the actuated fields conditionally comes to the same, a kind that is no flag being bad itself. -/
theorem firstBad_valveChecks (f : ValveFields) : firstBad (valveChecks f) = firstBad (commonChecks f ++ actuatedChecks f) := by
  by_cases h0 : f.kind = 0
  · have hsame : valveChecks f = commonChecks f ++ actuatedChecks f := by
      simp [valveChecks, commonChecks, actuatedChecks, h0, inRange, Bool.decide_and, Bool.decide_or]
    rw [hsame]
  by_cases h1 : f.kind = 1
  · have hnone : valveChecks f = commonChecks f := by simp [valveChecks, commonChecks, h1]
    rw [hnone, firstBad_append_true]
    simp [actuatedChecks, h1]
  · have hbad : false ∈ commonChecks f := by
      have : isFlag f.kind = false := by simp [isFlag]; omega
      simp [commonChecks, this]
    rw [firstBad_of_mem_false hbad, valveChecks, firstBad_of_mem_false hbad]

theorem judges_decide (p : Prop) [Decidable p] : Judges (decide p) p := by simp [Judges]

/-- Settles O5, by the gates, each check judging what its field's range says. -/
theorem firstBadFieldIsNamed : Obligations.FirstBadFieldIsNamed := by
  have range := judges_inRange
  have most := judges_atMost
  have flag := judges_isFlag
  refine ⟨fun s hm hb => ⟨?_, ?_, ?_, ?_, ?_, ?_, ?_, ?_, ?_⟩, fun s hm => ⟨?_, ?_, ?_, ?_, ?_, ?_, ?_⟩,
    fun s hm => ⟨?_, ?_, ?_, ?_⟩, ?_, fun s => ⟨?_, ?_, ?_, ?_⟩⟩
  · exact fun _ _ _ _ => namesFirstBad_mapEdit hm hb rfl
      (.cons (range _ _ _) (.cons (most _ _) (.cons (flag _) (.cons (flag _) .nil))))
  · intro f
    refine namesFirstBad_mapEdit_of_eq hm hb rfl (firstBad_valveChecks f) (.cons (range _ _ _) (.cons (range _ _ _) (.cons ?_ (.cons (flag _) (.cons (flag _)
      (.cons (most _ _) ?_))))))
    · simp [Judges, inRange]
    · exact .cons (judges_decide _) (.cons (judges_decide _) (.cons (judges_decide _) (.cons (judges_decide _)
        (.cons (judges_decide _) (.cons (judges_decide _) (.cons (judges_decide _) (.cons (judges_decide _)
          (.cons (judges_decide _) (.cons (judges_decide _) (.cons (judges_decide _) (.cons (judges_decide _) .nil)))))))))))
  · exact fun _ _ _ _ _ _ => namesFirstBad_mapEdit hm hb rfl
      (.cons (most _ _) (.cons (range _ _ _) (.cons (most _ _) (.cons (range _ _ _) (.cons (most _ _) (.cons (flag _) .nil))))))
  · exact fun _ _ _ _ _ _ => namesFirstBad_mapEdit hm hb rfl
      (.cons (most _ _) (.cons (flag _) (.cons (most _ _) (.cons (range _ _ _) (.cons (range _ _ _) (.cons (range _ _ _) .nil))))))
  · exact fun _ _ _ _ _ => namesFirstBad_mapEdit hm hb rfl
      (.cons (range _ _ _) (.cons (most _ _) (.cons (flag _) (.cons (range _ _ _) (.cons (flag _) .nil)))))
  · exact fun _ _ _ _ _ _ => namesFirstBad_mapEdit hm hb rfl
      (.cons (most _ _) (.cons (most _ _) (.cons (flag _) (.cons (most _ _) (.cons (flag _) (.cons (range _ _ _) .nil))))))
  · exact fun _ => namesFirstBad_mapEdit hm hb rfl (.cons (range _ _ _) .nil)
  · exact fun _ => namesFirstBad_mapEdit hm hb rfl (.cons (range _ _ _) .nil)
  · exact fun _ _ => namesFirstBad_mapEdit hm hb rfl (.cons (most _ _) (.cons (range _ _ _) .nil))
  · exact fun _ _ _ => namesFirstBad_gated (permitted := inRun) (by rw [hm]; rfl) rfl
      (.cons (range _ _ _) (.cons (most _ _) (.cons (flag _) .nil)))
  · exact fun _ _ => namesFirstBad_gated (permitted := inRun) (by rw [hm]; rfl) rfl (.cons judges_true (.cons (flag _) .nil))
  · exact fun _ _ => namesFirstBad_gated (permitted := inRun) (by rw [hm]; rfl) rfl
      (.cons (range _ _ _) (.cons (most _ _) .nil))
  · exact fun _ => namesFirstBad_gated (permitted := inRun) (by rw [hm]; rfl) rfl (.cons (most _ _) .nil)
  · exact fun _ => namesFirstBad_gated (permitted := inRun) (by rw [hm]; rfl) rfl (.cons (most _ _) .nil)
  · exact fun _ => namesFirstBad_gated (permitted := inRun) (by rw [hm]; rfl) rfl (.cons (most _ _) .nil)
  · exact fun _ _ _ => namesFirstBad_gated (permitted := inRun) (by rw [hm]; rfl) rfl
      (.cons judges_true (.cons (most _ _) .nil))
  all_goals
    have hafter (s : State) (hm : s.store.mode ≠ .starting) : afterStart s.store.mode = true := by
      cases h : s.store.mode <;> simp [afterStart, h] at hm ⊢
  · exact fun _ _ => namesFirstBad_gated (hafter s hm) rfl (.cons (range _ _ _) .nil)
  · exact fun _ => namesFirstBad_gated (hafter s hm) rfl (.cons (range _ _ _) .nil)
  · exact fun _ _ => namesFirstBad_gated (hafter s hm) rfl (.cons (most _ _) (.cons (range _ _ _) .nil))
  · exact fun _ => namesFirstBad_gated (hafter s hm) rfl (.cons (most _ _) .nil)
  · intro s hm _ _
    refine namesFirstBad_gated (permitted := inRunOrConfig) ?_ rfl (.cons (range _ _ _) (.cons (most _ _) .nil))
    obtain hm | hm := hm <;> rw [hm] <;> rfl
  · exact fun _ => namesFirstBad_gated (permitted := anyMode) rfl rfl (.cons (most _ _) .nil)
  · exact fun _ _ => namesFirstBad_gated (permitted := anyMode) rfl rfl (.cons (range _ _ _) (.cons (flag _) .nil))
  · exact fun _ _ => namesFirstBad_gated (permitted := anyMode) rfl rfl (.cons (range _ _ _) (.cons (flag _) .nil))
  · exact fun _ => namesFirstBad_gated (permitted := anyMode) rfl rfl (.cons (range _ _ _) .nil)

end Sys2Proof.Machine
end

section
/-! PROOFS. The map requests: O6, O7 and O9 (01, section 1.7). -/

namespace Sys2Proof.Machine

open Sys2Proof

/-! ### Requests taken -/

theorem firstBad_eq_none {checks : List Bool} (h : ∀ b ∈ checks, b = true) : firstBad checks = none :=
  firstBad_append_true (pre := []) h

/-- 09 R185: a request answers as its owner does. -/
theorem answers_of {i : Instr} {k : Byte} {a : State → Answer} {s t : State} {st : Status} {data : List Byte}
    (hi : requestAnswer i = some (k, a)) (h : a s = ⟨t, st, data⟩) : Answers i s k st data t := by
  rw [Answers, exec_of_requestAnswer hi, h]

/-- A map edit in CONFIG with its fields in range is made. -/
theorem mapEdit_taken {checks : List Bool} {edit : State → Answer} {s : State} (hm : s.store.mode = .config)
    (hb : s.store.busy = false) (h : ∀ b ∈ checks, b = true) : mapEdit checks edit s = edit s := by
  rw [mapEdit, if_neg (by simp [hm]), if_neg (by simp [hb]), firstBad_eq_none h]

/-- Another request in its modes with its fields in range is taken. -/
theorem gated_taken {permitted : Mode → Bool} {checks : List Bool} {act : State → Answer} {s : State}
    (hm : permitted s.store.mode = true) (h : ∀ b ∈ checks, b = true) : gated permitted checks act s = act s := by
  rw [gated, if_pos hm, firstBad_eq_none h]

theorem inRange_of_le {low high n : Nat} (h : low ≤ n) (h' : n ≤ high) : inRange low high n = true := by
  simp [inRange, h, h']

theorem inRange_of_atMost {high n : Nat} (h : n ≤ high) : inRange 0 high n = true := inRange_of_le (Nat.zero_le _) h

theorem isFlag_of_le {n : Nat} (h : n ≤ 1) : isFlag n = true := by simp [isFlag, h]

theorem inRange_lineCode (l : Line) : inRange 0 3 (Line.code l) = true := inRange_of_atMost (Line.code_le l)

@[simp] theorem pollClassOfCode_code (cls : PollClass) : pollClassOfCode cls.code = cls := by cases cls <;> rfl

@[simp] theorem baudOfCode_code (b : Baud) : baudOfCode b.code = b := by cases b <;> rfl

theorem Baud.code_le (b : Baud) : b.code ≤ 2 := by cases b <;> decide

theorem PollClass.code_le (cls : PollClass) : cls.code ≤ 2 := by cases cls <;> decide

theorem PollClass.code_eq_zero {cls : PollClass} : cls.code = 0 ↔ cls = .a := by cases cls <;> simp [PollClass.code]

/-- Settles O6: each of the four edits writes one record. -/
theorem putsReplaceTheRecordWhole : Obligations.PutsReplaceTheRecordWhole := by
  intro s hm hb
  refine ⟨fun segment customers source priority h1 h2 h3 h4 h5 => ?_,
    fun l address multiplier extraDelay tap cls h1 h2 h3 h4 h5 h6 => ?_,
    fun l speed enabled blanking retry tripLimit h1 h2 h3 h4 h5 h6 h7 => ?_,
    fun threshold timeout timeoutAction crewTimeout crewAction parallel h1 h2 h3 h4 h5 h6 h7 => ?_⟩
  · have hc : ∀ b ∈ [inRange 1 511 segment, inRange 0 65535 customers, isFlag source, isFlag priority], b = true := by
      simp [inRange_of_le h1 h2, inRange_of_atMost h3, isFlag_of_le h4, isFlag_of_le h5]
    exact answers_of rfl (mapEdit_taken hm hb hc)
  · have hmult : inRange (if cls.code = 0 then 2 else 0) 63 multiplier = true := by
      refine inRange_of_le ?_ h4
      split
      · exact h3 (PollClass.code_eq_zero.1 ‹_›)
      · exact Nat.zero_le _
    have hc : ∀ b ∈ [inRange 0 3 (Line.code l), inRange 1 16 address, inRange 0 2 cls.code,
        inRange (if cls.code = 0 then 2 else 0) 63 multiplier, inRange 0 15 extraDelay, isFlag tap], b = true := by
      simp [hmult, inRange_lineCode, inRange_of_le h1 h2, inRange_of_atMost cls.code_le, inRange_of_atMost h5, isFlag_of_le h6]
    refine answers_of rfl ((mapEdit_taken hm hb hc).trans ?_)
    simp only [lineOfCode_code, pollClassOfCode_code]; rfl
  · have hc : ∀ b ∈ [inRange 0 3 (Line.code l), isFlag enabled, inRange 0 2 speed.code, inRange 1 255 blanking,
        inRange 1 60 retry, inRange 1 15 tripLimit], b = true := by
      simp [inRange_lineCode, isFlag_of_le h1, inRange_of_atMost speed.code_le, inRange_of_le h2 h3, inRange_of_le h4 h5,
        inRange_of_le h6 h7]
    refine answers_of rfl ((mapEdit_taken hm hb hc).trans ?_)
    simp only [lineOfCode_code, baudOfCode_code]; rfl
  · have hc : ∀ b ∈ [inRange 0 1000000 threshold, inRange 0 3600 timeout, isFlag timeoutAction, inRange 0 480 crewTimeout,
        isFlag crewAction, inRange 1 4 parallel], b = true := by
      simp [inRange_of_atMost h1, inRange_of_atMost h2, isFlag_of_le h3, inRange_of_atMost h4, isFlag_of_le h5,
        inRange_of_le h6 h7]
    exact answers_of rfl (mapEdit_taken hm hb hc)

/-- 01 R15: fields in range pass the checks. -/
theorem valveChecks_of_valid {f : ValveFields} (h : FieldsValid f) : ∀ b ∈ valveChecks f, b = true := by
  obtain ⟨hv, ha, ⟨hb, hba⟩, hk, hn, hr, hp⟩ := h
  intro b hmem
  obtain hmem | hmem := List.mem_append.1 hmem
  · simp only [List.mem_cons, List.not_mem_nil, or_false] at hmem
    obtain rfl | rfl | rfl | rfl | rfl | rfl := hmem
    · exact inRange_of_le hv.1 hv.2
    · exact inRange_of_le ha.1 ha.2
    · simp [inRange_of_atMost hb, hba]
    · exact isFlag_of_le hk
    · exact isFlag_of_le hn
    · exact inRange_of_atMost hr
  · split at hmem
    · cases hmem
    · obtain ⟨h1, h2, h3, h4, h5, h6, h7, h8, h9, h10, h11, h12, h13⟩ := hp (by omega)
      simp only [List.mem_cons, List.not_mem_nil, or_false] at hmem
      obtain rfl | rfl | rfl | rfl | rfl | rfl | rfl | rfl | rfl | rfl | rfl | rfl := hmem
      · exact inRange_of_atMost h1
      · exact inRange_of_le h2.1 h2.2
      · exact inRange_of_le h3.1 h3.2
      · exact inRange_of_le h4.1 h4.2
      · exact inRange_of_le h5.1 h5.2
      · exact inRange_of_le h6.1 h6.2
      · obtain h7 | h7 := h7
        · simp [h7]
        · simp [inRange_of_le h7.1 h7.2]
      · obtain h9 | h9 := h9
        · simp [inRange_of_le h8.1 h8.2, h9]
        · simp [inRange_of_le h8.1 h8.2, h9]
      · exact inRange_of_atMost h10
      · exact inRange_of_atMost h11
      · exact inRange_of_le h12.1 h12.2
      · exact inRange_of_atMost h13

/-- Settles O7: the entry that the fields give, and the dynamic record of 01 R16. -/
theorem putValveWritesEntryAndRecord : Obligations.PutValveWritesEntryAndRecord := by
  intro s f p hm hb hvalid hpart
  have hkind : f.kind = 0 ∨ f.kind = 1 := by have := hvalid.2.2.2.1; omega
  have hnormal : f.normalState = 0 ∨ f.normalState = 1 := by have := hvalid.2.2.2.2.1; omega
  have hrec : valveRecord f = ⟨f.endA, f.endB, if f.kind = 0 then .actuated p else .manual,
      if f.normalState = 0 then .normallyOpen else .normallyClosed, f.closingRank⟩ := by
    have hn : (if f.normalState = 1 then NormalState.normallyClosed else .normallyOpen)
        = if f.normalState = 0 then .normallyOpen else .normallyClosed := by
      obtain h | h := hnormal <;> simp [h]
    obtain h | h := hkind
    · obtain ⟨h1, h2, h3, h4, h5, h6, h7, h8, h9, h10, h11, h12⟩ := hpart h
      have hp : valvePart f = p := by simp [valvePart, h1, h2, h3, h4, h5, h6, h7, h8, h9, h10, h11, h12]
      simp only [valveRecord, hn, hp, h]; rfl
    · simp only [valveRecord, hn, h]; rfl
  refine ⟨_, answers_of rfl (mapEdit_taken hm hb (valveChecks_of_valid hvalid)), ?_, ?_, ?_, rfl⟩
  · rw [← hrec]; rfl
  · rw [dyn_onDyn_same, hrec]
    change dynAfterPut (s.dyn f.valve) _ = _
    obtain h | h := hkind <;> obtain h' | h' := hnormal <;> simp [dynAfterPut, h, h', blankDyn, manualPosition]
  · intro u hu
    rw [dyn_onDyn, if_neg hu]; rfl

/-- Settles O9: a present entry goes with what belongs to it. -/
theorem dropsRemoveEntries : Obligations.DropsRemoveEntries := by
  intro s hm hb
  refine ⟨fun segment h1 h2 => ?_, fun valve h1 h2 => ?_, fun l address h1 h2 => ?_⟩
  · have hc : ∀ b ∈ [inRange 1 511 segment], b = true := by simp [inRange_of_le h1 h2]
    refine ⟨fun h => ?_, fun h => ?_⟩
    all_goals
      refine answers_of rfl ((mapEdit_taken hm hb hc).trans ?_)
      simp only [h]; rfl
  · have hc : ∀ b ∈ [inRange 1 1023 valve], b = true := by simp [inRange_of_le h1 h2]
    refine ⟨fun h => ?_, fun h => ?_⟩
    · refine ⟨onDyn valve dynAfterDrop (onMap (fun m => { m with valves := Table.erase m.valves valve }) s), ?_, rfl, ?_, ?_, rfl⟩
      · refine answers_of rfl ((mapEdit_taken hm hb hc).trans ?_)
        simp only [h]; rfl
      · rw [dyn_onDyn_same]; rfl
      · intro u hu
        rw [dyn_onDyn, if_neg hu]; rfl
    · refine answers_of rfl ((mapEdit_taken hm hb hc).trans ?_)
      simp only [h]; rfl
  · have hc : ∀ b ∈ [inRange 0 3 (Line.code l), inRange 1 16 address], b = true := by
      simp [inRange_lineCode, inRange_of_le h1 h2]
    refine ⟨fun h => ?_, fun h => ?_⟩
    all_goals
      refine answers_of rfl ((mapEdit_taken hm hb hc).trans ?_)
      simp only [lineOfCode_code, Option.getD_some, stationKey, h]; rfl

end Sys2Proof.Machine
end

section
/-! PROOFS. Alarm inputs: how one is judged outside RUN, and PUT_ALARM: O8 (07; 01 R19). -/

namespace Sys2Proof.Machine

open Sys2Proof

/-! ### Judging an input outside RUN (07 R162, R163, R165, R167) -/

theorem judgeAlarm_same {i : Fin 8} {before s : State} (h : before.asserted i = s.asserted i) :
    judgeAlarm i before s = s := by
  rw [judgeAlarm, if_pos h]

theorem judgeAlarm_deasserted {i : Fin 8} {before s : State} (h : before.asserted i = true) (h' : s.asserted i = false) :
    judgeAlarm i before s = { s with
      reports := s.reports.raise (s.alarmReport i 6
        (if s.map.alarms[i].segment = 0 then before.map.alarms[i].segment else s.map.alarms[i].segment) 0 0) } := by
  simp [judgeAlarm, h, h', deassertAlarm, raiseAlarm, raise, alarmDeasserted, flagCode, State.alarmReport]

theorem judgeAlarm_reported {i : Fin 8} {before s : State} (h : before.asserted i = false) (h' : s.asserted i = true)
    (ha : s.map.alarms[i].action = .reportOnly) :
    judgeAlarm i before s = { s with
      alarms := s.alarms.set i { s.alarms[i] with latched := true }
      reports := s.reports.raise (s.alarmReport i 0 s.map.alarms[i].segment 0 0) } := by
  have ha' : s.map.alarms[i.val].action = .reportOnly := ha
  simp [judgeAlarm, h, h', assertAlarm, ha', onAlarm, raiseAlarm, raise, alarmAsserted, flagCode, State.alarmReport]

theorem judgeAlarm_deferred {i : Fin 8} {before s : State} (h : before.asserted i = false) (h' : s.asserted i = true)
    (ha : s.map.alarms[i].action = .declare) (hm : s.store.mode ≠ .run) :
    judgeAlarm i before s = { s with
      alarms := s.alarms.set i { s.alarms[i] with latched := true, deferred := true }
      reports := s.reports.raise (s.alarmReport i 4 s.map.alarms[i].segment 0 0) } := by
  have ha' : s.map.alarms[i.val].action = .declare := ha
  simp [judgeAlarm, h, h', assertAlarm, ha', hm, onAlarm, raiseAlarm, raise, alarmDeferred, flagCode, State.alarmReport]

/-- 07: what judging an input outside RUN can do. -/
theorem inputJudged_judgeAlarm {i : Fin 8} {before s : State} (hm : s.store.mode ≠ .run) :
    InputJudged before i s (judgeAlarm i before s) := by
  cases hb : before.asserted i <;> cases ha : s.asserted i
  case false.false => exact .same (hb.trans ha.symm) (judgeAlarm_same (hb.trans ha.symm))
  case true.true => exact .same (hb.trans ha.symm) (judgeAlarm_same (hb.trans ha.symm))
  case true.false => exact .deasserted hb ha (judgeAlarm_deasserted hb ha)
  case false.true =>
    cases hact : s.map.alarms[i].action with
    | reportOnly => exact .reported hb ha hact (judgeAlarm_reported hb ha hact)
    | declare => exact .deferred hb ha hact (judgeAlarm_deferred hb ha hact hm)

theorem asserted_eq (s : State) (i : Fin 8) :
    s.asserted i = decide (s.alarms[i].debounced = some s.map.alarms[i].active ∧ s.map.alarms[i].segment ≠ 0) := by
  rw [Bool.eq_iff_iff]; simp [State.asserted, assertedWith]

/-! ### PUT_ALARM (01 R19) -/

@[simp] theorem inputIndex_succ (i : Fin 8) : inputIndex (i.val + 1) = some i := by
  have h : 1 ≤ i.val + 1 ∧ i.val + 1 ≤ 8 := by omega
  simp [inputIndex, h]

/-- The state of 01 R19 before the input is judged: the settings written and a running timer started again. -/
abbrev State.withAlarm (s : State) (i : Fin 8) (x : AlarmSettings) : State :=
  onAlarm i (fun y => y.settingsChanged s.map.alarms[i] x) (onMap (fun m => { m with alarms := m.alarms.set i x }) s)

theorem withAlarm_input (s : State) (i : Fin 8) (x : AlarmSettings) :
    (s.withAlarm i x).alarms[i] = { s.alarms[i] with
      timer := if s.map.alarms[i].debounce = x.debounce then s.alarms[i].timer
        else s.alarms[i].timer.map fun _ => x.debounce * 100 } := by
  simp only [onAlarm, onMap, AlarmInput.settingsChanged, Fin.getElem_fin, Vector.getElem_set_self]
  split <;> rfl

theorem withAlarm_settings (s : State) (i : Fin 8) (x : AlarmSettings) : (s.withAlarm i x).map.alarms[i] = x := by
  simp [onAlarm, onMap]

theorem answers_putAlarm {s : State} (hm : s.store.mode = .config) (hb : s.store.busy = false) (i : Fin 8)
    (x : AlarmSettings) (h1 : x.segment ≤ 511) (h2 : 1 ≤ x.debounce) (h3 : x.debounce ≤ 255) :
    Answers (.putAlarm (i.val + 1) x.segment (match x.active with | .high => 0 | .low => 1) x.debounce
      (match x.action with | .reportOnly => 0 | .declare => 1)) s 0x05#8 .done [] (judgeAlarm i s (s.withAlarm i x)) := by
  obtain ⟨segment, active, debounce, action⟩ := x
  have hi : inRange 1 8 (i.val + 1) = true := inRange_of_le (by omega) (by omega)
  refine answers_of rfl ((mapEdit_taken hm hb ?_).trans ?_)
  · cases active <;> cases action <;> simp [hi, inRange_of_atMost h1, inRange_of_le h2 h3, isFlag]
  · simp only [inputIndex_succ]
    cases active <;> cases action <;> rfl

/-- Settles O8: the settings are written and the input judged by them. -/
theorem putAlarmWritesAndJudges : Obligations.PutAlarmWritesAndJudges := by
  intro s i x hm hb h1 h2 h3 command old input was now level edited
  have hwas : s.asserted i = was := asserted_eq s i
  have hnow : (s.withAlarm i x).asserted i = now := by
    rw [asserted_eq, withAlarm_input, withAlarm_settings]
  have hall : (s.withAlarm i x) = { edited with alarms := s.alarms.set i input } := by
    have := withAlarm_input s i x
    simp only [onAlarm, onMap, Fin.getElem_fin, Vector.getElem_set_self] at this
    simp only [onAlarm, onMap, Fin.getElem_fin, this]; rfl
  have hset : (s.withAlarm i x).map.alarms[i] = x := withAlarm_settings s i x
  have key := answers_putAlarm hm hb i x h1 h2 h3
  refine ⟨fun h => ?_, fun h h' ha => ?_, fun h h' ha => ?_, fun h h' => ?_⟩
  · rw [judgeAlarm_same (hwas.trans (h.trans hnow.symm)), hall] at key
    exact key
  · rw [judgeAlarm_reported (hwas.trans h) (hnow.trans h') (by rw [hset]; exact ha), hset, hall] at key
    simp only [State.alarmReport, Fin.getElem_fin, Vector.getElem_set_self, Vector.set_set] at key
    exact key
  · rw [judgeAlarm_deferred (hwas.trans h) (hnow.trans h') (by rw [hset]; exact ha) (by simp [onAlarm, onMap, hm]), hset, hall] at key
    simp only [State.alarmReport, Fin.getElem_fin, Vector.getElem_set_self, Vector.set_set] at key
    exact key
  · rw [judgeAlarm_deasserted (hwas.trans h) (hnow.trans h'), hset, hall] at key
    simp only [State.alarmReport, Fin.getElem_fin, Vector.getElem_set_self] at key
    exact key

end Sys2Proof.Machine
end

section
/-! PROOFS. Declarations, from the host and from the alarm inputs: O20 and O46 (03, section 3.3; 07). -/

namespace Sys2Proof.Machine

open Sys2Proof

/-! ### The absorption test and the lowest FREE slot (03 R49, R56, R58) -/

theorem absorber_of_mem {s : State} (h : s.RegionsDisjoint) {x : Nat} (hx : x ≠ 0) {y : Incident}
    (hy : y ∈ s.activeIncidents) (hxy : x ∈ y.region) : s.absorber x = some y := by
  cases ha : s.absorber x with
  | none => exact absurd hxy (absorber_eq_none hx ha y hy)
  | some z =>
    obtain ⟨hz, hxz⟩ := absorber_eq_some ha
    rw [eq_of_mem_regions h hz hy hxz hxy]

theorem absorber_of_not_mem {s : State} {x : Nat} (h : ∀ y ∈ s.activeIncidents, x ∉ y.region) : s.absorber x = none := by
  cases ha : s.absorber x with
  | none => rfl
  | some y =>
    obtain ⟨hy, hxy⟩ := absorber_eq_some ha
    exact absurd hxy (h y hy)

theorem freeSlot?_of_lowest {s : State} {k : Nat} (hk : k ≤ 3) (hfree : s.slot k = none) (hlow : ∀ j < k, s.slot j ≠ none) :
    s.freeSlot? = some k := by
  cases hf : s.freeSlot? with
  | none => exact absurd hfree (freeSlot?_eq_none hf k hk)
  | some j =>
    obtain ⟨-, hj, hjlow⟩ := freeSlot?_eq_some hf
    have h1 : ¬ j < k := fun h => hlow j h hj
    have h2 : ¬ k < j := fun h => hjlow k h hfree
    rw [show j = k by omega]

theorem freeSlot?_of_full {s : State} (h : ∀ k ≤ 3, s.slot k ≠ none) : s.freeSlot? = none := by
  cases hf : s.freeSlot? with
  | none => rfl
  | some k => exact absurd (freeSlot?_eq_some hf).2.1 (h k (freeSlot?_eq_some hf).1)

/-! ### What a declaration does (03 R50, R56, R57) -/

theorem declareBurst_absorbed {s : State} {x : Nat} {y : Incident} (h : s.absorber x = some y) (group : Nat) (always : Bool)
    (origin : Origin) : declareBurst x group always origin s = (s, .absorbed y.number) := by
  simp [declareBurst, h]

theorem declareBurst_noRoom {s : State} {x : Nat} (h : s.absorber x = none) (hf : s.freeSlot? = none) (group : Nat)
    (always : Bool) (origin : Origin) : declareBurst x group always origin s = (s, .noRoom) := by
  simp [declareBurst, h, hf]

theorem declareBurst_created {s : State} {x k : Nat} (h : s.absorber x = none) (hf : s.freeSlot? = some k) (group : Nat)
    (always : Bool) (origin : Origin) :
    declareBurst x group always origin s = (createIncident k x group always origin s, .created s.engine.counter k) := by
  simp [declareBurst, h, hf]

/-- 03 R57: a declaration writes the slot, the counter, the planner and one report. -/
theorem createIncident_only (k x group : Nat) (always : Bool) (origin : Origin) (s : State) :
    createIncident k x group always origin s = { s with
      engine := (s.added k x group always origin).engine
      planner := (createIncident k x group always origin s).planner
      reports := s.raised .incidentState (.incident s.engine.counter) 1 [some 0, some 0, some 1, some 0] } := by
  simp only [createIncident, raiseState, raise]
  rw [planRequest_only]
  rfl

theorem slot_createIncident (k x group : Nat) (always : Bool) (origin : Origin) (s : State) (j : Nat) :
    (createIncident k x group always origin s).slot j
      = if j = k then some (newIncident s.engine.counter x group always origin s.reports.timeBase) else s.slot j := by
  rw [createIncident_only, State.slot, State.slot]
  simp [State.added, advanceCounter, putSlot, Table.get_put]

/-- 02 R25, R27: the planner after a new incident has asked for its plan. -/
def Planner.joined (p : Planner) (n x : Nat) : Planner :=
  match p.plan with
  | none => ⟨[], some (newPlan n [x])⟩
  | some q => ⟨p.queue ++ [n], some { q with stale := true }⟩

theorem plannable_ne_counter {s : State} (hs : s.SlotsSound) {n : Nat} (h : s.Plannable n) : n ≠ s.engine.counter := by
  obtain ⟨j, a, hj, rfl, -⟩ := h
  exact fun e => hs.2.2.2.2.2 (e ▸ List.mem_map_of_mem (Table.mem_of_get hj))

/-- 02 R25 to R27: the new incident's plan starts, or joins the queue and makes the plan in progress stale. -/
theorem planner_createIncident {s : State} (hs : s.SlotsSound) (hp : s.PlannerSound) {k x : Nat} (hk : s.slot k = none)
    (hlow : k ≤ 3) (group : Nat) (always : Bool) (origin : Origin) :
    (createIncident k x group always origin s).planner = s.planner.joined s.engine.counter x := by
  obtain ⟨hqueue, hplan⟩ := (plannerSound_iff hs.wf).1 hp
  have hadd := added_advanceCounter hk hlow x group always origin
  have hinc := incident_of_slot (hadd.sound hs) (k := k) (by rw [hadd.slot, if_pos rfl])
  set u := markStaleForOthers s.engine.counter (s.added k x group always origin) with hu
  have hinc' : u.incident s.engine.counter = some (k, newIncident s.engine.counter x group always origin s.reports.timeBase) := hinc
  have hq : s.engine.counter ∉ u.planner.queue := fun h => plannable_ne_counter hs (hqueue.queued _ h) rfl
  have hcreate : (createIncident k x group always origin s).planner = (planRequest s.engine.counter u).planner := rfl
  rw [hcreate]
  cases hpl : s.planner.plan with
  | none =>
    have hup : u.planner = ⟨[], none⟩ := by
      simp [hu, markStaleForOthers, State.added, advanceCounter, putSlot, hpl, hqueue.empty hpl]
    simp [planRequest, hinc', newIncident, hup, startNextPlan, Planner.startNext, State.recordedRegion, Planner.joined, hpl]
    have : ({ u with planner := ⟨[s.engine.counter], none⟩ } : State).incident s.engine.counter = _ := hinc'
    rw [this]; rfl
  | some p =>
    have hne : p.incident ≠ s.engine.counter := plannable_ne_counter hs (hplan p hpl)
    have hup : u.planner = ⟨s.planner.queue, some { p with stale := true }⟩ := by
      simp [hu, markStaleForOthers, State.added, advanceCounter, putSlot, hpl, hne]
    have hq' : s.engine.counter ∉ s.planner.queue := by simpa [hup] using hq
    simp [planRequest, hinc', newIncident, hup, startNextPlan, Planner.startNext, Planner.joined, hpl, hne, hq']

/-- 03 R50: the counter goes on by one, 255 being followed by 1, past the numbers in use. -/
theorem counter_added {s : State} (hs : s.SlotsSound) {k : Nat} (hk : s.slot k = none) (hlow : k ≤ 3) (x group : Nat)
    (always : Bool) (origin : Origin) :
    let t := s.added k x group always origin
    ∃ i, t.engine.counter = (s.engine.counter + i) % 255 + 1 ∧ (∀ e ∈ t.engine.slots, e.2.number ≠ t.engine.counter)
      ∧ ∀ j < i, ∃ e ∈ t.engine.slots, e.2.number = (s.engine.counter + j) % 255 + 1 := by
  intro t
  have hadd := added_advanceCounter hk hlow x group always origin
  have hsound := hadd.sound hs
  obtain ⟨-, -, -, hc1, hc2, -⟩ := hs
  obtain ⟨i, -, he, hpass, -⟩ := skipNumbers_eq (t.engine.slots.map (·.2.number)) t.engine.slots.length (succNumber s.engine.counter)
  have hnth (j : Nat) : succNumber^[j] (succNumber s.engine.counter) = (s.engine.counter + j) % 255 + 1 := by
    rw [← Function.iterate_succ_apply, succNumber_iterate _ hc1 hc2]; omega
  refine ⟨i, ?_, fun e he' h => hsound.2.2.2.2.2 (h ▸ List.mem_map_of_mem he'), fun j hj => ?_⟩
  · rw [hadd.counter, ← hadd.slots, he, hnth]
  · obtain ⟨e, he, hn⟩ := List.mem_map.1 (hpass j hj)
    exact ⟨e, he, hn.trans (hnth j)⟩

theorem answers_declare {s : State} (hm : s.store.mode = .run) {x group always : Nat} (h1 : 1 ≤ x) (h2 : x ≤ 511)
    (h3 : group ≤ 14) (h4 : always ≤ 1) (hx : Table.has s.map.segments x = true) {t : State} {d : Declared}
    (hd : declareBurst x group (decide (always = 1)) .host s = (t, d)) :
    Answers (.declare x group always) s 0x30#8 (declareAnswer t d).status (declareAnswer t d).data t := by
  refine answers_of rfl ((gated_taken (by rw [hm]; rfl) ?_).trans ?_)
  · simp [inRange_of_le h1 h2, inRange_of_atMost h3, isFlag_of_le h4]
  · rw [if_pos hx]
    dsimp only
    rw [hd]
    cases d <;> rfl

/-- Settles O20: the absorption test and the FREE slots decide what a DECLARE leads to. -/
theorem declareCreatesOrIsTurnedAway : Obligations.DeclareCreatesOrIsTurnedAway := by
  constructor
  · intro s segment group always slot hm h1 h2 h3 h4 hseg hs hp hout hlow hfree hmin n
    have hburst := declareBurst_created (absorber_of_not_mem hout) (freeSlot?_of_lowest hlow hfree hmin) group
      (decide (always = 1)) .host
    have honly := createIncident_only slot segment group (decide (always = 1)) .host s
    have hplanner := planner_createIncident hs hp (x := segment) hfree hlow group (decide (always = 1)) .host
    have hslot := slot_createIncident slot segment group (decide (always = 1)) .host s
    set t := createIncident slot segment group (decide (always = 1)) .host s with ht
    have hengine : t.engine = (s.added slot segment group (decide (always = 1)) .host).engine := by rw [honly]
    refine ⟨t, answers_declare hm h1 h2 h3 h4 hseg hburst, by rw [hslot, if_pos rfl]; rfl,
      fun k hk => by rw [hslot, if_neg hk], ?_, ?_, fun hnone => ?_, fun p hsome => ?_, ?_⟩
    · rw [hengine]; exact counter_added hs hfree hlow _ _ _ _
    · rw [hengine]; rfl
    · rw [hplanner, Planner.joined, hnone]
    · rw [hplanner, Planner.joined, hsome]
    · rw [hengine]; exact honly
  · intro s segment group always hm h1 h2 h3 h4
    refine ⟨fun hseg => ?_, fun hseg hd inc hinc hx => ?_, fun hseg hout hfull => ?_⟩
    · refine answers_of rfl ((gated_taken (by rw [hm]; rfl) ?_).trans (if_neg (by simp [hseg])))
      simp [inRange_of_le h1 h2, inRange_of_atMost h3, isFlag_of_le h4]
    · exact answers_declare hm h1 h2 h3 h4 hseg (declareBurst_absorbed (absorber_of_mem hd (by omega) hinc hx) _ _ _)
    · exact answers_declare hm h1 h2 h3 h4 hseg
        (declareBurst_noRoom (absorber_of_not_mem hout) (freeSlot?_of_full hfull) _ _ _)

/-! ### A declaration from an alarm input (07 R164) -/

theorem alarmDeclaration_absorbed {s : State} {i : Fin 8} {y : Incident} (h : s.absorber s.map.alarms[i].segment = some y)
    (deferred : Bool) :
    alarmDeclaration i deferred s = { s with
      reports := s.reports.raise (s.alarmReport i 2 s.map.alarms[i].segment y.number (flagCode deferred)) } := by
  simp only [alarmDeclaration]
  rw [declareBurst_absorbed h]
  rfl

theorem alarmDeclaration_noRoom {s : State} {i : Fin 8} (h : s.absorber s.map.alarms[i].segment = none)
    (hf : s.freeSlot? = none) (deferred : Bool) :
    alarmDeclaration i deferred s = { s with
      reports := s.reports.raise (s.alarmReport i 3 s.map.alarms[i].segment 0 (flagCode deferred)) } := by
  simp only [alarmDeclaration]
  rw [declareBurst_noRoom h hf]
  rfl

theorem alarmDeclaration_created {s : State} {i : Fin 8} {k : Nat} (h : s.absorber s.map.alarms[i].segment = none)
    (hf : s.freeSlot? = some k) (deferred : Bool) :
    let u := createIncident k s.map.alarms[i].segment 0 false (.alarm (i.val + 1)) s
    alarmDeclaration i deferred s = { s with
      engine := u.engine
      planner := u.planner
      reports := (s.raised .incidentState (.incident s.engine.counter) 1 [some 0, some 0, some 1, some 0]).raise
        (s.alarmReport i 1 s.map.alarms[i].segment s.engine.counter (flagCode deferred)) } := by
  intro u
  have honly : u = _ := createIncident_only ..
  have hengine : u.engine = (s.added k s.map.alarms[i].segment 0 false (.alarm (i.val + 1))).engine := by rw [honly]
  simp only [alarmDeclaration]
  rw [declareBurst_created h hf, hengine]
  change raiseAlarm i _ _ _ _ u = _
  rw [honly]
  simp only [raiseAlarm, raise, State.alarmReport, raise_timeBase]
  rfl

/-- 07 R164: what a declaration from an input leads to. -/
theorem alarmDeclares {s : State} (hs : s.SlotsSound) (hp : s.PlannerSound) {i : Fin 8} (hx : s.map.alarms[i].segment ≠ 0)
    (deferred : Bool) : AlarmDeclares i s.map.alarms[i].segment (flagCode deferred) s (alarmDeclaration i deferred s) := by
  cases ha : s.absorber s.map.alarms[i].segment with
  | some y =>
    obtain ⟨hy, hxy⟩ := absorber_eq_some ha
    exact .absorbed y hy hxy (alarmDeclaration_absorbed ha deferred)
  | none =>
    have hout := absorber_eq_none hx ha
    cases hf : s.freeSlot? with
    | none => exact .noRoom hout (freeSlot?_eq_none hf) (alarmDeclaration_noRoom ha hf deferred)
    | some k =>
      obtain ⟨hlow, hfree, hmin⟩ := freeSlot?_eq_some hf
      have he := alarmDeclaration_created ha hf deferred
      have hslot := slot_createIncident k s.map.alarms[i].segment 0 false (.alarm (i.val + 1)) s
      have hplanner := planner_createIncident hs hp hfree hlow (x := s.map.alarms[i].segment) 0 false (.alarm (i.val + 1))
      have honly := createIncident_only k s.map.alarms[i].segment 0 false (.alarm (i.val + 1)) s
      dsimp only at he
      set u := createIncident k s.map.alarms[i].segment 0 false (.alarm (i.val + 1)) s with hu
      have hengine : u.engine = (s.added k s.map.alarms[i].segment 0 false (.alarm (i.val + 1))).engine := by rw [honly]
      have hte : (alarmDeclaration i deferred s).engine = u.engine := by rw [he]
      have htp : (alarmDeclaration i deferred s).planner = u.planner := by rw [he]
      have hts (j : Nat) : (alarmDeclaration i deferred s).slot j = u.slot j := by rw [State.slot, hte]; rfl
      refine .declared k (newIncident s.engine.counter s.map.alarms[i].segment 0 false (.alarm (i.val + 1)) s.reports.timeBase)
        hout hlow hfree hmin (by rw [hts, hslot, if_pos rfl]) (fun j hj => by rw [hts, hslot, if_neg hj])
        rfl rfl rfl rfl rfl rfl rfl rfl ?_ ?_ ?_
      · rw [htp, hplanner, Planner.joined]
        split <;> rfl
      · rw [hte, hengine]; rfl
      · rw [hte, htp]; exact he

/-! ### Debounce (07 R161) -/

theorem yields_levelChange (s : State) (i : Fin 8) (level : Level) :
    Yields (.alarmLevelChange (i.val + 1) level) s (levelChange level i s) := by
  change Host.Outcome.next (forInput (i.val + 1) (levelChange level) s) = _
  rw [forInput, inputIndex_succ]

theorem yields_debounceExpiry {s : State} {i : Fin 8} (ht : s.alarms[i].timer ≠ none)
    (hd : s.alarms[i].debounced ≠ some s.alarms[i].level) :
    Yields (.debounceExpiry (i.val + 1)) s (judgeAlarm i s (onAlarm i AlarmInput.taken s)) := by
  change Host.Outcome.next (forInput (i.val + 1) debounceExpiry s) = _
  rw [forInput, inputIndex_succ]
  dsimp only
  rw [debounceExpiry, if_pos ⟨Option.isSome_iff_ne_none.2 ht, hd⟩]

/-- 07 R163, R164: an input with the action DECLARE that becomes asserted in RUN is latched and declares. -/
theorem judgeAlarm_declares {i : Fin 8} {before s : State} (h : before.asserted i = false) (h' : s.asserted i = true)
    (ha : s.map.alarms[i].action = .declare) (hm : s.store.mode = .run) :
    judgeAlarm i before s = alarmDeclaration i false (onAlarm i (fun x => { x with latched := true }) s) := by
  have ha' : s.map.alarms[i.val].action = .declare := ha
  simp [judgeAlarm, h, h', assertAlarm, ha', hm, onAlarm]

/-- Settles O46: a debounced level is taken and the input judged by it. -/
theorem alarmsAreDebouncedAndJudged : Obligations.AlarmsAreDebouncedAndJudged := by
  intro s i x settings taken was now report expiry
  have hwas : s.asserted i = was := asserted_eq s i
  set u := onAlarm i AlarmInput.taken s with hu
  have hinput : u.alarms[i] = taken := by simp [hu, onAlarm, AlarmInput.taken, taken, x]
  have hall : u = { s with alarms := s.alarms.set i taken } := rfl
  have hnow : u.asserted i = now := by
    rw [asserted_eq, hinput]; simp [taken, now, hu, onAlarm, settings]
  refine ⟨fun level hl => ?_, fun ht hd => ?_⟩
  · have h := yields_levelChange s i level
    rw [levelChange, onAlarm, AlarmInput.levelChanged, if_neg (Ne.symm hl)] at h
    have htime : debounceTime s.alarms[i] s.map.alarms[i] = if x.debounced = none then 1000 else settings.debounce * 100 := by
      rw [debounceTime]
      split
      · next hx => rw [if_pos hx]
      · next hx => exact (if_neg fun h : s.alarms[i].debounced = none => by rw [h] at hx; cases hx).symm
    rwa [htime] at h
  · have key := yields_debounceExpiry ht hd
    rw [← hu] at key
    have hreport (detail incident : Nat) :
        u.alarmReport i detail settings.segment incident 0 = ⟨.alarmInput, s.reports.timeBase, .input (i.val + 1), detail,
          [some settings.segment, some incident, some (Level.code x.level), some 0]⟩ := by
      rw [State.alarmReport, hinput]; rfl
    have hseg (h' : now = true) : s.map.alarms[i].segment ≠ 0 := (of_decide_eq_true h').2
    refine ⟨fun h => ?_, fun h h' => ?_, fun h h' ha => ?_, fun h h' ha hm => ?_, fun h h' ha hm => ?_⟩
    · rwa [judgeAlarm_same (hwas.trans (h.trans hnow.symm))] at key
    · rw [judgeAlarm_deasserted (hwas.trans h) (hnow.trans h')] at key
      have hsame : (if u.map.alarms[i].segment = 0 then s.map.alarms[i].segment else u.map.alarms[i].segment)
        = settings.segment := ite_self _
      rw [hsame, hreport] at key
      exact key
    · rw [judgeAlarm_reported (hwas.trans h) (hnow.trans h') ha, hinput] at key
      change Yields _ _ { u with alarms := _, reports := u.reports.raise (u.alarmReport i 0 settings.segment 0 0) } at key
      rw [hreport, hall] at key
      simpa using key
    · rw [judgeAlarm_deferred (hwas.trans h) (hnow.trans h') ha hm, hinput] at key
      change Yields _ _ { u with alarms := _, reports := u.reports.raise (u.alarmReport i 4 settings.segment 0 0) } at key
      rw [hreport, hall] at key
      simpa using key
    · rw [judgeAlarm_declares (hwas.trans h) (hnow.trans h') ha hm] at key
      intro latched
      set w := onAlarm i (fun y => { y with latched := true }) u with hw
      have hwl : w = latched := by
        rw [hw, onAlarm, hinput, hall]; simp [latched]
      have hdeb : w.alarms[i].debounced = some x.level := by rw [hwl]; simp [latched, taken]
      have hreport' (detail incident : Nat) :
          w.alarmReport i detail settings.segment incident 0 = ⟨.alarmInput, s.reports.timeBase, .input (i.val + 1), detail,
            [some settings.segment, some incident, some (Level.code x.level), some 0]⟩ := by
        rw [State.alarmReport, hdeb]; rfl
      refine ⟨fun hdis inc hinc hx => ?_, fun hout hfull => ?_, fun hout k hk hfree hmin => ?_⟩
      · have hab : w.absorber w.map.alarms[i].segment = some inc := absorber_of_mem hdis (hseg h') hinc hx
        rw [alarmDeclaration_absorbed hab] at key
        change Yields _ _ { w with reports := w.reports.raise (w.alarmReport i 2 settings.segment _ 0) } at key
        rw [hreport', hwl] at key
        exact key
      · have hab : w.absorber w.map.alarms[i].segment = none := absorber_of_not_mem hout
        rw [alarmDeclaration_noRoom hab (freeSlot?_of_full hfull)] at key
        change Yields _ _ { w with reports := w.reports.raise (w.alarmReport i 3 settings.segment _ 0) } at key
        rw [hreport', hwl] at key
        exact key
      · have hab : w.absorber w.map.alarms[i].segment = none := absorber_of_not_mem hout
        have hcreate := alarmDeclaration_created hab (freeSlot?_of_lowest hk hfree hmin) false
        have hslot := slot_createIncident k settings.segment 0 false (.alarm (i.val + 1)) w k
        rw [if_pos rfl] at hslot
        dsimp only at hcreate
        rw [show w.alarmReport i 1 w.map.alarms[i].segment w.engine.counter (flagCode false) = _ from hreport' 1 _] at hcreate
        rw [hcreate] at key
        refine ⟨_, _, key, hslot, rfl, rfl, rfl, rfl, rfl, rfl, rfl, ?_⟩
        rw [← hwl]
        rfl

end Sys2Proof.Machine
end

section
/-! PROOFS. What operations made one after the other on valves, lines and inputs come to, and the statements of the store and
the modes that say so: O10, O11, O15 (10; 01 R22). -/

namespace Sys2Proof.Machine

open Sys2Proof

/-! ### The ACTUATED valves -/

theorem actuated_eq_some {s : State} {v : Nat} {p : ActuatedPart} :
    s.actuated v = some p ↔ ∃ r, Table.get s.map.valves v = some r ∧ r.kind = .actuated p := by
  unfold State.actuated
  cases Table.get s.map.valves v with
  | none => simp
  | some r => cases hk : r.kind <;> simp [hk]

theorem mem_actuatedValves {s : State} (h : Table.Wf s.map.valves) {v : Nat} {p : ActuatedPart} :
    (v, p) ∈ s.actuatedValves ↔ s.actuated v = some p := by
  rw [actuated_eq_some]
  simp only [State.actuatedValves, List.mem_filterMap]
  constructor
  · rintro ⟨⟨u, r⟩, he, hr⟩
    cases hk : r.kind with
    | manual => simp [hk] at hr
    | actuated q =>
      simp only [hk, Option.some.injEq, Prod.mk.injEq] at hr
      obtain ⟨rfl, rfl⟩ := hr
      exact ⟨r, Table.get_of_mem h he, hk⟩
  · rintro ⟨r, hr, hk⟩
    exact ⟨(v, r), Table.mem_of_get hr, by simp [hk]⟩

theorem mem_valvesOfLine {s : State} (h : Table.Wf s.map.valves) {l : Line} {v : Nat} {p : ActuatedPart} :
    (v, p) ∈ s.valvesOfLine l ↔ s.actuated v = some p ∧ p.line = l := by
  simp [State.valvesOfLine, mem_actuatedValves h]

/-! ### Records changed one after the other -/

/-- Changing dynamic records leaves everything else. -/
theorem foldl_onDyn_only {α : Type} (g : α → Nat) (f : α → ValveDyn → ValveDyn) (xs : List α) (s : State) :
    xs.foldl (fun s x => onDyn (g x) (f x) s) s
      = { s with drive := { s.drive with valves := (xs.foldl (fun s x => onDyn (g x) (f x) s) s).drive.valves } } := by
  induction xs generalizing s with
  | nil => rfl
  | cons x xs ih => exact (ih (onDyn (g x) (f x) s)).trans rfl

theorem Table.get_none_of_not_mem {α : Type} {t : Table α} {k : Nat} (h : k ∉ Table.keys t) : Table.get t k = none := by
  cases hg : Table.get t k with
  | none => rfl
  | some x => exact absurd (List.mem_map_of_mem (Table.mem_of_get hg)) h

/-- A change that is the same when made twice, made to the records of some valve ids. -/
theorem dyn_foldl_idempotent {α : Type} (g : α → Nat) {f : ValveDyn → ValveDyn} (hf : ∀ d, f (f d) = f d) (xs : List α)
    (s : State) (v : Nat) :
    (xs.foldl (fun s x => onDyn (g x) f s) s).dyn v = if v ∈ xs.map g then f (s.dyn v) else s.dyn v := by
  have h := dyn_foldl_onDyn f hf (xs.map g) s v
  rwa [List.foldl_map] at h

/-- Every listed record changed: so is every record, when the blank one does not change. -/
theorem dyn_foldl_keys {f : ValveDyn → ValveDyn} (hf : ∀ d, f (f d) = f d) (hblank : f blankDyn = blankDyn) {s t : State}
    (hd : t.drive = s.drive) (v : Nat) :
    ((Table.keys s.drive.valves).foldl (fun s v => onDyn v f s) t).dyn v = f (s.dyn v) := by
  have ht : t.dyn v = s.dyn v := by rw [State.dyn, hd]; rfl
  rw [dyn_foldl_idempotent (fun v => v) hf, ht]
  split
  · rfl
  · next h => rw [State.dyn, Table.get_none_of_not_mem (by simpa using h)]; exact hblank.symm

/-- The records named by the entries of a table changed, each by its entry. -/
theorem dyn_foldl_table {α : Type} (f : α → ValveDyn → ValveDyn) {t : Table α} (h : Table.Wf t) (s : State) (v : Nat) :
    (t.foldl (fun s e => onDyn e.1 (f e.2) s) s).dyn v
      = match Table.get t v with | some x => f x (s.dyn v) | none => s.dyn v := by
  induction t generalizing s with
  | nil => rfl
  | cons e t ih =>
    obtain ⟨k, x⟩ := e
    obtain ⟨hlow, ht⟩ := List.pairwise_cons.1 h
    rw [List.foldl_cons, ih ht, dyn_onDyn, Table.get]
    by_cases hvk : v = k
    · subst hvk
      have : Table.get t v = none := Table.get_none_of_not_mem fun hm => Nat.lt_irrefl _ (hlow v hm)
      simp [this]
    · simp [hvk]

/-- What each input's own part does to it, once for every input. -/
theorem alarms_foldl {f : State → Fin 8 → State} {g : Fin 8 → AlarmInput → AlarmInput}
    (h : ∀ s i, (f s i).alarms = s.alarms.set i (g i s.alarms[i])) (s : State) (j : Fin 8) :
    (allInputs.foldl f s).alarms[j] = g j s.alarms[j] := by
  fin_cases j <;> simp [allInputs, h]

/-! ### A relation through a list -/

theorem through_foldl {α : Type} {taken : α → State → State → Prop} {f : State → α → State} {P : State → Prop}
    (h : ∀ s x, P s → taken x s (f s x) ∧ P (f s x)) (xs : List α) {s : State} (hs : P s) :
    Through taken xs s (xs.foldl f s) := by
  induction xs generalizing s with
  | nil => rfl
  | cons x xs ih => exact ⟨f s x, (h s x hs).1, ih (h s x hs).2⟩

theorem InputJudged.store {before : State} {i : Fin 8} {s t : State} (h : InputJudged before i s t) : t.store = s.store := by
  cases h with
  | same _ h => rw [h]
  | reported _ _ _ h => rw [h]
  | deferred _ _ _ h => rw [h]
  | deasserted _ _ h => rw [h]

theorem through_judgeAlarms (before : State) {s : State} (hm : s.store.mode ≠ .run) :
    Through (InputJudged before) allInputs s (judgeAlarms before s) :=
  through_foldl (P := fun s => s.store.mode ≠ .run)
    (fun _ _ hm => ⟨inputJudged_judgeAlarm hm, by rw [(inputJudged_judgeAlarm hm).store]; exact hm⟩) _ hm

/-! ### CLEAR_MAP (01 R22) -/

theorem settleDebounce_only (before s : State) :
    settleDebounce before s = { s with alarms := (settleDebounce before s).alarms } := by
  simp [settleDebounce, allInputs, onAlarm]

theorem settleDebounce_alarms (before s : State) (i : Fin 8) :
    (settleDebounce before s).alarms[i] = s.alarms[i].settingsChanged before.map.alarms[i] s.map.alarms[i] := by
  fin_cases i <;> simp [settleDebounce, allInputs, onAlarm]

/-- While no input's segment is set, judging only reports what is no longer asserted. -/
theorem judgeAlarms_unset {before s : State} (h : ∀ i, s.asserted i = false) :
    judgeAlarms before s = { s with reports := (judgeAlarms before s).reports } := by
  have hone (i : Fin 8) (r : ReportUnit) : ∃ r', judgeAlarm i before { s with reports := r } = { s with reports := r' } := by
    have ha : ({ s with reports := r } : State).asserted i = false := h i
    cases hb : before.asserted i with
    | false => exact ⟨r, judgeAlarm_same (hb.trans ha.symm)⟩
    | true => exact ⟨_, judgeAlarm_deasserted hb ha⟩
  have hall (is : List (Fin 8)) (r : ReportUnit) :
      ∃ r', is.foldl (fun s i => judgeAlarm i before s) { s with reports := r } = { s with reports := r' } := by
    induction is generalizing r with
    | nil => exact ⟨r, rfl⟩
    | cons i is ih =>
      obtain ⟨r', h'⟩ := hone i r
      rw [List.foldl_cons, h']; exact ih r'
  obtain ⟨r', h'⟩ := hall allInputs s.reports
  rw [judgeAlarms, h']

/-- 01 R22: the cleared map and what goes with it, before the inputs are judged. -/
def State.cleared (s : State) : State :=
  dropAllDyn (allLines.foldl (fun s l => onControl l (fun c => { c with schedule := [] }) s) { s with map := emptyMap, stations := [] })

theorem cleared_only (s : State) :
    s.cleared = { s with map := emptyMap, stations := [], control := s.cleared.control,
                         drive := { s.drive with valves := s.cleared.drive.valves } } := by
  rw [State.cleared, dropAllDyn, foldl_onDyn_only (fun v => v) (fun _ => dynAfterDrop)]
  rfl

theorem cleared_control (s : State) (l : Line) : s.cleared.control.get l = { s.control.get l with schedule := [] } := by
  rw [State.cleared, dropAllDyn, foldl_onDyn_only (fun v => v) (fun _ => dynAfterDrop)]
  cases l <;> rfl

theorem dyn_cleared (s : State) (v : Nat) : s.cleared.dyn v = dynAfterDrop (s.dyn v) := by
  rw [State.cleared, dropAllDyn]
  exact dyn_foldl_keys (f := dynAfterDrop) (fun _ => rfl) rfl (t := allLines.foldl _ _) rfl v

/-- Settles O10: no segment is set in the empty map, so that judging can only report. -/
theorem clearMapLeavesTheEmptyMap : Obligations.ClearMapLeavesTheEmptyMap := by
  intro s hm hb
  have hkey : Answers .clearMap s 0x0A#8 .done [] (judgeAlarms s (settleDebounce s s.cleared)) :=
    answers_of rfl (mapEdit_taken hm hb (by simp))
  set w := settleDebounce s s.cleared with hw
  have hmap : w.map = emptyMap := by rw [hw, settleDebounce_only, cleared_only]
  have hwonly : w = { s with
      map := emptyMap, stations := [], control := s.cleared.control
      drive := { s.drive with valves := s.cleared.drive.valves }, alarms := w.alarms } := by
    rw [hw, settleDebounce_only, cleared_only]
  have hsettings (i : Fin 8) : w.map.alarms[i] = ⟨0, .high, 10, .reportOnly⟩ := by
    rw [hmap]; fin_cases i <;> rfl
  have hnone (i : Fin 8) : w.asserted i = false := by rw [asserted_eq, hsettings]; simp
  have halarm (i : Fin 8) : w.alarms[i] = { s.alarms[i] with
      timer := if s.map.alarms[i].debounce = 10 then s.alarms[i].timer else s.alarms[i].timer.map fun _ => 1000 } := by
    have hcleared : s.cleared.map.alarms[i] = ⟨0, .high, 10, .reportOnly⟩ := by
      rw [cleared_only]; exact hmap ▸ hsettings i
    have hsame : s.cleared.alarms[i] = s.alarms[i] := by rw [cleared_only]
    rw [hw, settleDebounce_alarms, hcleared, hsame, AlarmInput.settingsChanged]
    split <;> rfl
  have hstore : w.store.mode ≠ .run := by rw [hwonly]; simp [hm]
  have hthrough := through_judgeAlarms s hstore
  have htonly := judgeAlarms_unset (before := s) hnone
  set t := judgeAlarms s w with ht
  have htmap : t.map = emptyMap := by rw [htonly, hmap]
  have htwonly : t = { s with
      map := emptyMap, stations := [], control := s.cleared.control
      drive := { s.drive with valves := s.cleared.drive.valves }, alarms := w.alarms, reports := t.reports } := by
    rw [htonly, hwonly]
  have hassert (i : Fin 8) : t.asserted i = false := by rw [htonly]; exact hnone i
  have hmiddle : { t with reports := s.reports } = w := by rw [htonly, hwonly]
  refine ⟨t, hkey, by rw [htmap]; rfl, by rw [htmap]; rfl, by rw [htmap]; rfl, fun l => by rw [htmap]; cases l <;> rfl,
    fun i => by rw [htmap]; exact hmap ▸ hsettings i, by rw [htmap]; rfl, by rw [htwonly], fun l => ?_, fun v => ?_,
    fun i => ?_, hassert, by rw [hmiddle]; exact hthrough, ?_⟩
  · rw [htwonly]; exact cleared_control s l
  · rw [htwonly]; exact dyn_cleared s v
  · rw [htonly]; exact halarm i
  · rw [htwonly]

end Sys2Proof.Machine
end

section
/-! PROOFS. Resets, the receiver, the watermark and the time base, the entry to QUIESCING and the validation: O11, O13, O15,
O16, O51 and O52 (08, sections 8.4 and 8.6; 09, section 9.2; 10). -/

namespace Sys2Proof.Machine

open Sys2Proof

/-! ### The image's sum and the full reset (10 R196, R197) -/

theorem imageSum_eq (content : NetworkMap) : imageSum content = sum16 content := by
  have h (ws : List (BitVec 16)) (a : BitVec 16) :
      ws.foldl (· + ·) a = BitVec.ofNat 16 (a.toNat + (ws.map BitVec.toNat).sum) := by
    induction ws generalizing a with
    | nil => simp
    | cons w ws ih =>
      rw [List.foldl_cons, ih, List.map_cons, List.sum_cons]
      apply BitVec.eq_of_toNat_eq
      simp only [BitVec.toNat_ofNat, BitVec.toNat_add]
      omega
  rw [imageSum, h]; simp [sum16]

/-- Settles O15: a full reset starts from the state after reset. -/
theorem fullResetSetsEveryBlock : Obligations.FullResetSetsEveryBlock := by
  intro s ap sp i hi hap hsp
  refine ⟨fullReset ap sp s, ?_, rfl, rfl, fun h => ?_, fun content h => ?_, rfl, rfl, rfl, rfl, fun l => ?_, fun l => ?_,
    rfl, fun j => ?_, rfl, rfl, rfl, rfl, rfl, rfl, fun k => ?_, ?_, rfl⟩
  · obtain rfl | rfl := hi <;> rfl
  · change s.store.image.afterReset _ = _
    cases he : s.store.image with
    | blank => rfl
    | written content sum => rfl
    | saving content => exact absurd he (h content)
  · change s.store.image.afterReset _ = _ ∨ ∃ sum, _ ∧ s.store.image.afterReset _ = _
    rw [h, Image.afterReset]
    split
    · exact .inl rfl
    · exact .inr ⟨_, imageSum_eq content ▸ wrongSum_ne content _, rfl⟩
  · cases l <;> rfl
  · cases l <;> rfl
  · change (allInputs.foldl (fun (a : Vector AlarmInput 8) (i : Fin 8) => a.set i (resetAlarm s.alarms[i].level)) s.alarms)[j] = _
    fin_cases j <;> simp [allInputs, resetAlarm]
  · cases k <;> rfl
  · change resetLink (ap % 64) (sp % 4) = _
    rw [Nat.mod_eq_of_lt hap, Nat.mod_eq_of_lt hsp]; rfl

/-- 09 R180: the full reset of RESET_PART is one of RESETN with some levels of the strap pins. -/
theorem exists_resetFromLink (f : HostLink → HostLink) (s : State) :
    ∃ ap sp, ap < 64 ∧ sp < 4 ∧ resetFromLink (onLink f s) = fullReset ap sp s :=
  ⟨_, _, (Config.addressPins s.freeCount).isLt, (Config.speedPins s.freeCount).isLt, rfl⟩

/-- Settles O16: the reset of RESET_PART waits for the end of the reply. -/
theorem resetPartFollowsItsReply : Obligations.ResetPartFollowsItsReply := by
  intro s
  refine ⟨answers_of rfl (gated_taken rfl (by simp)), fun heard h => ?_, fun heard h hp => ?_, fun heard h hp => ?_⟩
  · change Host.Outcome.next (replyStart s) = _
    rw [replyStart, h]; rfl
  · change Host.Outcome.next (replySent s) = _
    rw [replySent, h]
    dsimp only
    rw [endReply, if_neg (by simp [onLink, hp])]; rfl
  · obtain ⟨ap, sp, hap, hsp, he⟩ :=
      exists_resetFromLink (fun k => { k with reply := none, receiver := if heard then .discarding else .idle }) s
    refine ⟨ap, sp, fullReset ap sp s, hap, hsp, ?_, rfl, rfl, rfl, rfl⟩
    change Host.Outcome.next (replySent s) = _
    rw [replySent, h]
    dsimp only
    rw [endReply, if_pos (by simp [onLink, hp]), he]

/-! ### Characters of the host (09 R181, R186) -/

theorem yields_hostCharacter (c : Character) (s : State) : Yields (.hostCharReceived c) s (hostCharacter c s) := rfl

/-- Settles O52: what a character does in each state of the receiver. -/
theorem hostCharactersFillTheFrame : Obligations.HostCharactersFillTheFrame := by
  intro s c k
  have key := yields_hostCharacter c s
  refine ⟨fun h hc => ?_, fun h hc => ?_, fun h hc hl => ?_, fun h hc => ?_, fun h => ?_, fun heard h hp => ?_,
    fun heard h hp => ?_, fun heard h => ?_⟩
  · rw [hostCharacter, h] at key
    simpa [HostLink.firstCharacter, hc, onLink] using key
  · rw [hostCharacter, h] at key
    simpa [HostLink.firstCharacter, hc, onLink] using key
  · rw [hostCharacter, h] at key
    simpa [HostLink.nextCharacter, hc, onLink, longestHostFrame, show s.link.frame.length < 246 from hl] using key
  · rw [hostCharacter, h] at key
    have hlost : (c.stopBit && decide (s.link.frame.length < longestHostFrame)) = false := by
      obtain hc | hc := hc
      · simp [hc]
      · have hfull : ¬ s.link.frame.length < longestHostFrame := Nat.not_lt.2 hc
        simp [hfull]
    simp only [HostLink.nextCharacter, hlost, onLink] at key
    exact key
  · rwa [hostCharacter, h] at key
  · rw [hostCharacter, h] at key
    dsimp only at key
    rw [discardReply, if_neg (by simp [onLink, show s.link.resetPending = false from hp])] at key
    cases hc : c.stopBit <;> simpa [HostLink.firstCharacter, hc, onLink] using key
  · obtain ⟨ap, sp, hap, hsp, he⟩ := exists_resetFromLink (fun k => { k with receiver := .idle, reply := none }) s
    refine ⟨ap, sp, fullReset ap sp s, hap, hsp, rfl, ?_⟩
    rw [hostCharacter, h] at key
    dsimp only at key
    rw [discardReply, if_pos (by simp [onLink, show s.link.resetPending = true from hp]), he] at key
    cases hc : c.stopBit <;> simpa [HostLink.firstCharacter, hc, onLink] using key
  · rwa [hostCharacter, h] at key

/-! ### The watermark and the time base (08 R172, R173, R178) -/

/-- Settles O51: the two settings, and the wrap of the time base. -/
theorem watermarkAndTimeAreSet : Obligations.WatermarkAndTimeAreSet := by
  refine ⟨fun s value => ⟨fun h => ?_, fun h h' => ?_⟩, fun s time h => ?_⟩
  · refine answers_of rfl ((?_ : setWatermark value s = badField 1 s).trans rfl)
    have hbad : inRange 1 32 value = false := (inRange_eq_false_iff 1 32 value).2 (by omega)
    simp [setWatermark, gated, anyMode, firstBad, hbad, List.findIdx?_cons]
  · refine answers_of rfl ((gated_taken rfl (by simp [inRange_of_le h h'])).trans ?_)
    simp only [done, deriveLines, derive_eq]
    rfl
  · have hmod : time % timeBaseSize = time := Nat.mod_eq_of_lt (by simp [timeBaseSize]; omega)
    have htake : takeTime time s = { s with reports := { s.reports with timeBase := time } } := by rw [takeTime, hmod]
    refine ⟨answers_of rfl ((gated_taken rfl (by simp)).trans ?_), ?_, rfl⟩
    · rw [← htake]; rfl
    · change Host.Outcome.next (takeTime time s) = _
      rw [htake]

/-! ### The validation (10 R201) -/

theorem valveOk_iff (m : NetworkMap) (e : Nat × ValveRec) : m.valveOk e = true ↔ m.ValveValid e.1 e.2 := by
  have hother (p : ActuatedPart) (x : Nat × ValveRec) :
      (match x.2.kind with
        | .actuated q => decide (q.line = p.line) && decide (q.address = p.address) && decide (q.channel = p.channel)
        | .manual => false) = false
      ↔ ∀ q, x.2.kind = .actuated q → ¬(q.line = p.line ∧ q.address = p.address ∧ q.channel = p.channel) := by
    cases x.2.kind with
    | manual => simp
    | actuated q => simp
  unfold NetworkMap.valveOk
  simp only [Bool.and_eq_true, Bool.or_eq_true, decide_eq_true_eq, bne_iff_ne, and_assoc]
  refine and_congr_right fun _ => and_congr_right fun _ => and_congr_right fun _ => ?_
  cases hk : e.2.kind with
  | manual => simp
  | actuated p =>
    simp only [Bool.and_eq_true, Bool.not_eq_true', List.any_eq_false, decide_eq_true_eq, not_and,
      Bool.not_eq_true, ValveKind.actuated.injEq, forall_eq']
    refine and_congr_right fun _ => forall₂_congr fun x _ => imp_congr_right fun _ => ?_
    exact (hother p x).trans (by simp only [not_and])

theorem stationOk_iff (m : NetworkMap) (key : Nat) : m.stationOk key = true ↔ m.StationValid key := by
  unfold NetworkMap.stationOk
  cases h : lineOfKey key <;> simp [NetworkMap.StationValid, h]

theorem alarmOk_iff (m : NetworkMap) (i : Fin 8) : m.alarmOk i = true ↔ m.AlarmValid i := by
  simp [NetworkMap.alarmOk, NetworkMap.AlarmValid]

/-- In a list that rises by a key, the first item found is the one of lowest key. -/
theorem find?_first {α : Type} {key : α → Nat} {xs : List α} (h : xs.Pairwise fun a b => key a < key b) {p : α → Bool} {x : α}
    (hx : xs.find? p = some x) : x ∈ xs ∧ p x = true ∧ ∀ y ∈ xs, key y < key x → p y = false := by
  obtain ⟨hp, before, after, rfl, hbefore⟩ := List.find?_eq_some_iff_append.1 hx
  refine ⟨by simp, hp, fun y hy hlt => ?_⟩
  have hafter := (List.pairwise_cons.1 (List.pairwise_append.1 h).2.1).1
  obtain hy | hy := List.mem_append.1 hy
  · simpa using hbefore y hy
  · obtain rfl | hy := List.mem_cons.1 hy
    · exact absurd hlt (Nat.lt_irrefl _)
    · exact absurd hlt (Nat.lt_asymm (hafter y hy))

theorem fault_none_iff (m : NetworkMap) : m.fault = none ↔ m.Valid := by
  have hall : ∀ i : Fin 8, i ∈ allInputs := by decide
  have : m.Valid ↔ (∀ e ∈ m.valves, m.valveOk e = true) ∧ (∀ k ∈ Table.keys m.stations, m.stationOk k = true)
      ∧ ∀ i ∈ allInputs, m.alarmOk i = true := by
    simp [NetworkMap.Valid, valveOk_iff, stationOk_iff, alarmOk_iff, Table.keys, hall]
  rw [this, NetworkMap.fault]
  split
  · next e hf =>
    have := List.find?_some hf
    simp only [reduceCtorEq, false_iff]
    intro h
    simp [h.1 e (List.mem_of_find?_eq_some hf)] at this
  · next k hv hf =>
    have := List.find?_some hf
    simp only [reduceCtorEq, false_iff]
    intro h
    simp [h.2.1 k (List.mem_of_find?_eq_some hf)] at this
  · next i hv hst hf =>
    have := List.find?_some hf
    simp only [reduceCtorEq, false_iff]
    intro h
    simp [h.2.2 i (List.mem_of_find?_eq_some hf)] at this
  · next hv hst ha => simpa using And.intro hv (And.intro hst ha)

/-- 10 R201: the record that is named is the first that fails. -/
theorem firstFault_of_fault {m : NetworkMap} (h : m.Sound) {kind identifier : Nat} (hf : m.fault = some (kind, identifier)) :
    m.FirstFault kind identifier := by
  obtain ⟨-, hvalves, hstations⟩ := h
  have hv : m.valves.find? (fun e => !m.valveOk e) = none → ∀ e ∈ m.valves, m.ValveValid e.1 e.2 := fun h e he => by
    simpa [valveOk_iff] using List.find?_eq_none.1 h e he
  have hst : (Table.keys m.stations).find? (fun k => !m.stationOk k) = none → ∀ e ∈ m.stations, m.StationValid e.1 :=
    fun h e he => by simpa [stationOk_iff] using List.find?_eq_none.1 h e.1 (List.mem_map_of_mem he)
  rw [NetworkMap.fault] at hf
  split at hf
  · next e he =>
    cases hf
    obtain ⟨hmem, hbad, hfirst⟩ := find?_first (List.pairwise_map.1 (show (m.valves.map (·.1)).Pairwise (· < ·) from hvalves)) he
    refine .inl ⟨rfl, ⟨e.2, hmem, fun hok => ?_⟩, fun x hx hlt => ?_⟩
    · rw [(valveOk_iff m e).2 hok] at hbad; cases hbad
    · simpa [valveOk_iff] using hfirst x hx hlt
  · next k hnv hk =>
    cases hf
    obtain ⟨hmem, hbad, hfirst⟩ := find?_first (key := id) hstations hk
    obtain ⟨e, he, rfl⟩ := List.mem_map.1 hmem
    refine .inr (.inl ⟨rfl, hv hnv, ⟨e.2, he, fun hok => ?_⟩, fun x hx hlt => ?_⟩)
    · rw [(stationOk_iff m e.1).2 hok] at hbad; cases hbad
    · simpa [stationOk_iff] using hfirst x.1 (List.mem_map_of_mem hx) hlt
  · next i hnv hns hi =>
    cases hf
    obtain ⟨hmem, hbad, hfirst⟩ := find?_first (key := Fin.val) (xs := allInputs) (by decide) hi
    refine .inr (.inr ⟨rfl, hv hnv, hst hns, i, rfl, fun hok => ?_, fun j hj => ?_⟩)
    · rw [(alarmOk_iff m i).2 hok] at hbad; cases hbad
    · have hall : ∀ i : Fin 8, i ∈ allInputs := by decide
      have := hfirst j (hall j) hj
      rwa [Bool.not_eq_false', alarmOk_iff] at this
  · cases hf

theorem validated_valid {act : State → Answer} {s : State} (h : s.map.Valid) : validated act s = act s := by
  rw [validated, (fault_none_iff s.map).2 h]

/-- Settles O13: the validation names the first record that fails. -/
theorem invalidMapIsNamedAndKept : Obligations.InvalidMapIsNamedAndKept := by
  intro s hm hb hs hbad
  cases hf : s.map.fault with
  | none => exact absurd ((fault_none_iff s.map).1 hf) hbad
  | some f =>
    obtain ⟨kind, identifier⟩ := f
    have hnamed (act : State → Answer) : validated act s = badRecord kind identifier s := by rw [validated, hf]
    refine ⟨kind, identifier, firstFault_of_fault hs hf, ?_, ?_⟩
    · exact answers_of rfl ((mapEdit_taken hm hb (by simp)).trans (hnamed _))
    · exact answers_of rfl ((mapEdit_taken hm hb (by simp)).trans (hnamed _))

/-! ### ENTER_CONFIG (10 R198) -/

theorem retimePolls_only (s : State) : retimePolls s = { s with control := (retimePolls s).control } := by
  unfold retimePolls
  split <;> rfl

/-- 05 R135: retiming changes the poll entries of a line only. -/
theorem retimePolls_control (s : State) (l : Line) :
    (retimePolls s).control.get l = { s.control.get l with schedule := ((retimePolls s).control.get l).schedule } := by
  unfold retimePolls
  split <;> cases l <;> rfl

/-- What is done line by line on line controllers and supplies leaves everything else. -/
theorem foldl_lines_only {f : State → Line → State}
    (h : ∀ s l, f s l = { s with control := (f s l).control, supply := (f s l).supply }) (ls : List Line) (s : State) :
    ls.foldl f s = { s with control := (ls.foldl f s).control, supply := (ls.foldl f s).supply } := by
  induction ls generalizing s with
  | nil => rfl
  | cons l ls ih =>
    have hu := h s l
    rw [List.foldl_cons]
    generalize f s l = u at hu
    refine (ih u).trans ?_
    generalize ls.foldl f u = w
    rw [hu]

/-- What each line's own part does to it, once for every line. -/
theorem lines_foldl {β : Type} {get : State → Line → β} {f : State → Line → State} {g : Line → β → β}
    (h : ∀ s l k, get (f s l) k = if k = l then g l (get s l) else get s k) (s : State) (l : Line) :
    get (allLines.foldl f s) l = g l (get s l) := by
  cases l <;> simp [allLines, h]

/-- 04 R118: the valves at the entry to QUIESCING. -/
def quiesceValves (s : State) : State := (Table.keys s.drive.valves).foldl (fun s v => onDyn v ValveDyn.quiesce s) s

/-- 05 R132, 06 R155: the lines at the entry to QUIESCING. -/
def quiesceLines (s : State) : State :=
  allLines.foldl (fun s l => onSupply l (fun u => { u with retryLeft := none }) (emptyUrgent l s)) s

theorem prepareQuiesce_eq (s : State) : prepareQuiesce s = quiesceLines (quiesceValves s) := rfl

theorem quiesceValves_only (s : State) :
    quiesceValves s = { s with drive := { s.drive with valves := (quiesceValves s).drive.valves } } :=
  foldl_onDyn_only (fun v => v) (fun _ => ValveDyn.quiesce) _ s

theorem quiesceLines_only (s : State) :
    quiesceLines s = { s with control := (quiesceLines s).control, supply := (quiesceLines s).supply } :=
  foldl_lines_only (fun _ _ => rfl) _ s

theorem quiesceLines_lines (s : State) (l : Line) :
    (quiesceLines s).supply.get l = { s.supply.get l with retryLeft := none }
      ∧ (quiesceLines s).control.get l = { s.control.get l with queue := [], refused := [] } :=
  ⟨lines_foldl (get := fun s l => s.supply.get l) (g := fun _ u => { u with retryLeft := none })
      (fun s l k => by simp [onSupply, emptyUrgent, onControl]) s l,
    lines_foldl (get := fun s l => s.control.get l) (g := fun _ c => { c with queue := [], refused := [] })
      (fun s l k => by simp [onSupply, emptyUrgent, onControl]) s l⟩

theorem prepareQuiesce_only (s : State) :
    prepareQuiesce s = { s with
      drive := { s.drive with valves := (prepareQuiesce s).drive.valves }
      control := (prepareQuiesce s).control, supply := (prepareQuiesce s).supply } := by
  rw [prepareQuiesce_eq]
  generalize hu : quiesceValves s = u
  have honly := quiesceValves_only s
  rw [hu] at honly
  rw [quiesceLines_only, honly]

/-- What the entry to QUIESCING makes of the lines. -/
theorem prepareQuiesce_lines (s : State) (l : Line) :
    (prepareQuiesce s).supply.get l = { s.supply.get l with retryLeft := none }
      ∧ ((prepareQuiesce s).control.get l).queue = []
      ∧ ((prepareQuiesce s).control.get l).exchange = (s.control.get l).exchange := by
  have hs : (quiesceValves s).supply = s.supply := by rw [quiesceValves_only]
  have hc : (quiesceValves s).control = s.control := by rw [quiesceValves_only]
  obtain ⟨h1, h2⟩ := quiesceLines_lines (quiesceValves s) l
  rw [hs] at h1
  rw [hc] at h2
  rw [prepareQuiesce_eq]
  exact ⟨h1, by rw [h2], by rw [h2]⟩

theorem dyn_prepareQuiesce (s : State) (v : Nat) : (prepareQuiesce s).dyn v = (s.dyn v).quiesce := by
  have hd : (quiesceLines (quiesceValves s)).drive = (quiesceValves s).drive := by rw [quiesceLines_only]
  rw [prepareQuiesce_eq, State.dyn, hd]
  exact dyn_foldl_keys (f := ValveDyn.quiesce) (fun _ => rfl) rfl (s := s) rfl v

theorem quiesceDone_silent {s : State} (hm : s.store.mode = .quiescing) (h : ∀ l, (s.control.get l).exchange = none) :
    quiesceDone s = changeMode .config s := by
  rw [quiesceDone, if_pos ⟨hm, by simp [h]⟩]

theorem mem_allLines (l : Line) : l ∈ allLines := by cases l <;> decide

theorem quiesceDone_waits {s : State} (h : ¬∀ l, (s.control.get l).exchange = none) : quiesceDone s = s := by
  rw [quiesceDone, if_neg]
  rintro ⟨-, hall⟩
  exact h fun l => by simpa using List.all_eq_true.1 hall l (mem_allLines l)

/-- Settles O11: the valves and the lines fall silent, and CONFIG follows when nothing is in flight. -/
theorem enterConfigQuiescesTheLines : Obligations.EnterConfigQuiescesTheLines := by
  intro s hm
  have htaken (act : State → Answer) : gated inRun [] act s = act s := gated_taken (by rw [hm]; rfl) (by simp)
  refine ⟨fun h => answers_of rfl ((htaken _).trans (if_neg (by simpa using h))), fun h => ?_⟩
  intro quiesced silent
  have hanswer : Answers .enterConfig s 0x10#8 .accepted [] (beginQuiesce s) :=
    answers_of rfl ((htaken _).trans (if_pos (by simp [h])))
  set u := retimePolls (prepareQuiesce (changeMode .quiescing s)) with hu
  have hdyn (v : Nat) : u.dyn v = (s.dyn v).quiesce := by
    rw [hu, retimePolls_only]; exact dyn_prepareQuiesce _ v
  have hlines (l : Line) : u.supply.get l = { s.supply.get l with retryLeft := none } ∧ (u.control.get l).queue = []
      ∧ (u.control.get l).exchange = (s.control.get l).exchange := by
    obtain ⟨h1, h2, h3⟩ := prepareQuiesce_lines (changeMode .quiescing s) l
    refine ⟨?_, ?_, ?_⟩
    · rw [hu, retimePolls_only]; exact h1
    · rw [hu, retimePolls_control]; exact h2
    · rw [hu, retimePolls_control]; exact h3
  have honly : u = { s with
      store := { s.store with mode := .quiescing }, reports := quiesced
      drive := { s.drive with valves := u.drive.valves }, control := u.control, supply := u.supply } := by
    have hq : (changeMode .quiescing s).reports = quiesced := by simp only [changeMode, raise, hm]; rfl
    rw [← hq, hu, retimePolls_only, prepareQuiesce_only]; rfl
  have hsame (l : Line) : (u.control.get l).exchange = none ↔ (s.control.get l).exchange = none := by rw [(hlines l).2.2]
  by_cases hs : silent
  · have hdone : beginQuiesce s = changeMode .config u :=
      quiesceDone_silent (hu ▸ congrArg (fun t => t.store.mode) honly) fun l => (hsame l).2 (hs l)
    rw [hdone] at hanswer
    have hreports : (changeMode .config u).reports = quiesced.raise ⟨.modeChanged, s.reports.timeBase, .part, 3, [some 2]⟩ := by
      rw [honly]; simp [changeMode, raise, quiesced, State.raised, Mode.code]
    refine ⟨_, hanswer, hdyn, fun l => (hlines l).1, fun l => (hlines l).2, fun _ => ⟨by rw [honly]; rfl, hreports⟩,
      fun h => absurd hs h, ?_⟩
    have hchange : changeMode .config u = { u with
        store := (changeMode .config u).store, reports := (changeMode .config u).reports } := rfl
    rw [hchange]
    generalize (changeMode .config u).store = st, (changeMode .config u).reports = r
    rw [honly]
  · have hdone : beginQuiesce s = u := quiesceDone_waits fun h => hs fun l => (hsame l).1 (h l)
    rw [hdone] at hanswer
    refine ⟨_, hanswer, hdyn, fun l => (hlines l).1, fun l => (hlines l).2, fun h => absurd h hs,
      fun _ => ⟨by rw [honly], by rw [honly]⟩, ?_⟩
    rw [honly]

end Sys2Proof.Machine
end

section
/-! PROOFS. The entry to RUN, the save and the load: O12 and O14 (10, sections 10.2, 10.4 and 10.5). -/

namespace Sys2Proof.Machine

open Sys2Proof

/-! ### The states set at the entry to RUN (10 R202) -/

/-- 01 R10: every line's settings take effect. -/
def adoptAll (s : State) : State := allLines.foldl (fun s l => adoptSettings l s) s

/-- 04 R85: every line's positions become UNKNOWN. -/
def forgetAll (s : State) : State := allLines.foldl (fun s l => forgetPositions l s) s

/-- 06 R155: every line's supply. -/
def supplyAll (s : State) : State :=
  allLines.foldl (fun s l => onSupply l (fun u => u.enterRun (s.map.lines.get l).enabled) s) s

/-- 05 R133: every line's schedule. -/
def fillAll (s : State) : State := allLines.foldl (fun s l => fillSchedule l s) s

theorem prepareRun_eq (s : State) : prepareRun s = fillAll (supplyAll (freshStations (forgetAll (adoptAll s)))) := rfl

theorem adoptAll_only (s : State) : adoptAll s = { s with control := (adoptAll s).control } := rfl

theorem adoptAll_control (s : State) (l : Line) : (adoptAll s).control.get l
    = { s.control.get l with enabled := (s.map.lines.get l).enabled, speed := (s.map.lines.get l).speed } := by
  cases l <;> rfl

theorem supplyAll_only (s : State) : supplyAll s = { s with supply := (supplyAll s).supply } := rfl

theorem supplyAll_supply (s : State) (l : Line) :
    (supplyAll s).supply.get l = (s.supply.get l).enterRun (s.map.lines.get l).enabled := by
  cases l <;> rfl

theorem fillAll_only (s : State) : fillAll s = { s with control := (fillAll s).control } := rfl

/-- 05 R133: one entry per present station of the line, due at once, and no urgent exchange yet. -/
theorem fillAll_control (s : State) (l : Line) :
    (fillAll s).control.get l = { s.control.get l with
        urgentCount := 0, schedule := ((fillAll s).control.get l).schedule }
      ∧ ((fillAll s).control.get l).schedule.map (fun e => (e.address, e.probe, e.last, e.due))
        = ((Table.keys s.map.stations).filter fun k => lineOfKey k = some l).map
            fun k => (k % 256, false, none, s.elapsed) := by
  have h : (fillAll s).control.get l = { s.control.get l with
      urgentCount := 0
      schedule := ((Table.keys s.map.stations).filter fun k => lineOfKey k = some l).map fun k =>
        { address := k % 256, probe := false, last := none, due := s.elapsed, interval := s.interval l (k % 256) } } := by
    cases l <;> rfl
  exact ⟨by rw [h], by rw [h]; simp⟩

theorem forgetPositions_only (l : Line) (s : State) :
    forgetPositions l s = { s with drive := { s.drive with valves := (forgetPositions l s).drive.valves } } :=
  foldl_onDyn_only (α := Nat × ActuatedPart) Prod.fst (fun _ d => { d with position := none }) (s.valvesOfLine l) s

theorem dyn_forgetPositions (l : Line) (s : State) (v : Nat) :
    (forgetPositions l s).dyn v
      = if v ∈ (s.valvesOfLine l).map (·.1) then { s.dyn v with position := none } else s.dyn v :=
  dyn_foldl_idempotent (α := Nat × ActuatedPart) Prod.fst (f := fun d => { d with position := none }) (fun _ => rfl) _ s v

theorem mem_valvesOfLine_ids {s : State} (h : Table.Wf s.map.valves) {l : Line} {v : Nat} :
    v ∈ (s.valvesOfLine l).map (·.1) ↔ ∃ p, s.actuated v = some p ∧ p.line = l := by
  simp [mem_valvesOfLine h]

theorem forgetAll_only (s : State) :
    forgetAll s = { s with drive := { s.drive with valves := (forgetAll s).drive.valves } } := by
  have h (ls : List Line) (s : State) : ls.foldl (fun s l => forgetPositions l s) s
      = { s with drive := { s.drive with valves := (ls.foldl (fun s l => forgetPositions l s) s).drive.valves } } := by
    induction ls generalizing s with
    | nil => rfl
    | cons l ls ih =>
      have hu := forgetPositions_only l s
      rw [List.foldl_cons]
      generalize forgetPositions l s = u at hu
      refine (ih u).trans ?_
      generalize ls.foldl (fun s l => forgetPositions l s) u = w
      rw [hu]
  exact h allLines s

/-- 04 R85: every ACTUATED valve's position is UNKNOWN. -/
theorem dyn_forgetAll {s : State} (h : Table.Wf s.map.valves) (v : Nat) :
    (forgetAll s).dyn v = if (s.actuated v).isSome then { s.dyn v with position := none } else s.dyn v := by
  have hls (ls : List Line) (u : State) (hu : u.map = s.map) :
      (ls.foldl (fun s l => forgetPositions l s) u).dyn v
        = if ∃ p, s.actuated v = some p ∧ p.line ∈ ls then { u.dyn v with position := none } else u.dyn v := by
    induction ls generalizing u with
    | nil => simp
    | cons l ls ih =>
      have hmap : (forgetPositions l u).map = s.map := by rw [forgetPositions_only]; exact hu
      have hids : v ∈ (u.valvesOfLine l).map (·.1) ↔ ∃ p, s.actuated v = some p ∧ p.line = l := by
        rw [mem_valvesOfLine_ids (by rw [hu]; exact h)]
        simp only [State.actuated, hu]
      rw [List.foldl_cons, ih _ hmap, dyn_forgetPositions]
      cases hp : s.actuated v with
      | none => simp [hids, hp]
      | some p => by_cases h1 : p.line = l <;> by_cases h2 : p.line ∈ ls <;> simp [hids, hp, h1, h2]
  rw [forgetAll, hls allLines s rfl]
  cases s.actuated v <;> simp [mem_allLines]

/-- What the entry to RUN has set before the deferred declarations are taken. -/
structure PreparedRun (s t : State) : Prop where
  only : t = { s with
    drive := { s.drive with valves := t.drive.valves }
    control := t.control, supply := t.supply, stations := t.stations }
  dyn : ∀ v, t.dyn v = if (s.actuated v).isSome then { s.dyn v with position := none } else s.dyn v
  stations : t.stations = s.map.stations.map fun e => (e.1, freshStation)
  supply : ∀ l, t.supply.get l = (s.supply.get l).enterRun (s.map.lines.get l).enabled
  control : ∀ l, t.control.get l = { s.control.get l with
    enabled := (s.map.lines.get l).enabled, speed := (s.map.lines.get l).speed
    urgentCount := 0, schedule := (t.control.get l).schedule }
  schedule : ∀ l, (t.control.get l).schedule.map (fun e => (e.address, e.probe, e.last, e.due))
    = ((Table.keys s.map.stations).filter fun k => lineOfKey k = some l).map fun k => (k % 256, false, none, s.elapsed)

theorem preparedRun {s : State} (h : Table.Wf s.map.valves) : PreparedRun s (prepareRun s) := by
  have hadopt := adoptAll_control s
  have hadoptOnly := adoptAll_only s
  rw [prepareRun_eq]
  generalize adoptAll s = a at hadopt hadoptOnly ⊢
  have ha : a.map = s.map ∧ a.supply = s.supply ∧ a.drive = s.drive ∧ a.elapsed = s.elapsed := by rw [hadoptOnly]; simp
  have hforget := dyn_forgetAll (s := a) (by rw [ha.1]; exact h)
  have hforgetOnly := forgetAll_only a
  generalize forgetAll a = b at hforget hforgetOnly ⊢
  have hb : b.map = s.map ∧ b.supply = s.supply ∧ b.control = a.control ∧ b.elapsed = s.elapsed := by
    rw [hforgetOnly]; exact ⟨ha.1, ha.2.1, rfl, ha.2.2.2⟩
  have hsupply := supplyAll_supply (freshStations b)
  have hsupplyOnly := supplyAll_only (freshStations b)
  generalize supplyAll (freshStations b) = c at hsupply hsupplyOnly ⊢
  have hc : c.map = s.map ∧ c.control = a.control ∧ c.drive = b.drive ∧ c.elapsed = s.elapsed
      ∧ c.stations = s.map.stations.map fun e => (e.1, freshStation) := by
    rw [hsupplyOnly]; exact ⟨hb.1, hb.2.2.1, rfl, hb.2.2.2, by rw [← hb.1]; rfl⟩
  have hfill := fillAll_control c
  have hfillOnly := fillAll_only c
  generalize fillAll c = t at hfill hfillOnly ⊢
  have ht : t.drive = b.drive ∧ t.supply = c.supply ∧ t.stations = c.stations := by
    rw [hfillOnly]; exact ⟨hc.2.2.1, rfl, rfl⟩
  refine ⟨?_, fun v => ?_, ht.2.2.trans hc.2.2.2.2, fun l => ?_, fun l => ?_, fun l => ?_⟩
  · rw [hfillOnly, hsupplyOnly, freshStations, hforgetOnly, hadoptOnly]
  · have hdyn : t.dyn v = b.dyn v := by rw [State.dyn, ht.1]; rfl
    have hact : a.actuated v = s.actuated v := by simp only [State.actuated, ha.1]
    have hsame : a.dyn v = s.dyn v := by rw [State.dyn, ha.2.2.1]; rfl
    rw [hdyn, hforget, hact, hsame]
  · rw [ht.2.1, hsupply]
    change (b.supply.get l).enterRun (b.map.lines.get l).enabled = _
    rw [hb.1, hb.2.1]
  · rw [(hfill l).1, hc.2.1, hadopt]
  · rw [(hfill l).2, hc.1, hc.2.2.2.1]

/-! ### The deferred declarations (07 R166) -/

/-- What a declaration from an input can write. -/
theorem alarmDeclaration_only (i : Fin 8) (deferred : Bool) (s : State) :
    alarmDeclaration i deferred s = { s with
      engine := (alarmDeclaration i deferred s).engine, planner := (alarmDeclaration i deferred s).planner
      reports := (alarmDeclaration i deferred s).reports } := by
  cases ha : s.absorber s.map.alarms[i].segment with
  | some y => rw [alarmDeclaration_absorbed ha]
  | none =>
    cases hf : s.freeSlot? with
    | none => rw [alarmDeclaration_noRoom ha hf]
    | some k => rw [alarmDeclaration_created ha hf]

/-- 07 R166: an input's flag cleared. -/
abbrev State.undeferred (s : State) (i : Fin 8) : State :=
  { s with alarms := s.alarms.set i { s.alarms[i] with deferred := false } }

theorem takeDeferred_kept {s : State} {i : Fin 8} (h : s.alarms[i].deferred = false) : takeDeferred s i = s := by
  rw [takeDeferred, h]; rfl

theorem takeDeferred_declared {s : State} {i : Fin 8} (h : s.alarms[i].deferred = true)
    (hd : s.map.alarms[i].action = .declare ∧ s.map.alarms[i].segment ≠ 0) :
    takeDeferred s i = alarmDeclaration i true (s.undeferred i) := by
  rw [takeDeferred, if_pos h]
  exact if_pos hd

theorem takeDeferred_cancelled {s : State} {i : Fin 8} (h : s.alarms[i].deferred = true)
    (hd : ¬(s.map.alarms[i].action = .declare ∧ s.map.alarms[i].segment ≠ 0)) :
    takeDeferred s i = { s.undeferred i with
      reports := s.reports.raise (s.alarmReport i 5 s.map.alarms[i].segment 0 1) } := by
  rw [takeDeferred, if_pos h]
  refine (if_neg hd).trans ?_
  simp [raiseAlarm, raise, alarmCancelled, flagCode, State.alarmReport, onAlarm]

theorem takeDeferred_only (s : State) (i : Fin 8) :
    takeDeferred s i = { s.undeferred i with
      engine := (takeDeferred s i).engine, planner := (takeDeferred s i).planner
      reports := (takeDeferred s i).reports } := by
  cases h : s.alarms[i].deferred with
  | false =>
    have hsame : s.alarms.set i { s.alarms[i] with deferred := false } = s.alarms := by
      rw [← h]; exact Vector.set_getElem_self _
    rw [takeDeferred_kept h, State.undeferred, hsame]
  | true =>
    by_cases hd : s.map.alarms[i].action = .declare ∧ s.map.alarms[i].segment ≠ 0
    · rw [takeDeferred_declared h hd]; exact alarmDeclaration_only _ _ _
    · rw [takeDeferred_cancelled h hd]

theorem takeDeferreds_only (s : State) :
    takeDeferreds s = { s with
      engine := (takeDeferreds s).engine, planner := (takeDeferreds s).planner
      alarms := (takeDeferreds s).alarms, reports := (takeDeferreds s).reports } := by
  have h (is : List (Fin 8)) (s : State) : is.foldl takeDeferred s = { s with
      engine := (is.foldl takeDeferred s).engine, planner := (is.foldl takeDeferred s).planner
      alarms := (is.foldl takeDeferred s).alarms, reports := (is.foldl takeDeferred s).reports } := by
    induction is generalizing s with
    | nil => rfl
    | cons i is ih =>
      have hu := takeDeferred_only s i
      rw [List.foldl_cons]
      generalize takeDeferred s i = u at hu
      refine (ih u).trans ?_
      generalize is.foldl takeDeferred u = w
      rw [hu]
  exact h allInputs s

theorem takeDeferreds_alarms (s : State) (i : Fin 8) :
    (takeDeferreds s).alarms[i] = { s.alarms[i] with deferred := false } :=
  alarms_foldl (f := takeDeferred) (g := fun _ x => { x with deferred := false })
    (fun s i => by rw [takeDeferred_only]) s i

/-- 07 R166: what one input's deferred declaration comes to. -/
theorem deferredTaken {s : State} (hs : s.SlotsSound) (hp : s.PlannerSound) (i : Fin 8) :
    DeferredTaken i s (takeDeferred s i) := by
  cases h : s.alarms[i].deferred with
  | false => exact .kept h (takeDeferred_kept h)
  | true =>
    by_cases hd : s.map.alarms[i].action = .declare ∧ s.map.alarms[i].segment ≠ 0
    · rw [takeDeferred_declared h hd]
      exact .declared h hd.1 hd.2 (alarmDeclares (s := s.undeferred i) hs hp hd.2 true)
    · exact .cancelled h hd (takeDeferred_cancelled h hd)

theorem through_takeDeferreds {s : State} (hs : s.SlotsSound) (hp : s.PlannerSound) (hm : s.store.mode = .run) :
    Through DeferredTaken allInputs s (takeDeferreds s) :=
  through_foldl (P := fun s => s.SlotsSound ∧ s.PlannerSound ∧ s.store.mode = .run)
    (fun s i ⟨hs, hp, hm⟩ =>
      ⟨deferredTaken hs hp i, ((keeps_takeDeferred hm i).engine hs).slots, ((keeps_takeDeferred hm i).engine hs).planner hp,
        by rw [mode_takeDeferred]; exact hm⟩) _ ⟨hs, hp, hm⟩

/-- The entry to RUN. -/
structure EnteredRun (s t : State) : Prop where
  store : t.store = { s.store with mode := .run }
  map : t.map = s.map
  dyn : ∀ v, t.dyn v = if (s.actuated v).isSome then { s.dyn v with position := none } else s.dyn v
  stations : t.stations = s.map.stations.map fun e => (e.1, freshStation)
  supply : ∀ l, t.supply.get l = (s.supply.get l).enterRun (s.map.lines.get l).enabled
  control : ∀ l, t.control.get l = { s.control.get l with
    enabled := (s.map.lines.get l).enabled, speed := (s.map.lines.get l).speed
    urgentCount := 0, schedule := (t.control.get l).schedule }
  schedule : ∀ l, (t.control.get l).schedule.map (fun e => (e.address, e.probe, e.last, e.due))
    = ((Table.keys s.map.stations).filter fun k => lineOfKey k = some l).map fun k => (k % 256, false, none, s.elapsed)
  alarms : ∀ i : Fin 8, t.alarms[i] = { s.alarms[i] with deferred := false }
  deferreds : Through DeferredTaken allInputs
    { t with engine := s.engine, planner := s.planner, alarms := s.alarms
             reports := s.raised .modeChanged .part 1 [some s.store.mode.code] } t
  link : t.link = s.link
  elapsed : t.elapsed = s.elapsed

theorem enteredRun {s : State} (h : Table.Wf s.map.valves) (hs : s.SlotsSound) (hp : s.PlannerSound) :
    EnteredRun s (enterRun s) := by
  have hprep := preparedRun (s := changeMode .run s) h
  rw [enterRun]
  generalize prepareRun (changeMode .run s) = u at hprep
  have hslots : u.engine = s.engine ∧ u.planner = s.planner ∧ u.alarms = s.alarms
      ∧ u.store = { s.store with mode := .run } ∧ u.map = s.map ∧ u.link = s.link ∧ u.elapsed = s.elapsed
      ∧ u.reports = s.raised .modeChanged .part 1 [some s.store.mode.code] := by
    rw [hprep.only]; exact ⟨rfl, rfl, rfl, rfl, rfl, rfl, rfl, rfl⟩
  obtain ⟨hengine, hplanner, halarms, hstore, hmap, hlink, helapsed, hreports⟩ := hslots
  have hus : u.SlotsSound := by unfold State.SlotsSound; rw [hengine]; exact hs
  have hup : u.PlannerSound := by unfold State.PlannerSound; rw [hengine, hplanner]; exact hp
  have hthrough := through_takeDeferreds hus hup (by rw [hstore])
  have halarm := takeDeferreds_alarms u
  have honly := takeDeferreds_only u
  generalize takeDeferreds u = t at hthrough halarm honly
  have hkept : t.store = u.store ∧ t.map = u.map ∧ t.drive = u.drive ∧ t.stations = u.stations ∧ t.supply = u.supply
      ∧ t.control = u.control ∧ t.link = u.link ∧ t.elapsed = u.elapsed := by
    rw [honly]; exact ⟨rfl, rfl, rfl, rfl, rfl, rfl, rfl, rfl⟩
  obtain ⟨h1, h2, h3, h4, h5, h6, h7, h8⟩ := hkept
  have hmiddle : { t with engine := s.engine, planner := s.planner, alarms := s.alarms
                          reports := s.raised .modeChanged .part 1 [some s.store.mode.code] } = u := by
    rw [honly, ← hengine, ← hplanner, ← halarms, ← hreports]
  refine ⟨h1.trans hstore, h2.trans hmap, fun v => ?_, h4.trans hprep.stations, fun l => by rw [h5]; exact hprep.supply l,
    fun l => by rw [h6]; exact hprep.control l, fun l => by rw [h6]; exact hprep.schedule l,
    fun i => by rw [halarm, halarms], by rw [hmiddle]; exact hthrough, h7.trans hlink, h8.trans helapsed⟩
  rw [State.dyn, h3]; exact hprep.dyn v

/-- Settles O12: the entry to RUN from CONFIG. -/
theorem leaveConfigEntersRun : Obligations.LeaveConfigEntersRun := by
  intro s hm hb hsound hvalid hidle hs hp
  have h := enteredRun hsound.2.1 hs hp
  have hanswer : Answers .leaveConfig s 0x11#8 .done [] (enterRun s) := by
    refine answers_of rfl ((mapEdit_taken hm hb (by simp)).trans ((validated_valid hvalid).trans ?_))
    rfl
  have hdeferreds := h.deferreds
  rw [hm] at hdeferreds
  refine ⟨enterRun s, hanswer, h.store, h.map, h.dyn, h.stations, fun l hl => ?_, fun l hl => ?_, fun l => ?_, fun l => ?_,
    h.alarms, hdeferreds, h.link, h.elapsed⟩
  · rw [h.supply, hl]; rfl
  · rw [h.supply, hl]; exact ⟨rfl, rfl, rfl⟩
  · rw [h.control]; exact ⟨rfl, rfl⟩
  · refine ⟨?_, h.schedule l, ?_, ?_⟩
    all_goals rw [h.control]

/-! ### The save and the load (10 R197, R200) -/

theorem InputJudged.only {before : State} {i : Fin 8} {s t : State} (h : InputJudged before i s t) :
    t = { s with alarms := t.alarms, reports := t.reports } := by
  cases h with
  | same _ h => rw [h]
  | reported _ _ _ h => rw [h]
  | deferred _ _ _ h => rw [h]
  | deasserted _ _ h => rw [h]

theorem judgeAlarms_only (before : State) {s : State} (hm : s.store.mode ≠ .run) :
    judgeAlarms before s = { s with
      alarms := (judgeAlarms before s).alarms, reports := (judgeAlarms before s).reports } := by
  have h (is : List (Fin 8)) (s : State) (hm : s.store.mode ≠ .run) :
      is.foldl (fun s i => judgeAlarm i before s) s = { s with
        alarms := (is.foldl (fun s i => judgeAlarm i before s) s).alarms
        reports := (is.foldl (fun s i => judgeAlarm i before s) s).reports } := by
    induction is generalizing s with
    | nil => rfl
    | cons i is ih =>
      have hu := (inputJudged_judgeAlarm (i := i) (before := before) hm).only
      rw [List.foldl_cons]
      generalize judgeAlarm i before s = u at hu
      refine (ih u (by rw [hu]; exact hm)).trans ?_
      generalize is.foldl (fun s i => judgeAlarm i before s) u = w
      rw [hu]
  exact h allInputs s hm

theorem placeValves_only (s : State) :
    placeValves s = { s with drive := { s.drive with valves := (placeValves s).drive.valves } } :=
  foldl_onDyn_only (α := Nat × ValveRec) Prod.fst (fun e d => dynAfterPut d e.2) s.map.valves s

theorem dyn_placeValves {s : State} (h : Table.Wf s.map.valves) {v : Nat} {r : ValveRec}
    (hr : Table.get s.map.valves v = some r) : (placeValves s).dyn v = dynAfterPut (s.dyn v) r := by
  rw [placeValves, dyn_foldl_table (fun r d => dynAfterPut d r) h, hr]

/-- 10 R197: a valid image is taken and RUN is entered. -/
theorem loadValid_spec {s : State} {content : NetworkMap} (hm : s.store.mode = .starting) (hc : content.Sound)
    (hs : s.SlotsSound) (hp : s.PlannerSound) :
    ∃ w, w = { s with map := content, drive := w.drive, alarms := w.alarms, reports := w.reports }
      ∧ (∀ v r, Table.get content.valves v = some r → w.dyn v = dynAfterPut (s.dyn v) r)
      ∧ Through (InputJudged s) allInputs { s with map := content, drive := w.drive } w
      ∧ EnteredRun w (loadValid content s) := by
  have hplace (v : Nat) (r : ValveRec) (hr : Table.get content.valves v = some r) :
      (placeValves { s with map := content }).dyn v = dynAfterPut (s.dyn v) r :=
    dyn_placeValves (s := { s with map := content }) hc.2.1 hr
  have hplaceOnly := placeValves_only { s with map := content }
  generalize hp0 : placeValves { s with map := content } = p at hplace hplaceOnly
  have hpm : p.store.mode ≠ .run := by rw [hplaceOnly]; simp [hm]
  have hthrough := through_judgeAlarms s hpm
  have honly := judgeAlarms_only s hpm
  have hload : loadValid content s = enterRun (judgeAlarms s p) := by rw [← hp0]; rfl
  rw [hload]
  generalize judgeAlarms s p = w at hthrough honly
  have hd : w.drive = p.drive := by rw [honly]
  have hwonly : w = { s with map := content, drive := w.drive, alarms := w.alarms, reports := w.reports } := by
    rw [honly, hplaceOnly]
  have hpeq : p = { s with map := content, drive := w.drive } := by rw [hd, hplaceOnly]
  refine ⟨w, hwonly, fun v r hr => ?_, hpeq ▸ hthrough, enteredRun ?_ ?_ ?_⟩
  · rw [State.dyn, hd]; exact hplace v r hr
  · rw [hwonly]; exact hc.2.1
  · rw [hwonly]; exact hs
  · rw [hwonly]; exact hp

theorem loadInvalid_eq (detail : Nat) (s : State) :
    loadInvalid detail s = { s with
      map := emptyMap, store := { s.store with mode := .config }
      reports := (s.raised .mapInvalid .part detail []).raise
        ⟨.modeChanged, s.reports.timeBase, .part, 3, [some s.store.mode.code]⟩ } := by
  simp [loadInvalid, changeMode, raise, State.raised, Mode.code]

theorem yields_loadComplete {s : State} (hm : s.store.mode = .starting) : Yields .loadComplete s (completeLoad s) := by
  change Host.Outcome.next _ = _
  rw [if_pos hm]

/-- Settles O14: the save, its completion, and the three outcomes of the load. -/
theorem theImageIsSavedAndLoaded : Obligations.TheImageIsSavedAndLoaded := by
  refine ⟨fun s => ⟨fun hm hb hs hv => ?_, fun content h => ?_, fun h => ?_⟩,
    fun s hm => ⟨fun h => ?_, fun content sum h hsum => ?_, fun content h hc hi hs hp => ?_⟩⟩
  · have hstore : s.store = ⟨.config, s.store.busy, s.store.image⟩ := by rw [← hm]
    refine answers_of rfl ((mapEdit_taken hm hb (by simp)).trans ((validated_valid hv).trans ?_))
    rw [beginSave, hstore]
  · change Host.Outcome.next (endSave s) = _
    rw [endSave, h]
    dsimp only
    rw [imageSum_eq]; rfl
  · change Host.Outcome.next (endSave s) = _
    rw [endSave]
    split
    · next content he => exact absurd he (h content)
    · rfl
  · have key := yields_loadComplete hm
    rw [completeLoad, h] at key
    dsimp only at key
    rw [loadInvalid_eq, hm] at key
    exact key
  · have key := yields_loadComplete hm
    rw [completeLoad, h] at key
    dsimp only at key
    rw [if_neg (by rwa [imageSum_eq]), loadInvalid_eq, hm] at key
    exact key
  · have key := yields_loadComplete hm
    rw [completeLoad, h] at key
    dsimp only at key
    rw [if_pos (imageSum_eq content).symm] at key
    obtain ⟨w, hw, hdyn, hthrough, hrun⟩ := loadValid_spec hm hc hs hp
    generalize loadValid content s = t at key hrun
    have hfields : w.store = s.store ∧ w.map = content ∧ w.engine = s.engine ∧ w.planner = s.planner ∧ w.link = s.link
        ∧ w.elapsed = s.elapsed := by
      rw [hw]; exact ⟨rfl, rfl, rfl, rfl, rfl, rfl⟩
    obtain ⟨hwstore, hwmap, hwengine, hwplanner, hwlink, hwelapsed⟩ := hfields
    have hdeferreds := hrun.deferreds
    rw [hwstore, hm, hwengine, hwplanner] at hdeferreds
    refine ⟨t, w, key, hrun.map.trans hwmap, by rw [hrun.store, hwstore], fun v r hr p hk => ?_, fun v r hr hk => ?_, hthrough,
      by rw [hrun.stations, hwmap]; rfl, fun l => ?_, fun l hl => ?_, fun l hl => ?_, hdeferreds, hrun.link.trans hwlink,
      hrun.elapsed.trans hwelapsed⟩
    · have hact : w.actuated v = some p := by rw [actuated_eq_some, hwmap]; exact ⟨r, hr, hk⟩
      rw [hrun.dyn, hact, if_pos Option.isSome_some, hdyn v r hr, dynAfterPut, hk]; rfl
    · have hact : w.actuated v = none := by
        rw [State.actuated, hwmap, hr]; simp only [hk]
      rw [hrun.dyn, hact, if_neg (by simp), hdyn v r hr, dynAfterPut, hk]
      cases r.normal <;> simp [manualPosition]
    · rw [hrun.control, hwmap]; exact ⟨rfl, rfl⟩
    · rw [hrun.supply, hwmap, hl]; exact ⟨rfl, rfl, rfl⟩
    · rw [hrun.supply, hwmap, hl]; rfl

end Sys2Proof.Machine
end

section
/-! PROOFS. The READ requests: O17, O18 and O19 (01 R23; 03 R83; 04 R120; 05 R141; 06 R158, R159; 09, section 9.6). -/

namespace Sys2Proof.Machine

open Sys2Proof

/-! ### Pages (01 R23, 09 R188) -/

theorem pageBytes_page (items : List Nat) (start : Nat) :
    pageBytes (page items start) = be1 (min 100 (items.length - start)) ++ ((items.drop start).take 100).flatMap be2 := by
  simp [pageBytes, page]

theorem beFlag_eq (b : Bool) : beFlag b = be1 (if b then 1 else 0) := rfl

theorem beFlag_decide (p : Prop) [Decidable p] : beFlag (decide p) = be1 (if p then 1 else 0) := by
  simp [beFlag, flagCode]

/-- Settles O17: a page of the list from the start index. -/
theorem readSegmentAndPlanReturnPages : Obligations.ReadSegmentAndPlanReturnPages := by
  constructor
  · intro s segment start r hm h1 h2 hr
    have hafter : afterStart s.store.mode = true := by cases h : s.store.mode <;> simp_all [afterStart]
    intro ids
    have hids : Table.keys (s.map.incidence segment) = ids := rfl
    refine ⟨fun hstart => ?_, fun hstart => ?_⟩
    · refine answers_of rfl ((gated_taken hafter (by simp [inRange_of_le h1 h2])).trans ?_)
      dsimp only
      rw [hr]
      dsimp only
      rw [hids, if_neg (by omega), pageBytes_page, beFlag_eq, beFlag_eq]
      simp
    · refine answers_of rfl ((gated_taken hafter (by simp [inRange_of_le h1 h2])).trans ?_)
      dsimp only
      rw [hr]
      dsimp only
      rw [hids, if_pos hstart]; rfl
  · intro s slot start list inc items hm hs hinc hlist
    have hfound : s.incident inc.number = some (slot, inc) := incident_of_slot hs (Table.get_of_mem hs.wf hinc)
    have hle : list ≤ 3 := by omega
    have hitems : inc.listOf list = items := by obtain ⟨rfl, rfl⟩ | ⟨rfl, rfl⟩ | ⟨rfl, rfl⟩ | ⟨rfl, rfl⟩ := hlist <;> rfl
    refine ⟨fun hstart => ?_, fun hstart => ?_⟩
    · refine answers_of rfl ((gated_taken (by rw [hm]; rfl) (by simp [inRange_of_atMost hle])).trans ?_)
      rw [hfound]
      dsimp only
      rw [hitems, if_neg (by omega), pageBytes_page]
      simp
    · refine answers_of rfl ((gated_taken (by rw [hm]; rfl) (by simp [inRange_of_atMost hle])).trans ?_)
      rw [hfound]
      dsimp only
      rw [hitems, if_pos hstart]; rfl

/-! ### READ_LINE and READ_PART (05 R141, 06 R159, 09 R189) -/

theorem afterStart_of_ne {m : Mode} (h : m ≠ .starting) : afterStart m = true := by
  cases m <;> simp [afterStart] at h ⊢

/-- Settles O19: what is returned, and what is cleared after it. -/
theorem readLineAndPartClearWhatTheyReturn : Obligations.ReadLineAndPartClearWhatTheyReturn := by
  constructor
  · intro s l hm u c
    refine ⟨(s.map.lines.get l).bytes ++ u.bytes ++ c.bytes, answers_of rfl ?_, ?_⟩
    · refine (gated_taken (afterStart_of_ne hm) (by simp [inRange_lineCode])).trans ?_
      simp only [lineOfCode_code]
      rfl
    · have hrest : c.bytes = be1 c.queue.length ++ be1 (if c.exchange.isSome then 1 else 0)
          ++ be1 ((c.exchange.map (·.address)).getD 0)
          ++ (c.exchange.elim (be1 0) fun x => [Config.exchangeKindCode x.kind.number])
          ++ (be1 c.urgentCount ++ be1 c.errorLog ++ be1 c.lastError.code) := by
        rw [LineControl.bytes]
        cases c.exchange <;> rfl
      rw [hrest]
      cases he : c.exchange with
      | none => exact ⟨rfl, rfl, rfl, rfl, rfl, fun _ => rfl, rfl⟩
      | some x => exact ⟨rfl, rfl, rfl, rfl, rfl, nofun, rfl⟩
  · intro s
    have halarms (i : Fin 8) : (clearLatched s).alarms[i] = { s.alarms[i] with latched := false } :=
      alarms_foldl (g := fun _ x => { x with latched := false }) (fun _ _ => rfl) s i
    have honly : clearLatched s = { s with alarms := (clearLatched s).alarms } := by
      simp [clearLatched, allInputs, onAlarm]
    refine ⟨clearLatched s, ?_, halarms, honly⟩
    refine answers_of rfl ((gated_taken rfl (by simp)).trans ?_)
    have hinput (i : Fin 8) : s.inputBytes i
        = be1 (match s.alarms[i].debounced with | some .high => 0 | some .low => 1 | none => 2)
          ++ be1 (if s.alarms[i].debounced = some s.map.alarms[i].active ∧ s.map.alarms[i].segment ≠ 0 then 1 else 0)
          ++ be1 (if s.alarms[i].latched then 1 else 0) ++ be1 (if s.alarms[i].deferred then 1 else 0) := by
      rw [State.inputBytes, asserted_eq, beFlag_decide]
      cases s.alarms[i].debounced with
      | none => rfl
      | some level => cases level <;> rfl
    have hfree : allSlots.countP (fun k => (s.slot k).isNone) = ([0, 1, 2, 3].filter fun k => (s.slot k).isNone).length :=
      List.countP_eq_length_filter
    rw [State.partBytes, hfree, List.flatMap_congr fun i _ => hinput i]
    rfl

/-! ### READ_VALVE (04 R120, 09 R194) -/

theorem take_drop_within {α : Type} (xs : List α) {m n i j : Nat} (h : i + j ≤ n) :
    (xs.drop (m + i)).take j = (((xs.drop m).take n).drop i).take j := by
  rw [List.drop_take, List.drop_drop, List.take_take, Nat.min_eq_left (by omega)]

/-- 09 R194: bytes 9 to 26. -/
def ValveKind.partBytes : ValveKind → List Byte
  | .actuated p => p.bytes
  | .manual => List.replicate 18 0#8

/-- 09 R194: bytes 34 to 37. -/
def holderBytes (holders : List Nat) : List Byte := ((holders.map (BitVec.ofNat 8)) ++ List.replicate 4 0#8).take 4

/-- 09 R194: bytes 39 to 59. -/
def ValveDyn.moveBytes (d : ValveDyn) : List Byte :=
  match d.move with
  | some m => m.bytes d.motion
  | none => List.replicate 21 0#8

@[simp] theorem length_partBytes (k : ValveKind) : k.partBytes.length = 18 := by cases k <;> rfl

@[simp] theorem length_holderBytes (holders : List Nat) : (holderBytes holders).length = 4 := by simp [holderBytes]

@[simp] theorem length_moveBytes (d : ValveDyn) : d.moveBytes.length = 21 := by
  rw [ValveDyn.moveBytes]; cases d.move <;> rfl

@[simp] theorem length_beReading (r : Reading) : (beReading r).length = 2 := by cases r <;> rfl

@[simp] theorem length_be1 (n : Nat) : (be1 n).length = 1 := rfl
@[simp] theorem length_be2 (n : Nat) : (be2 n).length = 2 := rfl
@[simp] theorem length_be4 (n : Nat) : (be4 n).length = 4 := rfl
@[simp] theorem length_beFlag (b : Bool) : (beFlag b).length = 1 := rfl

theorem readBack_eq (v : Nat) (r : ValveRec) (d : ValveDyn) (b : Bool) :
    readBack v r d b = (be2 v ++ be2 r.endA ++ be2 r.endB ++ be1 r.kind.code ++ be1 r.normal.code ++ be1 r.closingRank)
      ++ (r.kind.partBytes ++ (beReading d.position
      ++ ((beFlag d.confirmed ++ be1 d.motion.code ++ be1 d.operability.code ++ beFlag b)
      ++ (be1 d.holders.length ++ (holderBytes d.holders ++ (beFlag d.move.isSome ++ (d.moveBytes
      ++ (beFlag d.crewLeft.isSome ++ be4 (tenthsLeft (d.crewLeft.getD 0)))))))))) := by
  have hpart : r.kind.partBytes = match r.kind with | .actuated p => p.bytes | .manual => List.replicate 18 0#8 := by
    cases r.kind <;> rfl
  have hmove : d.moveBytes = match d.move with | some m => m.bytes d.motion | none => List.replicate 21 0#8 := rfl
  simp only [readBack, hpart, hmove, holderBytes, List.append_assoc] <;> rfl

/-- The parts of a list that is put together of nine. -/
theorem parts_of_nine {α : Type} {a b c d e f g h i xs : List α} (hxs : xs = a ++ (b ++ (c ++ (d ++ (e ++ (f ++ (g ++ (h ++ i))))))))
    (ha : a.length = 9) (hb : b.length = 18) (hc : c.length = 2) (hd : d.length = 4) (he : e.length = 1) (hf : f.length = 4)
    (hg : g.length = 1) (hh : h.length = 21) (hi : i.length = 5) :
    xs.length = 65 ∧ xs.take 9 = a ∧ (xs.drop 9).take 18 = b ∧ (xs.drop 27).take 2 = c ∧ (xs.drop 29).take 4 = d
      ∧ (xs.drop 33).take 1 = e ∧ (xs.drop 34).take 4 = f ∧ (xs.drop 38).take 1 = g ∧ (xs.drop 39).take 21 = h
      ∧ xs.drop 60 = i := by
  subst hxs
  simp [List.drop_append, List.drop_eq_nil_of_le, ha, hb, hc, hd, he, hf, hg, hh, hi]

theorem holderBytes_take (holders : List Nat) :
    (holderBytes holders).take holders.length = (holders.take 4).flatMap be1 := by
  have hbyte : (holders.take 4).flatMap be1 = (holders.take 4).map (BitVec.ofNat 8) :=
    List.map_eq_flatMap.symm
  rw [hbyte, holderBytes, List.take_take, List.map_take]
  by_cases h : holders.length ≤ 4
  · rw [Nat.min_eq_left h, List.take_left' (by simp), List.take_of_length_le (by simpa using h)]
  · rw [Nat.min_eq_right (by omega), List.take_append_of_le_length (by simp; omega)]

/-- 09 R194: the read-back record, part by part. -/
theorem readBack_parts (v : Nat) (r : ValveRec) (d : ValveDyn) (b : Bool) :
    let data := readBack v r d b
    data.length = 65
      ∧ data.take 9 = be2 v ++ be2 r.endA ++ be2 r.endB ++ be1 r.kind.code ++ be1 r.normal.code ++ be1 r.closingRank
      ∧ (data.drop 9).take 18 = r.kind.partBytes ∧ (data.drop 27).take 2 = beReading d.position
      ∧ (data.drop 29).take 4 = beFlag d.confirmed ++ be1 d.motion.code ++ be1 d.operability.code ++ beFlag b
      ∧ (data.drop 33).take 1 = be1 d.holders.length ∧ (data.drop 34).take 4 = holderBytes d.holders
      ∧ (data.drop 38).take 1 = beFlag d.move.isSome ∧ (data.drop 39).take 21 = d.moveBytes
      ∧ data.drop 60 = beFlag d.crewLeft.isSome ++ be4 (tenthsLeft (d.crewLeft.getD 0)) :=
  parts_of_nine (readBack_eq v r d b) (by simp) (by simp) (by simp) (by simp) (by simp) (by simp) (by simp) (by simp) (by simp)

theorem answers_readValve {s : State} {valve : Nat} {r : ValveRec} (hm : s.store.mode ≠ .starting) (h1 : 1 ≤ valve)
    (h2 : valve ≤ 1023) (hr : Table.get s.map.valves valve = some r) :
    Answers (.readValve valve) s 0x21#8 .done (readBack valve r (s.dyn valve) (s.reachable valve)) s := by
  refine answers_of rfl ((gated_taken (afterStart_of_ne hm) (by simp [inRange_of_le h1 h2])).trans ?_)
  rw [hr]

/-! ### READ_STATION (06 R158) -/

/-- The valves of a station as (id, channel) pairs, in channel order. -/
theorem valvesOfStation_pairs (s : State) (l : Line) (address : Nat) :
    (s.valvesOfStation l address).map (fun e => (e.1, e.2.channel))
      = [1, 2, 3, 4].flatMap fun c => s.map.valves.filterMap fun v =>
          match v.2.kind with
          | .actuated p => if p.line = l ∧ p.address = address ∧ p.channel = c then some (v.1, c) else none
          | .manual => none := by
  have hone (c : Nat) : ((s.actuatedValves.filter fun e => e.2.line = l && e.2.address = address && e.2.channel = c).map
      fun e => (e.1, e.2.channel)) = s.map.valves.filterMap fun v =>
        match v.2.kind with
        | .actuated p => if p.line = l ∧ p.address = address ∧ p.channel = c then some (v.1, c) else none
        | .manual => none := by
    rw [State.actuatedValves]
    induction s.map.valves with
    | nil => rfl
    | cons v vs ih =>
      cases hk : v.2.kind with
      | manual => simp only [List.filterMap_cons, hk]; exact ih
      | actuated p =>
        simp only [List.filterMap_cons, hk, List.filter_cons]
        by_cases h : p.line = l ∧ p.address = address ∧ p.channel = c
        · simp [h, ← ih]
        · have h' : (decide (p.line = l) && decide (p.address = address) && decide (p.channel = c)) = false := by
            simpa [and_assoc] using h
          rw [if_neg h, h']
          exact ih
  rw [State.valvesOfStation, List.map_flatMap]
  exact List.flatMap_congr fun c _ => hone c

theorem consentPlace_eq (s : State) (n : Nat) :
    s.consentPlace n = ((s.engine.consentQueue.idxOf? n).map (· + 1)).getD 0 := by
  rw [State.consentPlace]
  cases h : s.engine.consentQueue.idxOf? n with
  | none => simp [List.idxOf?_eq_none_iff.1 h]
  | some i =>
    obtain ⟨hi, hn, hfirst⟩ := List.idxOf?_eq_some_iff.1 h
    have hmem : n ∈ s.engine.consentQueue := hn ▸ List.getElem_mem hi
    have hidx : s.engine.consentQueue.idxOf n = i :=
      (List.findIdx_eq hi).2 ⟨by simp [hn], fun j hj => by simpa using hfirst j hj⟩
    simp [hmem, hidx]

/-! ### READ_INCIDENT (03 R52, R83) -/

/-- 03 R52: the headings, each by its own conditions. -/
theorem progressOf_iff (s : State) (inc : Incident) (v : Nat) :
    let usable := (Table.get s.map.valves v).any (s.usable inc v)
    let manual := (Table.get s.map.valves v).any fun r => r.kind = .manual
    decide (s.progressOf inc v = 0) = (s.dyn v).confirmed
      ∧ decide (s.progressOf inc v = 1) = (!(s.dyn v).confirmed && !usable)
      ∧ decide (s.progressOf inc v = 2) = (!(s.dyn v).confirmed && usable && !manual
          && [Motion.closingFast, .closingSlow, .holding, .backoff].contains (s.dyn v).motion)
      ∧ decide (s.progressOf inc v = 3) = (!(s.dyn v).confirmed && usable && manual && decide ((s.dyn v).motion = .crewClose)) := by
  intro usable manual
  have hmotion : [Motion.closingFast, .closingSlow, .holding, .backoff].contains (s.dyn v).motion
      = (s.dyn v).motion.closingMotion := by cases (s.dyn v).motion <;> rfl
  rw [hmotion, State.progressOf]
  cases hc : (s.dyn v).confirmed with
  | true => simp
  | false =>
    cases hr : Table.get s.map.valves v with
    | none => simp [usable, hr]
    | some r =>
      cases hu : s.usable inc v r with
      | false => simp [usable, hr, hu]
      | true =>
        cases hk : r.kind with
        | actuated p => cases hm : (s.dyn v).motion.closingMotion <;> simp [usable, manual, hr, hu, hk]
        | manual => by_cases hm : (s.dyn v).motion = .crewClose <;> simp [usable, manual, hr, hu, hk, hm]

/-- 03 R52: the counts, each over the boundary valves under its heading. -/
theorem progress_eq (s : State) (inc : Incident) :
    let usable (v : Nat) := (Table.get s.map.valves v).any (s.usable inc v)
    let manual (v : Nat) := (Table.get s.map.valves v).any fun r => r.kind = .manual
    s.progress inc 0 = (inc.boundary.filter fun v => (s.dyn v).confirmed).length
      ∧ s.progress inc 1 = (inc.boundary.filter fun v => !(s.dyn v).confirmed && !usable v).length
      ∧ s.progress inc 2 = (inc.boundary.filter fun v => !(s.dyn v).confirmed && usable v && !manual v
          && [Motion.closingFast, .closingSlow, .holding, .backoff].contains (s.dyn v).motion).length
      ∧ s.progress inc 3 = (inc.boundary.filter fun v =>
          !(s.dyn v).confirmed && usable v && manual v && decide ((s.dyn v).motion = .crewClose)).length := by
  have hcount (n : Nat) (f : Nat → Bool) (h : ∀ v, decide (s.progressOf inc v = n) = f v) :
      s.progress inc n = (inc.boundary.filter f).length := by
    rw [State.progress, List.countP_eq_length_filter, List.filter_congr fun v _ => h v]
  exact ⟨hcount 0 _ fun v => (progressOf_iff s inc v).1, hcount 1 _ fun v => (progressOf_iff s inc v).2.1,
    hcount 2 _ fun v => (progressOf_iff s inc v).2.2.1, hcount 3 _ fun v => (progressOf_iff s inc v).2.2.2⟩

/-- 06 R158: the schedule's five bytes. -/
theorem scheduleBytes_spec (s : State) (l : Line) (address : Nat) :
    (s.scheduleBytes l address).length = 5
      ∧ (Table.get s.stations (stationKey l address) = none ∨ (∀ q ∈ (s.control.get l).schedule, q.address ≠ address) →
          s.scheduleBytes l address = List.replicate 5 0#8)
      ∧ ∀ q, Table.has s.stations (stationKey l address) = true →
          (s.control.get l).schedule.find? (fun q => q.address = address) = some q →
          s.scheduleBytes l address = (if q.probe then [1#8, 0#8, 0#8] else [0#8] ++ be2 (tenthsOf (s.interval l address)))
            ++ be2 (if q.due ≤ s.elapsed then 0 else tenthsOf (q.due - s.elapsed)) := by
  refine ⟨?_, fun h => ?_, fun q hs hq => ?_⟩
  · unfold State.scheduleBytes; split <;> rfl
  · unfold State.scheduleBytes
    split
    · next r q hr hq =>
      obtain h | h := h
      · rw [h] at hr; cases hr
      · exact absurd (by simpa using List.find?_some hq) (h q (List.mem_of_find?_eq_some hq))
    · rfl
  · obtain ⟨r, hr⟩ := Table.has_iff.1 hs
    unfold State.scheduleBytes
    rw [hr, hq]
    dsimp only
    cases q.probe with
    | false => rfl
    | true => simp [beFlag, flagCode, be1, be2]

/-- Settles O18: the three records as they are laid out. -/
theorem readsOfValveStationAndIncident : Obligations.ReadsOfValveStationAndIncident := by
  refine ⟨fun s valve r hm h1 h2 hr => ?_, fun s l address e hm h1 h2 he => ?_, fun s slot hslot => ⟨fun h => ?_, fun inc h => ?_⟩⟩
  · intro d
    obtain ⟨hlen, hhead, hpart, hpos, hflags, hcount, hholders, hhas, hmove, hcrew⟩ :=
      readBack_parts valve r d (s.reachable valve)
    refine ⟨_, answers_readValve hm h1 h2 hr, hlen, ?_, fun hk => ?_, fun p hk => ?_, ?_, ?_, hcount, ?_, ?_, fun h => ?_,
      fun m h => ?_, ?_⟩
    · rw [hhead]; cases r.kind <;> cases r.normal <;> rfl
    · rw [hpart, hk]; rfl
    · have hsub (i j : Nat) (hij : i + j ≤ 18) :
          ((readBack valve r d (s.reachable valve)).drop (9 + i)).take j = (p.bytes.drop i).take j := by
        rw [take_drop_within _ hij, hpart, hk]; rfl
      exact ⟨hsub 0 3 (by omega), hsub 3 5 (by omega), hsub 8 6 (by omega), hsub 14 4 (by omega)⟩
    · rw [hpos]; cases d.position <;> rfl
    · rw [hflags]; rfl
    · rw [hholders]; exact holderBytes_take d.holders
    · rw [hhas]; rfl
    · rw [hmove, ValveDyn.moveBytes, h]
    · have hsub (i j : Nat) (hij : i + j ≤ 21) :
          ((readBack valve r d (s.reachable valve)).drop (39 + i)).take j = ((m.bytes d.motion).drop i).take j := by
        rw [take_drop_within _ hij, hmove, ValveDyn.moveBytes, h]
      refine ⟨(hsub 0 4 (by omega)).trans ?_, (hsub 4 3 (by omega)).trans ?_, hsub 7 2 (by omega), hsub 9 8 (by omega),
        hsub 17 3 (by omega), (hsub 20 1 (by omega)).trans ?_⟩
      · cases hd : m.direction <;> simp only [Move.bytes, hd] <;> rfl
      · have hbytes : ((m.bytes d.motion).drop 4).take 3 = be2 (if d.motion.hasTimer then tenthsLeft m.timerLeft else 0)
            ++ be1 (if d.motion.hasTimer then m.standing.code else 0) := rfl
        rw [hbytes]
        by_cases hmot : d.motion = .dwell
        · simp [hmot, Motion.hasTimer, be1, be2]
        · have htimer : d.motion.hasTimer = true := by cases hx : d.motion <;> simp_all [Motion.hasTimer]
          rw [if_neg hmot, if_pos htimer, if_pos htimer]
          cases m.standing <;> rfl
      · cases hc : m.command with
        | none => simp only [Move.bytes, hc]; rfl
        | some c => cases ha : c.acked <;> simp only [Move.bytes, hc] <;> simp [ha] <;> rfl
    · rw [hcrew]; rfl
  · intro r flag tenths valves
    obtain ⟨h3, h4, h5⟩ := scheduleBytes_spec s l address
    refine ⟨s.scheduleBytes l address, answers_of rfl ?_, h3, h4, h5⟩
    refine (gated_taken (afterStart_of_ne hm) (by simp [inRange_lineCode, inRange_of_le h1 h2])).trans ?_
    have hvalves : valves = (s.valvesOfStation l address).map fun e => (e.1, e.2.channel) :=
      (valvesOfStation_pairs s l address).symm
    have hlength : valves.length = (s.valvesOfStation l address).length := by rw [hvalves, List.length_map]
    have hlist : (valves.take 16).flatMap (fun v => be2 v.1 ++ be1 v.2)
        = ((s.valvesOfStation l address).take 16).flatMap fun x => be2 x.1 ++ be1 x.2.channel := by
      rw [hvalves, ← List.map_take, List.flatMap_map]
    simp only [lineOfCode_code, Option.getD_some]
    rw [show Table.get s.map.stations (stationKey l address) = some e from he, hlist, hlength]
    dsimp only
    rw [List.length_take, List.countP_eq_length_filter, StationEntry.bytes, StationRec.bytes]
    simp only [List.append_assoc]
    cases (s.supply.get l).state <;> cases (s.station l address).pressure <;> rfl
  · refine answers_of rfl ((gated_taken rfl (by simp [inRange_of_atMost hslot])).trans ?_)
    rw [h]; rfl
  · intro flag usable manual counted
    refine answers_of rfl ((gated_taken rfl (by simp [inRange_of_atMost hslot])).trans ?_)
    rw [h]
    dsimp only
    have hcode : causeCode inc.cause = match inc.cause with
        | none => 0 | some .regionCap => 1 | some .boundaryCap => 2 | some .outsideValve => 3 | some .declined => 4 := by
      cases inc.cause with
      | none => rfl
      | some c => cases c <;> rfl
    have horigin : inc.origin.code = match inc.origin with | .host => 0 | .alarm n => n := by cases inc.origin <;> rfl
    obtain ⟨h0, h1, h2, h3⟩ := progress_eq s inc
    unfold State.incidentBytes
    simp only [hcode, horigin, consentPlace_eq, h0, h1, h2, h3]
    rfl

end Sys2Proof.Machine
end

section
/-! PROOFS. What the notices to the engine and the planner can write, and the requests REPLAN, CREW_RESULT and SET_OPERABILITY:
O23, O25 and O26 (03 R62, R63, R72; 04 R109, R115). -/

namespace Sys2Proof.Machine

open Sys2Proof

/-! ### Nothing but engine, planner and reports -/

/-- Nothing but what the incident engine, the planner and the report unit hold has changed. -/
abbrev OnlyNotices (s t : State) : Prop :=
  t = { s with engine := t.engine, planner := t.planner, reports := t.reports }

theorem OnlyNotices.refl (s : State) : OnlyNotices s s := rfl

theorem OnlyNotices.trans {s t u : State} (h : OnlyNotices s t) (h' : OnlyNotices t u) : OnlyNotices s u := by
  unfold OnlyNotices at *
  rw [h', h]

theorem OnlyNotices.fields {s t : State} (h : OnlyNotices s t) :
    t.drive = s.drive ∧ t.control = s.control ∧ t.supply = s.supply ∧ t.stations = s.stations ∧ t.map = s.map
      ∧ t.store = s.store ∧ t.freeCount = s.freeCount := by
  rw [h]; exact ⟨rfl, rfl, rfl, rfl, rfl, rfl, rfl⟩

theorem OnlyNotices.dyn {s t : State} (h : OnlyNotices s t) (v : Nat) : t.dyn v = s.dyn v := by
  rw [State.dyn, h.fields.1]; rfl

theorem OnlyNotices.onlyControl {s t : State} (h : OnlyNotices s t) : OnlyControl s t := by
  unfold OnlyNotices at h
  unfold OnlyControl
  rw [h]

/-- A relation that holds of each slot's part holds of what is done slot by slot. -/
theorem forSlots_rel {R : State → State → Prop} (hrefl : ∀ s, R s s) (htrans : ∀ {s t u}, R s t → R t u → R s u)
    {f : Nat → Incident → State → State} (h : ∀ k inc s, s.slot k = some inc → R s (f k inc s)) (s : State) :
    R s (forSlots f s) := by
  unfold forSlots
  generalize allSlots = ks
  induction ks generalizing s with
  | nil => exact hrefl s
  | cons k ks ih =>
    refine htrans ?_ (ih _)
    dsimp only
    split
    · next inc hk => exact h k inc s hk
    · exact hrefl s

theorem onlyNotices_raise (k : ReportKind) (x : Subject) (d : Nat) (vs : List (Option Nat)) (s : State) :
    OnlyNotices s (raise k x d vs s) := rfl

theorem onlyNotices_raiseFailed (v x n : Nat) (s : State) : OnlyNotices s (raiseFailed v x n s) := rfl

theorem onlyNotices_putSlot (k : Nat) (inc : Incident) (s : State) : OnlyNotices s (putSlot k inc s) := rfl

theorem onlyNotices_planRequest (n : Nat) (s : State) : OnlyNotices s (planRequest n s) := by
  rw [planRequest_only]

theorem onlyNotices_requestReplan (k : Nat) (inc : Incident) (s : State) : OnlyNotices s (requestReplan k inc s) :=
  (onlyNotices_putSlot k _ s).trans (onlyNotices_planRequest _ _)

theorem onlyNotices_replanRequest (v : Nat) (s : State) : OnlyNotices s (replanRequest v s) :=
  forSlots_rel .refl .trans (fun k inc s _ => by
    split
    · exact onlyNotices_requestReplan k inc s
    · exact .refl s) s

theorem onlyNotices_enterState (k : Nat) (new : IncidentState) (s : State) : OnlyNotices s (enterState k new s) := by
  unfold enterState
  split
  · split
    · exact .refl s
    · rfl
  · exact .refl s

theorem onlyNotices_isolationTest (k : Nat) (s : State) : OnlyNotices s (isolationTest k s) := by
  unfold isolationTest
  split
  · split
    · exact onlyNotices_enterState k _ s
    · exact .refl s
  · exact .refl s

theorem onlyNotices_confirmedNotice (v : Nat) (set : Bool) (s : State) : OnlyNotices s (confirmedNotice v set s) :=
  forSlots_rel .refl .trans (fun k inc s _ => by
    split
    · exact .refl s
    · split
      · exact onlyNotices_isolationTest k s
      · split
        · exact onlyNotices_enterState k _ s
        · exact .refl s) s

theorem onlyControl_markStale (s : State) : OnlyControl s (markStale s) := rfl

theorem onlyControl_onDyn (v : Nat) (f : ValveDyn → ValveDyn) (s : State) : OnlyControl s (onDyn v f s) := rfl

/-- One valve's record is `d`; the other records, the map, the modes and what the lines know stand. -/
def RecordSet (v : Nat) (d : ValveDyn) (s t : State) : Prop :=
  OnlyControl s t ∧ ∀ u, t.dyn u = if u = v then d else s.dyn u

namespace RecordSet

variable {v : Nat} {d d' : ValveDyn} {s t u : State}

theorem same (h : RecordSet v d s t) : t.dyn v = d := (h.2 v).trans (if_pos rfl)

theorem other (h : RecordSet v d s t) {w : Nat} (hw : w ≠ v) : t.dyn w = s.dyn w := (h.2 w).trans (if_neg hw)

theorem of_dyn_eq (h : OnlyControl s t) (hd : ∀ w, t.dyn w = s.dyn w) : RecordSet v (s.dyn v) s t :=
  ⟨h, fun w => (hd w).trans (by split; · next e => rw [e]
                                · rfl)⟩

theorem trans (h : RecordSet v d s t) (h' : RecordSet v d' t u) : RecordSet v d' s u :=
  ⟨h.1.trans h'.1, fun w => by rw [h'.2, h.2]; split <;> rfl⟩

theorem notices (h : RecordSet v d s t) (h' : OnlyNotices t u) : RecordSet v d s u :=
  ⟨h.1.trans h'.onlyControl, fun w => (h'.dyn w).trans (h.2 w)⟩

end RecordSet

theorem recordSet_self (v : Nat) (s : State) : RecordSet v (s.dyn v) s s := .of_dyn_eq (.refl s) fun _ => rfl

theorem recordSet_onDyn (v : Nat) (f : ValveDyn → ValveDyn) (s : State) : RecordSet v (f (s.dyn v)) s (onDyn v f s) :=
  ⟨onlyControl_onDyn v f s, fun u => dyn_onDyn s v u f⟩

theorem RecordSet.markStale {v : Nat} {d : ValveDyn} {s t : State} (h : RecordSet v d s t) :
    RecordSet v d s (markStale t) := ⟨h.1.trans (onlyControl_markStale t), h.2⟩

/-- 04 R89: a valve that fails as unreachable keeps all of its record but the mark. -/
theorem failUnreachable_spec (v : Nat) (s : State) :
    RecordSet v { s.dyn v with toldUnreachable := true } s (failUnreachable v s) :=
  ((recordSet_onDyn v _ s).notices (onlyNotices_raise _ _ _ _ _)).notices (onlyNotices_replanRequest v _)

/-- 04 R86, R116: the flag takes its value; of the valve's record the mark alone can change with it. -/
theorem setConfirmed_spec (v : Nat) (value : Bool) (s : State) :
    ∃ told, RecordSet v { s.dyn v with confirmed := value, toldUnreachable := told } s (setConfirmed v value s) := by
  unfold setConfirmed
  split
  · next h => subst h; exact ⟨(s.dyn v).toldUnreachable, recordSet_self v s⟩
  · dsimp only
    have hwrite := (recordSet_onDyn v (fun d => { d with
      confirmed := value
      toldUnreachable := d.toldUnreachable && !(value && !s.reachable v) }) s).markStale
    change RecordSet v _ s (markStale (writeConfirmed v value s)) at hwrite
    generalize markStale (writeConfirmed v value s) = w at hwrite
    have hraise : OnlyNotices w (if !value && (w.dyn v).move.isNone && !(w.dyn v).holders.isEmpty then
        raiseOffNormal v reopened w else w) := by
      split
      · rfl
      · exact .refl w
    have hnotice := (hwrite.notices hraise).notices (onlyNotices_confirmedNotice v value _)
    generalize confirmedNotice v value _ = x at hnotice
    split
    · have hfail := failUnreachable_spec v x
      rw [hnotice.same] at hfail
      exact ⟨true, hnotice.trans hfail⟩
    · exact ⟨_, hnotice⟩

theorem setOperability_spec (v : Nat) (value : Operability) (s : State) :
    RecordSet v { s.dyn v with operability := value } s (setOperability v value s)
      ∧ ((s.dyn v).operability ≠ value → ∀ p, (setOperability v value s).planner.plan = some p → p.stale = true) := by
  unfold setOperability
  split
  · next h => subst h; exact ⟨recordSet_self v s, fun hne => absurd rfl hne⟩
  · refine ⟨(recordSet_onDyn v (fun d => { d with operability := value }) s).markStale, fun _ p hp => ?_⟩
    obtain ⟨q, -, rfl⟩ := Option.map_eq_some_iff.1 hp
    rfl

/-- 04 R109: the operability of a valve whose move has completed. -/
abbrev Operability.redeemed (x : Operability) : Operability := if x = .suspect then .operable else x

theorem redeem_spec (v : Nat) (s : State) :
    RecordSet v { s.dyn v with operability := (s.dyn v).operability.redeemed } s (redeem v s) := by
  unfold redeem Operability.redeemed
  split
  · exact (setOperability_spec v .operable s).1
  · exact recordSet_self v s

/-! ### REPLAN (03 R62) -/

theorem noReplan_iff (x : IncidentState) : x.noReplan = true ↔ x = .planning ∨ x = .restoring := by
  cases x <;> simp [IncidentState.noReplan]

theorem incident_eq_none {s : State} {n : Nat} (h : ∀ e ∈ s.engine.slots, e.2.number ≠ n) : s.incident n = none := by
  rw [State.incident, List.find?_eq_none]
  simpa using h

/-- Settles O23: a plan request, by where the incident already stands in the planner. -/
theorem replanSendsAPlanRequest : Obligations.ReplanSendsAPlanRequest := by
  intro s hm hs hp
  have htaken (act : State → Answer) : gated inRun [] act s = act s := gated_taken (by rw [hm]; rfl) (by simp)
  refine ⟨fun n hn => ?_, fun slot inc hinc => ?_⟩
  · refine answers_of rfl ((htaken _).trans ?_)
    rw [incident_eq_none hn]; rfl
  · have hslot := Table.get_of_mem hs.wf hinc
    have hfound : s.incident inc.number = some (slot, inc) := incident_of_slot hs hslot
    refine ⟨fun h => ?_, fun h1 h2 => ?_⟩
    · refine answers_of rfl ((htaken _).trans ?_)
      rw [hfound]
      exact if_pos ((noReplan_iff _).2 h)
    · intro marked
      have hmarked : marked = putSlot slot { inc with replanPending := true } s := rfl
      have hanswer : Answers (.replan inc.number) s 0x33#8 .accepted [] (planRequest inc.number marked) := by
        refine answers_of rfl ((htaken _).trans ?_)
        rw [hfound]
        exact if_neg (by rw [noReplan_iff]; simp [h1, h2])
      have hsound : marked.SlotsSound := (rewritten_putSlot (new := { inc with replanPending := true }) hslot rfl).sound hs
      have hfound' : marked.incident inc.number = some (slot, { inc with replanPending := true }) :=
        incident_of_slot hsound (k := slot) (inc := { inc with replanPending := true }) (slot_putSlot_same _ _ _)
      have hplanner : marked.planner = s.planner := rfl
      have hnr : ¬({ inc with replanPending := true } : Incident).state = .restoring := h2
      refine ⟨fun p hpl he => ?_, fun p hpl he => ?_, fun hpl => ?_⟩
      · have hreq : planRequest inc.number marked = markStaleFor inc.number marked := by
          simp [planRequest, hfound', h2, hplanner, hpl, he]
        rw [hreq] at hanswer
        simpa [markStaleFor, hplanner, hpl, he] using hanswer
      · by_cases hq : inc.number ∈ s.planner.queue
        · have hreq : planRequest inc.number marked = marked := by
            simp [planRequest, hfound', h2, hplanner, hpl, he, hq]
          rw [hreq] at hanswer
          rw [if_pos hq]
          simpa [← hpl] using hanswer
        · have hreq : planRequest inc.number marked
              = { marked with planner := ⟨s.planner.queue ++ [inc.number], some p⟩ } := by
            simp [planRequest, hfound', h2, hplanner, hpl, he, hq, startNextPlan, Planner.startNext]
          rw [if_neg hq, ← hreq]; exact hanswer
      · have hempty : s.planner.queue = [] := hp.2.2.1 hpl
        have hreq : planRequest inc.number marked = { marked with planner := ⟨[], some (newPlan inc.number inc.region)⟩ } := by
          have hregion : ({ marked with planner := ⟨[inc.number], none⟩ } : State).recordedRegion inc.number = inc.region := by
            rw [State.recordedRegion]
            have : ({ marked with planner := ⟨[inc.number], none⟩ } : State).incident inc.number = _ := hfound'
            rw [this]
          simp [planRequest, hfound', h2, hplanner, hpl, hempty, startNextPlan, Planner.startNext, hregion]
        rw [← hreq]; exact hanswer

/-! ### CREW_RESULT (04 R115) -/

/-- 04 R115: the position that a crew's result gives. -/
abbrev crewPosition (result : Nat) (d : ValveDyn) : Option Nat :=
  if result = 0 then some 1000 else if result = 1 then some 0 else d.position

/-- 04 R115: the flag that a crew's result gives. -/
abbrev crewFlag (result : Nat) (d : ValveDyn) : Bool :=
  if result = 0 then true else if result = 1 then false else d.confirmed

/-- 04 R115: the operability that a crew's result gives. -/
abbrev crewOperability (result : Nat) (d : ValveDyn) : Operability :=
  if result = 2 then .inoperable else d.operability.redeemed

/-- 04 R115: a crew that worked the valve: the position is the new one and a SUSPECT valve is OPERABLE. -/
theorem crewWorked_spec (v x : Nat) (s : State) :
    RecordSet v { s.dyn v with
      motion := .idle
      crewLeft := none
      position := some x
      operability := (s.dyn v).operability.redeemed } s
      (redeem v (onDyn v (fun d => { d with position := some x }) (endCrewWait v s))) := by
  have hmoved := (recordSet_onDyn v (fun d => { d with motion := .idle, crewLeft := none }) s).trans
    (recordSet_onDyn v (fun d => { d with position := some x }) _)
  have hredeem := redeem_spec v (onDyn v (fun d => { d with position := some x }) (endCrewWait v s))
  have h := hmoved.trans hredeem
  rwa [dyn_onDyn_same, endCrewWait, dyn_onDyn_same] at h

/-- 04 R115: what a result does to the valve, whose record alone changes. -/
theorem takeCrewResult_spec (v : Nat) (normal : NormalState) {result : Nat} (hr : result ≤ 2) (s : State) :
    ∃ d, RecordSet v d s (takeCrewResult v normal result s) ∧ d.position = crewPosition result (s.dyn v)
      ∧ d.confirmed = crewFlag result (s.dyn v) ∧ d.operability = crewOperability result (s.dyn v) := by
  obtain rfl | rfl | rfl : result = 0 ∨ result = 1 ∨ result = 2 := by omega
  · have hworked := (crewWorked_spec v 1000 s).notices
      (onlyNotices_raise .valveClosed (.valve v) 1 [some 1000, some 0, some 0] _)
    have hagain (w : State) : OnlyNotices w
        (if (s.dyn v).shutAgain normal then raiseOffNormal v notReopened w else w) := by
      split
      · rfl
      · exact .refl w
    have h := hworked.notices (hagain _)
    obtain ⟨told, hset⟩ := setConfirmed_spec v true
      (if (s.dyn v).shutAgain normal then raiseOffNormal v notReopened (raise .valveClosed (.valve v) 1
        [some 1000, some 0, some 0] (redeem v (onDyn v (fun d => { d with position := some 1000 }) (endCrewWait v s))))
       else raise .valveClosed (.valve v) 1 [some 1000, some 0, some 0]
        (redeem v (onDyn v (fun d => { d with position := some 1000 }) (endCrewWait v s))))
    rw [h.same] at hset
    exact ⟨_, h.trans hset, rfl, rfl, rfl⟩
  · have h := (crewWorked_spec v 0 s).notices (onlyNotices_raise .valveOpened (.valve v) 1 [some 0, some 0, some 0] _)
    obtain ⟨told, hset⟩ := setConfirmed_spec v false (raise .valveOpened (.valve v) 1 [some 0, some 0, some 0]
      (redeem v (onDyn v (fun d => { d with position := some 0 }) (endCrewWait v s))))
    rw [h.same] at hset
    exact ⟨_, h.trans hset, rfl, rfl, rfl⟩
  · have hwait := recordSet_onDyn v (fun d => { d with motion := .idle, crewLeft := none }) s
    have hset := (setOperability_spec v .inoperable (endCrewWait v s)).1
    rw [endCrewWait, hwait.same] at hset
    have hraised := (hwait.trans hset).notices (onlyNotices_raiseFailed v failedCrew 0 _)
    have hreplan (w : State) : OnlyNotices w (if (w.dyn v).holders.isEmpty then w else replanRequest v w) := by
      split
      · exact .refl w
      · exact onlyNotices_replanRequest v w
    exact ⟨_, hraised.notices (hreplan _), rfl, rfl, rfl⟩

/-- Settles O25: the result sets the valve, and what follows at the end of the step leaves positions, flags and
operabilities. -/
theorem crewResultSetsTheValve : Obligations.CrewResultSetsTheValve := by
  intro s valve result hm h1 h2 hr
  have htaken (act : State → Answer) : gated inRun [inRange 1 1023 valve, inRange 0 2 result] act s = act s :=
    gated_taken (by rw [hm]; rfl) (by simp [inRange_of_le h1 h2, inRange_of_atMost hr])
  refine ⟨fun hnone => ?_, fun r hget => ⟨fun p hp => ?_, fun hmanual => ?_⟩⟩
  · exact answers_of rfl ((htaken _).trans (by rw [hnone]; rfl))
  · exact answers_of rfl ((htaken _).trans (by rw [hget]; simp only [hp]; rfl))
  · obtain ⟨d, hset, hpos, hconf, hop⟩ := takeCrewResult_spec valve r.normal hr s
    have hsettle := driven_settle (takeCrewResult valve r.normal result s)
    refine ⟨settle (takeCrewResult valve r.normal result s), ?_, ?_, ?_, ?_, fun u hu => ?_, hset.1.trans hsettle.only⟩
    · exact answers_of rfl ((htaken _).trans (by rw [hget]; simp only [hmanual]; rfl))
    · rw [hsettle.position, hset.same, hpos]
    · rw [hsettle.confirmed, hset.same, hconf]
    · rw [hsettle.operability, hset.same, hop]
    · rw [hsettle.position, hsettle.confirmed, hsettle.operability, hset.other hu]
      exact ⟨rfl, rfl, rfl⟩

/-! ### SET_OPERABILITY (04 R109) -/

theorem operabilityOfCode_code (x : Operability) : operabilityOfCode x.code = x := by cases x <;> rfl

/-- Settles O26: the operability is given, and what follows at the end of the step leaves it. -/
theorem setOperabilityMarksTheValve : Obligations.SetOperabilityMarksTheValve := by
  intro s valve x hm h1 h2 hhas busy
  have hmode : inRunOrConfig s.store.mode = true := by obtain h | h := hm <;> rw [h] <;> rfl
  have htaken (act : State → Answer) : gated inRunOrConfig [inRange 1 1023 valve, inRange 0 2 x.code] act s = act s :=
    gated_taken hmode (by simp [inRange_of_le h1 h2, inRange_of_atMost x.code_le])
  have hcode : x.code = 2 ↔ x = .inoperable := by cases x <;> simp [Operability.code]
  have hbusy : (s.dyn valve).atWork = true ↔ busy := by
    have hcrew (m : Motion) : m.crew = true ↔ m = .crewClose ∨ m = .crewOpen := by cases m <;> simp [Motion.crew]
    simp [ValveDyn.atWork, busy, hcrew, Option.isSome_iff_ne_none]
  refine ⟨fun h => ?_, fun h => ?_⟩
  · refine answers_of rfl ((htaken _).trans ((if_pos hhas).trans (if_pos ?_)))
    rw [hcode, hbusy]; exact h
  · obtain ⟨hset, hstale⟩ := setOperability_spec valve x s
    have hsettle := driven_settle (setOperability valve x s)
    refine ⟨settle (setOperability valve x s), ?_, ?_, fun u hu => ?_, fun u => ?_, fun hne p hp => ?_,
      hset.1.trans hsettle.only⟩
    · refine answers_of rfl ((htaken _).trans ((if_pos hhas).trans ((if_neg ?_).trans ?_)))
      · rw [hcode, hbusy]; exact h
      · rw [operabilityOfCode_code]; rfl
    · rw [hsettle.operability, hset.same]
    · rw [hsettle.operability, hset.other hu]
    · rw [hsettle.position, hsettle.confirmed, hset.2]
      split
      · next e => rw [e]; exact ⟨rfl, rfl⟩
      · exact ⟨rfl, rfl⟩
    · have hplan := hsettle.plan
      rw [hp] at hplan
      obtain ⟨q, hq, -⟩ := Option.map_eq_some_iff.1 hplan.symm
      exact hsettle.stale q p hq hp (hstale hne q hq)

end Sys2Proof.Machine
end

section
/-! PROOFS. The commands that a move issues, the valve drive's small events, and the choice and course of an exchange: O34,
O35, O36, O37 and O38 (04 R94, R98, R101, R104, R111, R113; 05 R125, R133, R137; 06 R152, R154). -/

namespace Sys2Proof.Machine

open Sys2Proof

/-! ### Rates and timers (04 R98, R101) -/

theorem ceilDiv_bounds (n : Nat) {d : Nat} (hd : 0 < d) : n ≤ ceilDiv n d * d ∧ ceilDiv n d * d < n + d := by
  have hmul : (n + d - 1) / d * d + (n + d - 1) % d = n + d - 1 := by rw [Nat.mul_comm]; exact Nat.div_add_mod _ _
  have hlt : (n + d - 1) % d < d := Nat.mod_lt _ hd
  unfold ceilDiv
  omega

/-- Settles O34, each rate and time being a division with its remainder bounded. -/
theorem closureTimersFollowTheStroke : Obligations.ClosureTimersFollowTheStroke := by
  intro p position hs1 hs2 ht1 ht2 hr1 hr2 hp
  obtain ⟨hfast, hfast'⟩ := ceilDiv_bounds 1000 (d := p.strokeTime) (by omega)
  have hfastPos : 0 < p.fast := by
    by_contra hzero
    have h : ceilDiv 1000 p.strokeTime = 0 := by change p.fast = 0; omega
    rw [h] at hfast
    omega
  have hslowPos : 1 ≤ p.slow := le_max_left _ _
  refine ⟨⟨hfast, hfast'⟩, hslowPos, fun hle => ?_, ceilDiv (p.throttlePoint - position) p.fast,
    ceilDiv (1000 - max position p.throttlePoint) p.slow, rfl, ceilDiv_bounds _ hfastPos, ceilDiv_bounds _ hslowPos, rfl⟩
  have hslow : p.slow = p.fast / p.slowRatio := max_eq_right (Nat.div_pos hle hr1)
  rw [hslow]
  exact ⟨Nat.div_mul_le_self _ _, Nat.lt_mul_of_div_lt (Nat.lt_succ_self _) (by omega)⟩

/-! ### The commands of a move (04 R94, R101) -/

/-- 04 R94: the record of a valve whose move has issued its next command. -/
abbrev ValveDyn.issued (d : ValveDyn) (kind : CommandKind) (serial : Nat) : ValveDyn :=
  { d with move := d.move.map fun m => { m with command := some ⟨kind, serial, false⟩ } }

theorem dyn_issue (v : Nat) (p : ActuatedPart) (kind : CommandKind) (s : State) (u : Nat) :
    (issue v p kind s).dyn u = if u = v then (s.dyn v).issued kind s.drive.serial else s.dyn u := by
  unfold issue offer
  rw [dyn_onControl, dyn_onMove]
  rfl

/-- Nothing but what the valve drive and the line controllers hold has changed. -/
abbrev OnlyDrive (s t : State) : Prop := t = { s with drive := t.drive, control := t.control }

theorem OnlyDrive.trans {s t u : State} (h : OnlyDrive s t) (h' : OnlyDrive t u) : OnlyDrive s u := by
  unfold OnlyDrive at *
  rw [h', h]

theorem onlyDrive_onMove (v : Nat) (f : Move → Move) (s : State) : OnlyDrive s (onMove v f s) := rfl

theorem onlyDrive_setMotion (v : Nat) (m : Motion) (s : State) : OnlyDrive s (setMotion v m s) := rfl

theorem onlyDrive_takeSerial (s : State) : OnlyDrive s (takeSerial s) := rfl

theorem onlyDrive_offer (l : Line) (e : QueueEntry) (s : State) : OnlyDrive s (offer l e s) := rfl

theorem onlyDrive_issue (v : Nat) (p : ActuatedPart) (kind : CommandKind) (s : State) :
    OnlyDrive s (issue v p kind s) :=
  ((onlyDrive_takeSerial s).trans (onlyDrive_onMove v _ _)).trans (onlyDrive_offer p.line _ _)

theorem dyn_issueUntimed (v : Nat) (p : ActuatedPart) (target rate : Nat) (s : State) (u : Nat) :
    (issueUntimed v p target rate s).dyn u = if u = v then
      { s.dyn v with move := (s.dyn v).move.map fun m =>
          { m with
            phaseTarget := target
            rate := rate
            command := some ⟨.drive target rate, s.drive.serial, false⟩ } }
      else s.dyn u := by
  unfold issueUntimed
  rw [dyn_issue, dyn_onMove, if_pos rfl]
  split
  · simp only [ValveDyn.issued, Option.map_map]; rfl
  · next h => rw [dyn_onMove, if_neg h]

theorem dyn_issueTimed (v : Nat) (p : ActuatedPart) (target rate preset : Nat) (s : State) (u : Nat) :
    (issueTimed v p target rate preset s).dyn u = if u = v then
      { s.dyn v with move := (s.dyn v).move.map fun m =>
          { m with
            phaseTarget := target
            rate := rate
            standing := .stopped
            setsTimer := some (s.drive.serial, preset)
            command := some ⟨.drive target rate, s.drive.serial, false⟩ } }
      else s.dyn u := by
  unfold issueTimed
  rw [dyn_issue, dyn_onMove, if_pos rfl]
  split
  · simp only [ValveDyn.issued, Option.map_map]; rfl
  · next h => rw [dyn_onMove, if_neg h]

theorem control_issueTimed (v : Nat) (p : ActuatedPart) (target rate preset : Nat) (s : State) :
    (issueTimed v p target rate preset s).control
      = (offer p.line (entryFor v p (.drive target rate) s.drive.serial) s).control := rfl

theorem onlyDrive_issueTimed (v : Nat) (p : ActuatedPart) (target rate preset : Nat) (s : State) :
    OnlyDrive s (issueTimed v p target rate preset s) :=
  (onlyDrive_onMove v _ s).trans (onlyDrive_issue v p _ _)

theorem control_offer_other {l k : Line} (h : k ≠ l) (e : QueueEntry) (s : State) :
    (offer l e s).control.get k = s.control.get k := by
  simp [offer, onControl, h]

/-- 05 R130: an offer to a queue with room is taken. -/
theorem mem_offered {queue : List QueueEntry} (h : queue.length < 16) (e : QueueEntry) :
    ∃ q, offered queue e = some q ∧ e ∈ q := by
  unfold offered
  split
  · next hany =>
    obtain ⟨x, hx, hfor⟩ := List.any_eq_true.1 hany
    exact ⟨_, rfl, List.mem_map.2 ⟨x, hx, if_pos hfor⟩⟩
  · exact ⟨_, if_neg (by unfold urgentCapacity; omega), by simp⟩

theorem mem_queue_offer {l : Line} {s : State} (h : (s.control.get l).queue.length < 16) (e : QueueEntry) :
    e ∈ ((offer l e s).control.get l).queue := by
  obtain ⟨q, hq, hmem⟩ := mem_offered h e
  simp [offer, onControl, hq, hmem]

theorem onlyDrive_endDwell (v : Nat) (p : ActuatedPart) (s : State) : OnlyDrive s (endDwell v p s) :=
  ((onlyDrive_onMove v _ s).trans (onlyDrive_setMotion v _ _)).trans (onlyDrive_issueTimed v p _ _ _ _)

theorem control_endDwell (v : Nat) (p : ActuatedPart) (s : State) :
    (endDwell v p s).control = (offer p.line ⟨p.address, p.channel, .drive 0 p.fast, v, s.drive.serial⟩ s).control := rfl

/-! ### SURGE_STALL and DWELL_END (04 R104, R111) -/

/-- Settles O35. -/
theorem surgeStallAndDwellEnd : Obligations.SurgeStallAndDwellEnd := by
  intro s v p m hact hmove
  have hstall : surgeStall v s = if (s.dyn v).motion = .holding ∧ p.maximumHold ≠ 0 ∧ m.stallReported = false then
      stall v p s else s := by
    unfold surgeStall; simp only [hact, hmove]
  have hdwell : dwellEnd v s = if (s.dyn v).motion = .dwell then endDwell v p s else s := by
    unfold dwellEnd; simp only [hact, hmove]
  have hyields {i : Instr} {t u : State} (hi : exec i s = .next t) (ht : t = u) : Yields i s u := hi.trans (congrArg _ ht)
  refine ⟨fun h1 h2 h3 => ⟨stall v p s, ?_, ?_, fun u hu => ?_, ?_⟩, fun h => ?_, fun h => ?_, fun h => ?_⟩
  · exact hyields rfl (hstall.trans (if_pos ⟨h1, h2, h3⟩))
  · unfold stall
    rw [dyn_raise, dyn_onMove, if_pos rfl, hmove]
    rfl
  · unfold stall
    rw [dyn_raise, dyn_onMove, if_neg hu]
  · unfold stall
    simp only [raise, dyn_onMove, if_true]
    rfl
  · exact hyields rfl (hstall.trans (if_neg h))
  · intro position
    refine ⟨endDwell v p s, hyields rfl (hdwell.trans (if_pos h)), ?_, fun u hu => ?_, fun hroom => ?_, fun l hl => ?_, ?_⟩
    · unfold endDwell driveOpen
      rw [dyn_issueTimed, if_pos rfl, setMotion, dyn_onDyn_same, dyn_onMove, if_pos rfl, hmove]
      rfl
    · unfold endDwell driveOpen
      rw [dyn_issueTimed, if_neg hu, setMotion, dyn_onDyn, if_neg hu, dyn_onMove, if_neg hu]
    · rw [control_endDwell]
      exact ⟨_, mem_queue_offer hroom _, rfl⟩
    · rw [control_endDwell]
      exact control_offer_other hl _ s
    · exact onlyDrive_endDwell v p s
  · exact hyields rfl (hdwell.trans (if_neg h))

/-! ### CREW_OVERDUE (04 R113, 03 R64) -/

/-- What is done slot by slot, each time to the slot's own incident alone. -/
theorem slot_forSlots {f : Nat → Incident → State → State} {P : State → Prop} {g : Incident → Incident}
    (h : ∀ k inc s, P s → s.slot k = some inc →
      P (f k inc s) ∧ ∀ j, (f k inc s).slot j = if j = k then some (g inc) else s.slot j)
    {s : State} (hs : P s) : P (forSlots f s) ∧ ∀ k ≤ 3, (forSlots f s).slot k = (s.slot k).map g := by
  have hlist : ∀ ks : List Nat, ks.Nodup → ∀ s, P s →
      let t := ks.foldl (fun s slot => match s.slot slot with | some inc => f slot inc s | none => s) s
      P t ∧ ∀ k, t.slot k = if k ∈ ks then (s.slot k).map g else s.slot k := by
    intro ks hks
    induction ks with
    | nil => exact fun s hs => ⟨hs, fun k => rfl⟩
    | cons k ks ih =>
      intro s hs
      obtain ⟨hk, hnd⟩ := List.nodup_cons.1 hks
      dsimp only [List.foldl_cons]
      split
      · next inc hslot =>
        obtain ⟨hP, hown⟩ := h k inc s hs hslot
        refine ⟨(ih hnd _ hP).1, fun j => ((ih hnd _ hP).2 j).trans ?_⟩
        rw [hown]
        by_cases hj : j = k
        · subst hj; simp [hk, hslot]
        · simp [hj]
      · next hslot =>
        refine ⟨(ih hnd _ hs).1, fun j => ((ih hnd _ hs).2 j).trans ?_⟩
        by_cases hj : j = k
        · subst hj; simp [hk, hslot]
        · simp [hj]
  obtain ⟨hP, hslots⟩ := hlist allSlots (by decide) s hs
  refine ⟨hP, fun k hk => (hslots k).trans (if_pos ?_)⟩
  rw [allSlots]
  simp only [List.mem_cons, List.not_mem_nil, or_false]
  omega

theorem slot_requestReplan (k : Nat) (inc : Incident) (s : State) (j : Nat) :
    (requestReplan k inc s).slot j = if j = k then some { inc with replanPending := true } else s.slot j := by
  unfold requestReplan
  rw [planRequest_only]
  exact slot_putSlot s k j { inc with replanPending := true }

/-- 03 R64: what planning around a valve makes of an incident, with the valve's holders. -/
def Incident.around (v : Nat) (holders : List Nat) (inc : Incident) : Incident :=
  if holders.contains inc.number && inc.state != .restoring then
    { inc with excluded := exclude v inc.excluded, replanPending := true }
  else inc

/-- 03 R64: planning around a valve changes nothing but the incidents, the planner, and of the incidents' slots each its
own. -/
theorem planAround_spec (v : Nat) (s : State) :
    planAround v s = { s with engine := (planAround v s).engine, planner := (planAround v s).planner }
      ∧ ∀ k ≤ 3, (planAround v s).slot k = (s.slot k).map (Incident.around v (s.dyn v).holders) := by
  refine slot_forSlots (P := fun t => t = { s with engine := t.engine, planner := t.planner })
    (fun k inc t ht hk => ?_) rfl
  have hdyn : t.dyn v = s.dyn v := by rw [ht]; rfl
  rw [hdyn, Incident.around]
  split
  · refine ⟨?_, fun j => slot_requestReplan k _ _ j⟩
    have honly : requestReplan k { inc with excluded := exclude v inc.excluded } (markStaleFor inc.number t)
        = { t with engine := (requestReplan k { inc with excluded := exclude v inc.excluded } (markStaleFor inc.number t)).engine
                   planner := (requestReplan k { inc with excluded := exclude v inc.excluded }
                     (markStaleFor inc.number t)).planner } := by
      unfold requestReplan
      rw [planRequest_only]
      rfl
    generalize requestReplan k _ _ = w at honly
    rw [honly, ht]
  · refine ⟨ht, fun j => ?_⟩
    split
    · next e => rw [e, hk]
    · rfl

/-- Settles O36. -/
theorem crewOverdueReportsOrPlansAround : Obligations.CrewOverdueReportsOrPlansAround := by
  intro s v hs hcrew action
  have hyields : Yields (.crewOverdue v) s (overdue v s) := by
    refine congrArg _ (if_pos ?_)
    rw [Option.isSome_iff_ne_none]; exact hcrew
  let reported : State := onDyn v (fun d => { d with crewLeft := none })
    (raise .crewOverdue (.valve v) (crewDetail (s.dyn v).motion) [some action.code, some s.map.policy.crewTimeout] s)
  have hreports : reported.reports = s.raised .crewOverdue (.valve v) (if (s.dyn v).motion = .crewOpen then 1 else 0)
      [some action.code, some s.map.policy.crewTimeout] := rfl
  have hdyn (u : Nat) : reported.dyn u = if u = v then { s.dyn v with crewLeft := none } else s.dyn u := dyn_onDyn _ v u _
  have hset : reported = { s with reports := reported.reports, drive := { s.drive with valves := reported.drive.valves } } := rfl
  have heng : reported.engine = s.engine := rfl
  have hplan : reported.planner = s.planner := rfl
  have hreport (h : s.map.policy.overdueAction = .report) : overdue v s = reported := by
    unfold overdue; simp only [reported, action, h]
  have haround (h : s.map.policy.overdueAction = .planAround) : overdue v s = planAround v reported := by
    unfold overdue; simp only [reported, action, h]
  refine ⟨overdue v s, hyields, ?_⟩
  clear_value reported
  cases haction : action with
  | report =>
    rw [hreport haction]
    rw [haction] at hreports
    refine ⟨hreports, (hdyn v).trans (if_pos rfl), fun u hu => (hdyn u).trans (if_neg hu), fun _ => ⟨heng, hplan⟩,
      fun h => absurd h (by decide), ?_⟩
    rw [heng, hplan]; exact hset
  | planAround =>
    rw [haround haction]
    rw [haction] at hreports
    obtain ⟨honly, hslots⟩ := planAround_spec v reported
    have hdyn' (u : Nat) : (planAround v reported).dyn u = reported.dyn u := by rw [honly]; rfl
    have hholders : (reported.dyn v).holders = (s.dyn v).holders := by rw [hdyn, if_pos rfl]
    refine ⟨by rw [honly]; exact hreports, ?_, fun u hu => ?_, fun h => absurd h (by decide), fun _ e he => ?_, ?_⟩
    · rw [hdyn', hdyn, if_pos rfl]
    · rw [hdyn', hdyn, if_neg hu]
    · have hslot : reported.slot e.1 = some e.2 := by
        rw [State.slot, heng]; exact Table.get_of_mem hs.wf he
      rw [hslots e.1 (hs.2.1 e he).1, hslot, hholders, Option.map_some, Incident.around, exclude]
      simp [and_comm]
    · generalize planAround v reported = w at honly
      rw [honly, hset]

/-! ### EXCHANGE_START (05 R137) -/

/-- 05 R137: an entry is due no later than another, and of the lower address when they are due together. -/
abbrev PollEntry.Before (d e : PollEntry) : Prop := d.due < e.due ∨ d.due = e.due ∧ d.address ≤ e.address

theorem before_trans {d e f : PollEntry} (h : d.Before e) (h' : e.Before f) : d.Before f := by
  simp only [PollEntry.Before] at *
  omega

theorem moreOverdue_spec (x y : PollEntry) :
    (moreOverdue x y = x ∨ moreOverdue x y = y) ∧ (moreOverdue x y).Before x ∧ (moreOverdue x y).Before y := by
  unfold moreOverdue PollEntry.Before
  split
  · exact ⟨.inr rfl, by omega, .inr ⟨rfl, le_rfl⟩⟩
  · exact ⟨.inl rfl, .inr ⟨rfl, le_rfl⟩, by omega⟩

theorem foldl_moreOverdue (rest : List PollEntry) (e : PollEntry) :
    rest.foldl moreOverdue e ∈ e :: rest ∧ ∀ x ∈ e :: rest, (rest.foldl moreOverdue e).Before x := by
  induction rest generalizing e with
  | nil => exact ⟨by simp, by simp [PollEntry.Before]⟩
  | cons y rest ih =>
    obtain ⟨hmem, hmin⟩ := ih (moreOverdue e y)
    obtain ⟨hor, he, hy⟩ := moreOverdue_spec e y
    have hfirst := hmin _ List.mem_cons_self
    rw [List.foldl_cons]
    refine ⟨?_, fun x hx => ?_⟩
    · obtain h | h := List.mem_cons.1 hmem
      · obtain h' | h' := hor <;> rw [h, h'] <;> simp
      · exact List.mem_cons_of_mem _ (List.mem_cons_of_mem _ h)
    · obtain rfl | hx := List.mem_cons.1 hx
      · exact before_trans hfirst he
      obtain rfl | hx := List.mem_cons.1 hx
      · exact before_trans hfirst hy
      · exact hmin x (List.mem_cons_of_mem _ hx)

/-- 05 R137: the entry of a routine exchange is due, and before every other of the schedule. -/
theorem dueEntry_eq_some {schedule : List PollEntry} {now : Nat} {d : PollEntry} (h : dueEntry schedule now = some d) :
    d ∈ schedule ∧ d.due ≤ now ∧ ∀ e ∈ schedule, d.Before e := by
  unfold dueEntry at h
  split at h
  · cases h
  · next e rest hfilter =>
    have hmem (x : PollEntry) : x ∈ e :: rest ↔ x ∈ schedule ∧ x.due ≤ now := by rw [← hfilter]; simp
    obtain ⟨hd, hmin⟩ := foldl_moreOverdue rest e
    rw [Option.some.injEq] at h
    rw [h] at hd hmin
    obtain ⟨hds, hdue⟩ := (hmem d).1 hd
    refine ⟨hds, hdue, fun x hx => ?_⟩
    by_cases hxdue : x.due ≤ now
    · exact hmin x ((hmem x).2 ⟨hx, hxdue⟩)
    · exact .inl (by omega)

theorem dueEntry_eq_none {schedule : List PollEntry} {now : Nat} :
    dueEntry schedule now = none ↔ ¬∃ e ∈ schedule, e.due ≤ now := by
  unfold dueEntry
  split
  · next h =>
    rw [List.filter_eq_nil_iff] at h
    simpa using h
  · next e rest h =>
    have he : e ∈ schedule.filter fun e => decide (e.due ≤ now) := by rw [h]; exact List.mem_cons_self
    simp only [List.mem_filter, decide_eq_true_eq] at he
    simp only [reduceCtorEq, false_iff, not_not]
    exact ⟨e, he⟩

/-- Settles O37, by the head of the urgent queue and the due entry. -/
theorem exchangeStartChooses : Obligations.ExchangeStartChooses := by
  intro s l hm hen hon hidle c dueNow
  have hstart : exec (.exchangeStart l) s = .next { s with control := s.control.set l (c.start s.elapsed) } := by
    refine congrArg _ ((if_pos ?_).trans rfl)
    simp [State.mayStart, hm, hen, hon, hidle]
  have hyields {k : LineControl} (h : c.start s.elapsed = k) :
      Yields (.exchangeStart l) s { s with control := s.control.set l k } := by rw [← h]; exact hstart
  have hnone (h : ¬dueNow) : dueEntry c.schedule s.elapsed = none := dueEntry_eq_none.2 h
  have hsome (h : dueNow) : ∃ d, dueEntry c.schedule s.elapsed = some d :=
    Option.ne_none_iff_exists'.1 fun hn => dueEntry_eq_none.1 hn h
  refine ⟨fun e rest hq hor => hyields (k := c.startUrgent e rest) ?_, fun hdue hor => ?_, fun hdue hq => ?_⟩
  · unfold LineControl.start
    rw [hq]
    by_cases hdue : dueNow
    · obtain ⟨d, hd⟩ := hsome hdue
      have hfew : ¬4 ≤ c.urgentCount := by have := hor.resolve_right (not_not.2 hdue); omega
      simp only [hd, if_neg hfew]
    · simp only [hnone hdue]
  · obtain ⟨d, hd⟩ := hsome hdue
    obtain ⟨hmem, hdueAt, hmin⟩ := dueEntry_eq_some hd
    refine ⟨d, hmem, hdueAt, hmin, hyields (k := c.startRoutine d) ?_⟩
    unfold LineControl.start
    obtain hq | hmany := hor
    · rw [hq]; simp only [hd]
    · cases hq : c.queue with
      | nil => simp only [hd]
      | cons e rest => simp only [hd, if_pos hmany]
  · have hsame : c.start s.elapsed = c := by
      unfold LineControl.start
      rw [hq]; simp only [hnone hdue]
    have h := hyields hsame
    rwa [show s.control.set l c = s.control from PerLine.set_get _ _] at h

/-! ### The course of an exchange and of a supply (05 R125, R133; 06 R152, R154) -/

/-- Settles O38. -/
theorem exchangesAndSuppliesRunTheirCourse : Obligations.ExchangesAndSuppliesRunTheirCourse := by
  refine ⟨fun s l => ⟨fun x e hx hsent he => ?_, fun x n hx hn => ?_, fun _ => rfl, fun address hon => ?_⟩,
    fun s l => ?_⟩
  · refine congrArg Host.Outcome.next ?_
    have hbase (b : Baud) : b.windowBase = match b with | .b9600 => 60 | .b19200 => 40 | .b38400 => 30 := by
      cases b <;> rfl
    simp only [fieldRequestSent, onExchange, onControl, hx, Option.map_some, Exchange.requestSent, hsent, State.window,
      stationKey, he, hbase]
    rfl
  · refine congrArg Host.Outcome.next ?_
    simp only [onExchange, onControl, hx, Option.map_some, Exchange.replyStarts, hn, Option.isSome_some, if_true]
  · exact congrArg Host.Outcome.next (if_pos hon)
  · intro u
    refine ⟨fun hon hov => congrArg Host.Outcome.next ?_, fun hoff => congrArg Host.Outcome.next ?_, rfl,
      fun hon htime => congrArg Host.Outcome.next ?_⟩
    · simp [onSupply, Supply.overcurrentStarts, hon, hov, u]
    · simp [onSupply, Supply.overcurrentStarts, hoff, u]
    · have hsome : u.timeOn.isSome = true := Option.isSome_iff_ne_none.2 htime
      simp [onSupply, Supply.timeOnReached, hon, hsome, u]

end Sys2Proof.Machine
end

section
/-! PROOFS. A millisecond of elapsed time: O2. Each block's marks are listed once, and an event is found among the marks of the
one block that can have it. -/

namespace Sys2Proof.Machine

open Sys2Proof

theorem mem_wrapMarks {s : State} {c : Instr} :
    c ∈ s.wrapMarks ↔ c = .timeBaseWrap ∧ s.endsTenth = true ∧ 4294967295 ≤ s.reports.timeBase := by
  change _ ↔ _ ∧ _ ∧ lastTime ≤ _
  simp [State.wrapMarks, and_comm]

theorem mem_consentMarks {s : State} {c : Instr} :
    c ∈ s.consentMarks ↔ c = .consentTimeout ∧ ∃ n ≤ 1, s.engine.consentLeft = some n := by
  rw [← endsNext_iff]; simp [State.consentMarks, and_comm]

theorem mem_inputMarks {s : State} {i : Fin 8} {c : Instr} :
    c ∈ s.inputMarks i ↔ c = .debounceExpiry (i.val + 1) ∧ ∃ n ≤ 1, s.alarms[i].timer = some n := by
  rw [← endsNext_iff]; simp [State.inputMarks, and_comm]

theorem mem_lineMarks {s : State} {l : Line} {c : Instr} :
    c ∈ s.lineMarks l ↔
      c = .supplyTrip l ∧ (s.supply.get l).state = .on ∧ (s.supply.get l).overcurrent = true
          ∧ (s.map.lines.get l).blanking ≤ (s.supply.get l).overTime
        ∨ c = .responseWindowExpiry l ∧ (∃ x n, (s.control.get l).exchange = some x ∧ x.window = some n ∧ n ≤ 1)
        ∨ c = .supplyRetry l ∧ s.store.mode = .run ∧ (∃ n ≤ 1, (s.supply.get l).retryLeft = some n)
        ∨ c = .timeOnReached l ∧ ∃ n, 29999 ≤ n ∧ (s.supply.get l).timeOn = some n := by
  have hwindow : (s.control.get l).exchange.any (fun x => endsNext x.window) = true
      ↔ ∃ x n, (s.control.get l).exchange = some x ∧ x.window = some n ∧ n ≤ 1 := by
    cases (s.control.get l).exchange with
    | none => simp
    | some x => simp [endsNext_iff, and_comm]
  have htime : (s.supply.get l).timeOn.any (fun n => timeOnLimit ≤ n + 1) = true
      ↔ ∃ n, 29999 ≤ n ∧ (s.supply.get l).timeOn = some n := by
    cases (s.supply.get l).timeOn with
    | none => simp
    | some n => simp [timeOnLimit]
  rw [← hwindow, ← htime, ← endsNext_iff]
  simp only [State.lineMarks, List.mem_append, List.mem_ite_nil_right, List.mem_singleton, Bool.and_eq_true,
    decide_eq_true_eq]
  tauto

theorem mem_moveMarks {s : State} {v : Nat} {motion : Motion} {m : Move} {c : Instr} :
    c ∈ s.moveMarks v motion m ↔
      c = .moveTimerExpiry v ∧ m.standing = .running ∧ m.timerLeft ≤ 1
        ∨ c = .surgeStall v ∧ motion = .holding ∧ (∃ p, s.actuated v = some p
            ∧ p.maximumHold ≠ 0 ∧ m.stallReported = false ∧ p.maximumHold * 1000 ≤ m.holdElapsed + 1)
        ∨ c = .dwellEnd v ∧ motion = .dwell ∧ (∃ p, s.actuated v = some p) ∧ m.dwellLeft ≤ 1 := by
  unfold State.moveMarks
  rw [List.mem_append, List.mem_ite_nil_right, List.mem_singleton]
  cases hp : s.actuated v with
  | none => simp [and_comm]
  | some p => cases motion <;> simp [and_comm]

theorem mem_valveMarks {s : State} {e : Nat × ValveDyn} {c : Instr} :
    c ∈ s.valveMarks e ↔
      (∃ m, e.2.move = some m ∧ c ∈ s.moveMarks e.1 e.2.motion m)
        ∨ c = .crewOverdue e.1 ∧ ∃ n ≤ 1, e.2.crewLeft = some n := by
  unfold State.valveMarks
  rw [List.mem_append, List.mem_ite_nil_right, List.mem_singleton, endsNext_iff, and_comm (a := c = _)]
  cases e.2.move <;> simp

theorem mem_marks {s : State} {c : Instr} :
    c ∈ s.marks ↔ c ∈ s.wrapMarks ∨ c ∈ s.consentMarks ∨ (∃ e ∈ s.drive.valves, c ∈ s.valveMarks e)
      ∨ (∃ l, c ∈ s.lineMarks l) ∨ ∃ i, c ∈ s.inputMarks i := by
  have hlines : (∃ l ∈ allLines, c ∈ s.lineMarks l) ↔ ∃ l, c ∈ s.lineMarks l :=
    exists_congr fun l => and_iff_right (mem_allLines l)
  have hinputs : (∃ i ∈ allInputs, c ∈ s.inputMarks i) ↔ ∃ i, c ∈ s.inputMarks i :=
    exists_congr fun i => and_iff_right (by revert i; decide)
  rw [← hlines, ← hinputs]
  simp only [State.marks, List.mem_append, List.mem_flatMap, or_assoc]

/-- What a blank record has not is had by a listed record exactly when it is had by the valve's. -/
theorem exists_listed_iff {s : State} (hs : Table.Wf s.drive.valves) {P : ValveDyn → Prop} (hP : ¬P blankDyn) (v : Nat) :
    (∃ d, (v, d) ∈ s.drive.valves ∧ P d) ↔ P (s.dyn v) := by
  rw [State.dyn]
  constructor
  · rintro ⟨d, hd, h⟩
    rwa [Table.get_of_mem hs hd]
  · intro h
    cases hg : Table.get s.drive.valves v with
    | none => rw [hg] at h; exact absurd h hP
    | some d => rw [hg] at h; exact ⟨d, Table.mem_of_get hg, h⟩

/-- The marks of a valve are those that its record gives. -/
theorem valveMark_iff {s : State} (hs : Table.Wf s.drive.valves) {v : Nat} {c : Instr}
    (hc : ∀ e, c ∈ s.valveMarks e → e.1 = v) :
    (∃ e ∈ s.drive.valves, c ∈ s.valveMarks e) ↔ c ∈ s.valveMarks (v, s.dyn v) := by
  refine Iff.trans ?_ (exists_listed_iff hs (P := fun d => c ∈ s.valveMarks (v, d)) ?_ v)
  · constructor
    · rintro ⟨⟨u, d⟩, he, h⟩
      obtain rfl : u = v := hc _ h
      exact ⟨d, he, h⟩
    · rintro ⟨d, he, h⟩
      exact ⟨_, he, h⟩
  · simp [mem_valveMarks, blankDyn]

/-- Settles O2: what counts is read off the millisecond, and what joins the queue off the marks. -/
theorem idleStepCountsElapsedTime : Obligations.IdleStepCountsElapsedTime := by
  intro s hidle hwf tenth
  refine ⟨{ s.millisecond with pending := s.marks }, step_idle s hidle, rfl, fun l => ?_, fun l => ?_, fun i => ?_, ?_⟩
  · change s.millisecond.control.get l = _
    rw [(millisecond_lines s l).1]; rfl
  · change s.millisecond.supply.get l = _
    rw [(millisecond_lines s l).2]
    simp only [Supply.millisecond, Bool.and_eq_true, decide_eq_true_eq]
    rfl
  · exact millisecond_alarms s i
  · have hvalve (v : Nat) : ∀ c ∈ [Instr.moveTimerExpiry v, .surgeStall v, .dwellEnd v, .crewOverdue v],
        c ∈ s.marks ↔ c ∈ s.valveMarks (v, s.dyn v) := by
      intro c hc
      rw [← valveMark_iff hwf, mem_marks]
      · simp only [List.mem_cons, List.not_mem_nil, or_false] at hc
        obtain rfl | rfl | rfl | rfl := hc <;> simp [mem_wrapMarks, mem_consentMarks, mem_lineMarks, mem_inputMarks]
      · intro e he
        simp only [List.mem_cons, List.not_mem_nil, or_false] at hc
        rw [mem_valveMarks] at he
        obtain rfl | rfl | rfl | rfl := hc <;> simp [mem_moveMarks] at he <;> grind
    have hline (l : Line) : ∀ c ∈ [Instr.responseWindowExpiry l, .supplyTrip l, .supplyRetry l, .timeOnReached l],
        c ∈ s.marks ↔ c ∈ s.lineMarks l := by
      intro c hc
      rw [mem_marks]
      simp only [List.mem_cons, List.not_mem_nil, or_false] at hc
      obtain rfl | rfl | rfl | rfl := hc <;>
        simp [mem_wrapMarks, mem_consentMarks, mem_valveMarks, mem_moveMarks, mem_lineMarks, mem_inputMarks]
    change (_ ∈ s.marks ↔ _) ∧ (_ ∈ s.marks ↔ _) ∧ (∀ v, _ ∈ s.marks ↔ _) ∧ (∀ v, _ ∈ s.marks ↔ _)
      ∧ (∀ v, _ ∈ s.marks ↔ _) ∧ (∀ v, _ ∈ s.marks ↔ _) ∧ (∀ i : Fin 8, _ ∈ s.marks ↔ _) ∧ (∀ l, _ ∈ s.marks ↔ _)
      ∧ (∀ l, _ ∈ s.marks ↔ _) ∧ (∀ l, _ ∈ s.marks ↔ _) ∧ (∀ l, _ ∈ s.marks ↔ _) ∧ ∀ c ∈ s.marks, _
    refine ⟨?_, ?_, fun v => ?_, fun v => ?_, fun v => ?_, fun v => ?_, fun i => ?_, fun l => ?_, fun l => ?_, fun l => ?_,
      fun l => ?_, fun c hc => ?_⟩
    · rw [mem_marks]
      simp [mem_wrapMarks, mem_consentMarks, mem_valveMarks, mem_moveMarks, mem_lineMarks, mem_inputMarks, tenth,
        State.endsTenth]
    · rw [mem_marks]
      simp [mem_wrapMarks, mem_consentMarks, mem_valveMarks, mem_moveMarks, mem_lineMarks, mem_inputMarks]
    · rw [hvalve v _ (by simp), mem_valveMarks]
      simp [mem_moveMarks]
    · rw [hvalve v _ (by simp), mem_valveMarks]
      simp [mem_moveMarks]
      tauto
    · rw [hvalve v _ (by simp), mem_valveMarks]
      simp [mem_moveMarks]
      tauto
    · rw [hvalve v _ (by simp), mem_valveMarks]
      simp [mem_moveMarks]
    · rw [mem_marks]
      have hsame (P : Fin 8 → Prop) : (∃ j : Fin 8, (i : Nat) = j ∧ P j) ↔ P i :=
        ⟨fun ⟨j, hj, h⟩ => Fin.ext hj ▸ h, fun h => ⟨i, rfl, h⟩⟩
      simp [mem_wrapMarks, mem_consentMarks, mem_valveMarks, mem_moveMarks, mem_lineMarks, mem_inputMarks, hsame]
    · rw [hline l _ (by simp), mem_lineMarks]; simp
    · rw [hline l _ (by simp), mem_lineMarks]; simp
    · rw [hline l _ (by simp), mem_lineMarks]; simp
    · rw [hline l _ (by simp), mem_lineMarks]; simp
    · rw [mem_marks] at hc
      simp only [mem_wrapMarks, mem_consentMarks, mem_valveMarks, mem_moveMarks, mem_lineMarks, mem_inputMarks] at hc
      obtain ⟨rfl, -⟩ | ⟨rfl, -⟩ | ⟨⟨v, d⟩, -, ⟨m, -, ⟨rfl, -⟩ | ⟨rfl, -⟩ | ⟨rfl, -⟩⟩ | ⟨rfl, -⟩⟩
        | ⟨l, ⟨rfl, -⟩ | ⟨rfl, -⟩ | ⟨rfl, -⟩ | ⟨rfl, -⟩⟩ | ⟨i, rfl, -⟩ := hc <;> simp

end Sys2Proof.Machine
end

section
/-! PROOFS. Frames on the host link and on the field lines: how the fields of a payload and the parts of a frame read, O42 and
O53 (05 R124, R127; 09 R182 to R185, R191, R192). -/

namespace Sys2Proof.Machine

open Sys2Proof

/-! ### Reading fields (09 R190) -/

theorem field_one (xs : List Byte) (o : Nat) : field xs o 1 = ((xs[o]?).map BitVec.toNat).getD 0 := by
  unfold field bigEndian
  cases h : xs[o]? with
  | none => rw [List.drop_eq_nil_of_le (List.getElem?_eq_none_iff.1 h)]; rfl
  | some b =>
    obtain ⟨ho, rfl⟩ := List.getElem?_eq_some_iff.1 h
    simp only [List.drop_eq_getElem_cons ho, List.take_succ_cons, List.take_zero, List.foldl_cons, List.foldl_nil]
    simp

theorem field_two {xs : List Byte} {o : Nat} {hi lo : Byte} (h : xs[o]? = some hi) (h' : xs[o + 1]? = some lo) :
    field xs o 2 = hi.toNat * 256 + lo.toNat := by
  obtain ⟨ho, rfl⟩ := List.getElem?_eq_some_iff.1 h
  obtain ⟨ho', rfl⟩ := List.getElem?_eq_some_iff.1 h'
  unfold field bigEndian
  simp only [List.drop_eq_getElem_cons ho, List.drop_eq_getElem_cons ho', List.take_succ_cons, List.take_zero,
    List.foldl_cons, List.foldl_nil]
  simp

theorem field_skip_be1 (a : Nat) (xs : List Byte) (n k : Nat) : field (be1 a ++ xs) (n + 1) k = field xs n k := rfl
theorem field_skip_be2 (a : Nat) (xs : List Byte) (n k : Nat) : field (be2 a ++ xs) (n + 2) k = field xs n k := rfl
theorem field_skip_be4 (a : Nat) (xs : List Byte) (n k : Nat) : field (be4 a ++ xs) (n + 4) k = field xs n k := rfl

theorem field_be1 {a : Nat} (h : a < 256) (xs : List Byte) : field (be1 a ++ xs) 0 1 = a := by
  simp [field, bigEndian, be1]; omega

theorem field_be2 {a : Nat} (h : a < 65536) (xs : List Byte) : field (be2 a ++ xs) 0 2 = a := by
  simp [field, bigEndian, be2]; omega

theorem field_be4 {a : Nat} (h : a < 4294967296) (xs : List Byte) : field (be4 a ++ xs) 0 4 = a := by
  simp [field, bigEndian, be4]; omega

/-- A payload's last field read as one with nothing behind it. -/
theorem field_last1 {a : Nat} (h : a < 256) : field (be1 a) 0 1 = a := by
  have := field_be1 h []; rwa [List.append_nil] at this

theorem field_last2 {a : Nat} (h : a < 65536) : field (be2 a) 0 2 = a := by
  have := field_be2 h []; rwa [List.append_nil] at this

theorem field_last4 {a : Nat} (h : a < 4294967296) : field (be4 a) 0 4 = a := by
  have := field_be4 h []; rwa [List.append_nil] at this

/-! ### Frames (09 R182, R191, R192) -/

theorem soundFrame_iff {marker : Byte} {frame : List Byte} :
    soundFrame marker frame = true ↔ frame.head? = some marker ∧ 6 ≤ frame.length
      ∧ (∃ n, frame[3]? = some n ∧ n.toNat + 6 = frame.length)
      ∧ frame.drop (frame.length - 2) = be2 (checkWord ((frame.drop 1).take (frame.length - 3))).toNat := by
  simp only [soundFrame, Bool.and_eq_true, decide_eq_true_eq, and_assoc, checkBytes, covered, field_one]
  refine and_congr_right fun _ => and_congr_right fun hlen => and_congr ?_ decide_eq_true_iff
  rw [List.getElem?_eq_getElem (by omega : 3 < frame.length)]
  simp

section frame

variable (marker : Byte) (address : Nat) (kind : Byte) (payload : List Byte)

theorem frameOf_eq : frameOf marker address kind payload
    = [marker, BitVec.ofNat 8 address, kind, BitVec.ofNat 8 payload.length] ++ payload
        ++ checkBytes (be1 address ++ [kind] ++ be1 payload.length ++ payload) := by
  simp [frameOf, be1]

@[simp] theorem length_frameOf : (frameOf marker address kind payload).length = payload.length + 6 := by
  simp [frameOf, be1, checkBytes]

@[simp] theorem head?_frameOf : (frameOf marker address kind payload).head? = some marker := rfl

theorem field_address_frameOf (h : address < 256) : field (frameOf marker address kind payload) 1 1 = address := by
  rw [field_one]
  change (BitVec.ofNat 8 address).toNat = address
  simp; omega

@[simp] theorem kind_frameOf : (frameOf marker address kind payload)[2]? = some kind := rfl

theorem field_kind_frameOf : field (frameOf marker address kind payload) 2 1 = kind.toNat := by
  rw [field_one, kind_frameOf]; rfl

theorem lengthByte_frameOf : (frameOf marker address kind payload)[3]? = some (BitVec.ofNat 8 payload.length) := rfl

@[simp] theorem payloadOf_frameOf : payloadOf (frameOf marker address kind payload) = payload := by
  rw [payloadOf, length_frameOf, frameOf_eq, List.append_assoc]
  simp

theorem soundFrame_frameOf (m : Byte) (h : payload.length < 256) :
    soundFrame m (frameOf marker address kind payload) = decide (marker = m) := by
  rw [Bool.eq_iff_iff, decide_eq_true_eq, soundFrame_iff, head?_frameOf, Option.some.injEq, length_frameOf]
  refine and_iff_left ⟨by omega, ⟨_, lengthByte_frameOf _ _ _ _, ?_⟩, ?_⟩
  · simp; omega
  · have hcov : ((frameOf marker address kind payload).drop 1).take (payload.length + 6 - 3)
        = be1 address ++ [kind] ++ be1 payload.length ++ payload := by
      have hlen : payload.length + 6 - 3 = (be1 address ++ [kind] ++ be1 payload.length ++ payload).length := by
        simp; omega
      rw [hlen]
      exact List.take_left
    rw [hcov, frameOf_eq]
    have hlen : payload.length + 6 - 2
        = ([marker, BitVec.ofNat 8 address, kind, BitVec.ofNat 8 payload.length] ++ payload).length := by simp
    rw [hlen, List.drop_left]
    rfl

end frame

/-! ### A station's reply (05 R124, R127) -/

/-- 09 R192: a frame as its characters, each with its stop bit. -/
abbrev charactersOf (frame : List Byte) : List Character := frame.map fun b => ⟨b, true⟩

/-- 05 R127: what is no STATION_STATE, by kind, length or a condition byte. -/
def malformed (kind : Byte) (payload : List Byte) : Bool :=
  kind ≠ 0x80#8 || payload.length ≠ 14 || [1, 2, 3, 4].any fun c => decide (7 < (conditionByte payload c).toNat)

/-- 09 R192: the condition bytes stand at 2, 5, 8 and 11. -/
theorem malformed_iff (kind : Byte) (payload : List Byte) : malformed kind payload = true ↔
    kind ≠ 0x80#8 ∨ payload.length ≠ 14 ∨ ∃ i ∈ [2, 5, 8, 11], ∃ b, payload[i]? = some b ∧ 7 < b.toNat := by
  have hbyte (i : Nat) : 7 < (payload[i]?.getD 0#8).toNat ↔ ∃ b, payload[i]? = some b ∧ 7 < b.toNat := by
    cases payload[i]? <;> simp
  simp [malformed, conditionByte, hbyte, or_assoc]

/-- 05 R127: a sound frame of a field line, judged. -/
theorem judgeReply_frameOf (address : Nat) {a : Nat} (kind : Byte) {payload : List Byte} (ha : a < 256)
    (hp : payload.length ≤ 14) :
    judgeReply address (charactersOf (frameOf 0xC3#8 a kind payload))
      = if a ≠ address then .error .wrongAddress
        else if malformed kind payload then .error .malformed
        else .good (readReply payload) := by
  have hbytes (f : List Byte) : (charactersOf f).map (·.byte) = f := by simp [charactersOf, Function.comp_def]
  have hstops (f : List Byte) : (charactersOf f).all (·.stopBit) = true := by simp [charactersOf]
  have hkind : (kind.toNat ≠ 0x80) = (kind ≠ 0x80#8) := by
    rw [ne_eq, ne_eq, propext (BitVec.toNat_inj (x := kind) (y := 0x80#8)).symm]; rfl
  have hcut : ((frameOf 0xC3#8 a kind payload).drop 4).take ((frameOf 0xC3#8 a kind payload).length - 6) = payload :=
    payloadOf_frameOf 0xC3#8 a kind payload
  have hsound : soundFrame fieldMarker (frameOf 0xC3#8 a kind payload) = true :=
    (soundFrame_frameOf _ _ _ _ _ (by omega)).trans rfl
  have hlong : decide (longestFieldFrame < (frameOf 0xC3#8 a kind payload).length) = false := by
    rw [length_frameOf]; exact decide_eq_false (by unfold longestFieldFrame; omega)
  unfold judgeReply
  dsimp only
  rw [hbytes, hstops, hsound, hlong, hcut, field_address_frameOf _ _ _ _ ha, field_kind_frameOf]
  simp only [hkind]
  rfl

/-- Settles O42, by the tests in their order. -/
theorem stationReplyIsJudgedByItsFirstDefect : Obligations.StationReplyIsJudgedByItsFirstDefect := by
  refine ⟨fun address reply => ?_, fun address other payload ha ho hne hp => ?_⟩
  · intro frame hdefect
    refine if_pos ?_
    by_contra h
    simp only [Bool.or_eq_true, not_or, Bool.not_eq_true', Bool.not_eq_false, decide_eq_true_eq,
      List.all_eq_true, soundFrame_iff] at h
    obtain ⟨⟨hstop, hmarker, hlen, ⟨n, hn, hn'⟩, hcheck⟩, hlong⟩ := h
    obtain ⟨c, hc, hc'⟩ | hd | hd | hd | hd | hd := hdefect
    · exact absurd (hstop c hc) (by simp [hc'])
    · exact hd hmarker
    · exact absurd hlen (Nat.not_le.2 hd)
    · exact hlong hd
    · exact hd n hn hn'
    · exact hd hcheck
  · intro characters
    have hjudged (kind : Byte) := judgeReply_frameOf address (a := address) kind ha hp
    have hbad (kind : Byte) (h : malformed kind payload = true) :
        judgeReply address (characters (frameOf 0xC3#8 address kind payload)) = .error .malformed :=
      (hjudged kind).trans ((if_neg (not_not.2 rfl)).trans (if_pos h))
    refine ⟨fun kind => ?_, fun kind hkind => hbad kind ((malformed_iff _ _).2 (.inl hkind)),
      fun hlen => hbad _ ((malformed_iff _ _).2 (.inr (.inl hlen))),
      fun i hi b hb h7 => hbad _ ((malformed_iff _ _).2 (.inr (.inr ⟨i, hi, b, hb, h7⟩))),
      fun hlen hcond => ⟨readReply payload, ?_, fun c h1 h4 hi lo cond hhi hlo hc => ?_, fun hi lo hhi hlo => ?_⟩⟩
    · exact (judgeReply_frameOf address kind ho hp).trans (if_pos hne)
    · refine (hjudged _).trans ((if_neg (not_not.2 rfl)).trans (if_neg ?_))
      rw [malformed_iff]
      rintro (h | h | ⟨i, hi, b, hb, h7⟩)
      · exact h rfl
      · exact h hlen
      · exact absurd (hcond i hi b hb) (by omega)
    · have hget : (readReply payload).channels.get c = readChannel payload c := by
        obtain rfl | rfl | rfl | rfl : c = 1 ∨ c = 2 ∨ c = 3 ∨ c = 4 := by omega
        all_goals rfl
      have hposition : field payload (3 * c - 3) 2 = hi.toNat * 256 + lo.toNat :=
        field_two hhi (by rwa [show 3 * c - 3 + 1 = 3 * c - 2 by omega])
      rw [hget, readChannel, conditionByte, hc, hposition]
      rfl
    · exact congrArg readPressure (field_two hhi hlo)

end Sys2Proof.Machine
end

section
/-! PROOFS. The frames of the host: O53 (09 R182 to R185). A row of the catalogue reads back the fields that the request's
payload was made of. -/

namespace Sys2Proof.Machine

open Sys2Proof

/-! ### The catalogue's rows (09, section 9.5) -/

/-- 09, section 9.5: the row of a kind. -/
abbrev rowOf (k : Byte) : Option CatalogueRow := catalogue.find? fun r => decide (r.kind = k.toNat)

/-- 09 R185: the row of a request has the length of its payload. -/
theorem rowOf_size {i : Instr} {k : Byte} (h : requestKind i = some k) :
    ∃ r, rowOf k = some r ∧ r.size = (requestPayload i).length := by
  cases i
  all_goals cases h
  all_goals refine ⟨_, rfl, ?_⟩
  all_goals simp only [requestPayload, List.length_append, length_be1, length_be2, length_be4, List.length_nil]

/-- 09 R185, R190: the row of a request whose fields fit reads them back. -/
theorem rowOf_act {i : Instr} {k : Byte} {a : State → Answer} (hw : i.wellFormed = true)
    (h : requestAnswer i = some (k, a)) : ∃ r, rowOf k = some r ∧ a = r.act (requestPayload i) := by
  cases i
  case release broadcast code =>
    cases broadcast <;> cases h
    simp only [Instr.wellFormed, decide_eq_true_eq] at hw
    refine ⟨_, rfl, ?_⟩
    simp only [requestPayload, field_last1 hw]
  case setTime broadcast time =>
    cases broadcast <;> cases h
    simp only [Instr.wellFormed, decide_eq_true_eq] at hw
    refine ⟨_, rfl, ?_⟩
    simp only [requestPayload, field_last4 hw]
  all_goals cases h
  all_goals refine ⟨_, rfl, ?_⟩
  all_goals simp only [Instr.wellFormed, ValveFields.fits, Bool.and_eq_true, decide_eq_true_eq] at hw
  all_goals simp only [requestPayload, List.append_assoc, field_skip_be1, field_skip_be2, field_skip_be4, field_be1,
    field_be2, field_be4, field_last1, field_last2, hw]

theorem length_requestPayload_le (i : Instr) : (requestPayload i).length ≤ 240 := by
  cases i
  all_goals simp only [requestPayload, List.length_append, length_be1, length_be2, length_be4, List.length_nil]
  all_goals decide

/-- 09, section 9.5: every row is of a request's kind. -/
theorem request_of_row : ∀ n ∈ catalogue.map (·.kind), ∃ i, requestKind i = some (BitVec.ofNat 8 n) := by
  simp only [catalogue, mapCatalogue, readCatalogue, actCatalogue, List.map_append, List.map_cons, List.map_nil,
    List.forall_mem_append, List.forall_mem_cons]
  exact ⟨⟨⟨⟨.putSegment 0 0 0 0, rfl⟩, ⟨.putValve ⟨0, 0, 0, 0, 0, 0, 0, 0, 0, 0, 0, 0, 0, 0, 0, 0, 0, 0⟩, rfl⟩,
      ⟨.putStation 0 0 0 0 0 0, rfl⟩, ⟨.putLine 0 0 0 0 0 0, rfl⟩, ⟨.putAlarm 0 0 0 0 0, rfl⟩,
      ⟨.putPolicy 0 0 0 0 0 0, rfl⟩, ⟨.dropSegment 0, rfl⟩, ⟨.dropValve 0, rfl⟩, ⟨.dropStation 0 0, rfl⟩,
      ⟨.clearMap, rfl⟩, by simp⟩,
    ⟨.enterConfig, rfl⟩, ⟨.leaveConfig, rfl⟩, ⟨.saveMap, rfl⟩, ⟨.readSegment 0 0, rfl⟩, ⟨.readValve 0, rfl⟩,
      ⟨.readStation 0 0, rfl⟩, ⟨.readLine 0, rfl⟩, ⟨.readIncident 0, rfl⟩, ⟨.readPlan 0 0 0, rfl⟩, ⟨.readPart, rfl⟩,
      by simp⟩,
    ⟨.declare 0 0 0, rfl⟩, ⟨.consent 0 0, rfl⟩, ⟨.crewResult 0 0, rfl⟩, ⟨.replan 0, rfl⟩, ⟨.restore 0, rfl⟩,
      ⟨.setOperability 0 0, rfl⟩, ⟨.release false 0, rfl⟩, ⟨.fetch, rfl⟩, ⟨.setMask 0 0, rfl⟩, ⟨.setRoute 0 0, rfl⟩,
      ⟨.setWatermark 0, rfl⟩, ⟨.setTime false 0, rfl⟩, ⟨.resetLine 0, rfl⟩, ⟨.supplyOn 0, rfl⟩, ⟨.resetPart, rfl⟩,
      by simp⟩

theorem rowOf_eq_none {k : Byte} (h : ∀ i, requestKind i ≠ some k) : rowOf k = none := by
  rw [rowOf, List.find?_eq_none]
  intro r hr hk
  obtain ⟨i, hi⟩ := request_of_row r.kind (List.mem_map_of_mem hr)
  rw [decide_eq_true_eq] at hk
  rw [hk, BitVec.ofNat_toNat, BitVec.setWidth_eq] at hi
  exact h i hi

/-! ### A frame that has ended (09 R182, R184, R185) -/

theorem hostFrameEnd_receiving {s : State} (h : s.link.receiver = .receiving) :
    exec .hostFrameEnd s = .next (judgeFrame s.link.frame (receiverIdle s)) := by
  refine congrArg Host.Outcome.next ?_
  unfold frameEnd
  simp only [h]
  rfl

/-- 09 R182: a sound frame goes to every part at address 0, and to the part whose address it names. -/
theorem judgeFrame_frameOf {address : Nat} (k : Byte) {payload : List Byte} (ha : address < 256)
    (hp : payload.length ≤ 240) (s : State) :
    judgeFrame (frameOf 0xA5#8 address k payload) s
      = if address = 0 then takeBroadcast k payload s
        else if s.link.address = some address then takeUnicast k payload s
        else s := by
  have hgood : goodFrame (frameOf 0xA5#8 address k payload) = true := by
    have hsound : soundFrame hostMarker (frameOf 0xA5#8 address k payload) = true :=
      (soundFrame_frameOf _ _ _ _ _ (by omega)).trans rfl
    have hlen : field (frameOf 0xA5#8 address k payload) 3 1 ≤ longestPayload := by
      rw [field_one, lengthByte_frameOf, longestPayload]
      simp
      omega
    rw [goodFrame, hsound, decide_eq_true hlen]
    rfl
  unfold judgeFrame
  dsimp only
  rw [hgood, field_address_frameOf _ _ _ _ ha, kind_frameOf, payloadOf_frameOf]
  rfl

theorem goodFrame_iff {frame : List Byte} : goodFrame frame = true ↔
    frame.head? = some 0xA5#8 ∧ 6 ≤ frame.length
      ∧ (∃ n, frame[3]? = some n ∧ n.toNat ≤ 240 ∧ n.toNat + 6 = frame.length)
      ∧ frame.drop (frame.length - 2) = be2 (checkWord ((frame.drop 1).take (frame.length - 3))).toNat := by
  rw [goodFrame, Bool.and_eq_true, soundFrame_iff, decide_eq_true_eq, field_one]
  constructor
  · rintro ⟨⟨h1, h2, ⟨n, h3, h4⟩, h5⟩, h6⟩
    rw [h3] at h6 ⊢
    exact ⟨h1, h2, ⟨n, rfl, h6, h4⟩, h5⟩
  · rintro ⟨h1, h2, ⟨n, h3, h4, h5⟩, h6⟩
    rw [h3]
    exact ⟨⟨h1, h2, ⟨n, rfl, h5⟩, h6⟩, h4⟩

/-- 09 R184: only RELEASE and SET_TIME of the right length are taken as broadcasts. -/
theorem takeBroadcast_other {k : Byte} {payload : List Byte} (h1 : ¬(k = 0x36#8 ∧ payload.length = 1))
    (h2 : ¬(k = 0x50#8 ∧ payload.length = 4)) (s : State) : takeBroadcast k payload s = s := by
  rw [takeBroadcast, if_neg h1, if_neg h2]

/-- 09 R184: a broadcast request's frame does what the request does. -/
theorem takeBroadcast_request {i : Instr} {k : Byte} (hk : requestKind i = some k) (hw : i.wellFormed = true)
    (hb : isBroadcast i = true) (s : State) : exec i s = .next (takeBroadcast k (requestPayload i) s) := by
  cases i
  case release broadcast code =>
    cases hb; cases hk
    simp only [Instr.wellFormed, decide_eq_true_eq] at hw
    simp only [requestPayload, takeBroadcast, length_be1, and_self, if_true, field_last1 hw]
    rfl
  case setTime broadcast time =>
    cases hb; cases hk
    simp only [Instr.wellFormed, decide_eq_true_eq] at hw
    simp only [requestPayload, takeBroadcast, length_be4, and_self, if_true, field_last4 hw]
    rfl
  all_goals cases hb

/-- 09 R185: a unicast request's frame does what the request does. -/
theorem takeUnicast_request {i : Instr} {k : Byte} (hk : requestKind i = some k) (hw : i.wellFormed = true)
    (hb : isBroadcast i = false) (s : State) : exec i s = .next (takeUnicast k (requestPayload i) s) := by
  obtain ⟨a, ha⟩ := requestAnswer_of_kind hk hb
  obtain ⟨r, hr, hsize⟩ := rowOf_size hk
  obtain ⟨r', hr', hact⟩ := rowOf_act hw ha
  obtain rfl : r' = r := Option.some.inj (hr'.symm.trans hr)
  rw [exec_of_requestAnswer ha, takeUnicast, answerTo]
  have hfind : (catalogue.find? fun r => decide (r.kind = k.toNat)) = some r' := hr
  rw [hfind]
  dsimp only
  rw [if_pos hsize.symm, hact]

/-- Settles O53. -/
theorem requestFramesDoWhatTheirCommandsDo : Obligations.RequestFramesDoWhatTheirCommandsDo := by
  have hsent {s : State} (hrec : s.link.receiver = .receiving) {address : Nat} {k : Byte} {payload : List Byte}
      (ha : address < 256) (hp : payload.length ≤ 240) (hframe : s.link.frame = frameOf 0xA5#8 address k payload) :
      exec .hostFrameEnd s = .next (if address = 0 then takeBroadcast k payload (receiverIdle s)
        else if s.link.address = some address then takeUnicast k payload (receiverIdle s) else receiverIdle s) := by
    rw [hostFrameEnd_receiving hrec, hframe, judgeFrame_frameOf k ha hp]
  have hother {s : State} (hrec : s.link.receiver = .receiving) {address : Nat} {k : Byte} {payload : List Byte}
      (h1 : 1 ≤ address) (ha : address < 256) (hp : payload.length ≤ 240) (hne : s.link.address ≠ some address)
      (hframe : s.link.frame = frameOf 0xA5#8 address k payload) : Yields .hostFrameEnd s (receiverIdle s) :=
    (hsent hrec ha hp hframe).trans (by rw [if_neg (by omega), if_neg hne])
  have hunicast {s : State} (hrec : s.link.receiver = .receiving) {address : Nat} {k : Byte} {payload : List Byte}
      (h1 : 1 ≤ address) (ha : address < 256) (hp : payload.length ≤ 240) (heq : s.link.address = some address)
      (hframe : s.link.frame = frameOf 0xA5#8 address k payload) :
      exec .hostFrameEnd s = .next (takeUnicast k payload (receiverIdle s)) :=
    (hsent hrec ha hp hframe).trans (by rw [if_neg (by omega), if_pos heq])
  have hbroadcast {s : State} (hrec : s.link.receiver = .receiving) {k : Byte} {payload : List Byte}
      (hp : payload.length ≤ 240) (hframe : s.link.frame = frameOf 0xA5#8 0 k payload) :
      exec .hostFrameEnd s = .next (takeBroadcast k payload (receiverIdle s)) :=
    (hsent hrec (by omega) hp hframe).trans (by rw [if_pos rfl])
  refine ⟨fun s i k address hk hw h1 h62 hrec => ?_, fun s k address payload h1 h62 hp hrec => ?_,
    fun s k payload hp hrec => ?_, fun s hrec hbad => ?_, fun s => ⟨fun h => ?_, fun h => ?_, fun sending heard h => ?_⟩⟩
  · have hp := length_requestPayload_le i
    refine ⟨fun hb heq hframe => ?_, fun hb hframe => ?_, fun h36 h50 hframe => ?_, fun hne hframe => ?_⟩
    · rw [hunicast hrec h1 (by omega) hp heq hframe, takeUnicast_request hk hw hb]
    · rw [hbroadcast hrec hp hframe, takeBroadcast_request hk hw hb]
    · exact (hbroadcast hrec hp hframe).trans (by rw [takeBroadcast_other (by simp [h36]) (by simp [h50])])
    · exact hother hrec h1 (by omega) hp hne hframe
  · refine ⟨fun heq hframe hnone => ?_, fun i hk hlen => ?_⟩
    · refine (hunicast hrec h1 (by omega) hp heq hframe).trans ?_
      have hfind : (catalogue.find? fun r => decide (r.kind = k.toNat)) = none := rowOf_eq_none hnone
      rw [takeUnicast, answerTo, hfind]
      rfl
    · obtain ⟨r, hr, hsize⟩ := rowOf_size hk
      refine ⟨fun heq hframe => ?_, fun hframe => ?_⟩
      · refine (hunicast hrec h1 (by omega) hp heq hframe).trans ?_
        have hfind : (catalogue.find? fun r => decide (r.kind = k.toNat)) = some r := hr
        rw [takeUnicast, answerTo, hfind]
        dsimp only
        rw [if_neg (by rwa [hsize])]
        rfl
      · refine (hbroadcast hrec hp hframe).trans ?_
        have hrow (k' : Byte) (n : Nat) (act) (hk' : rowOf k' = some ⟨k'.toNat, n, act⟩) :
            ¬(k = k' ∧ payload.length = n) := by
          rintro ⟨rfl, rfl⟩
          rw [hr] at hk'
          exact hlen (by rw [← hsize, Option.some.inj hk'])
        rw [takeBroadcast_other (hrow 0x36#8 1 _ rfl) (hrow 0x50#8 4 _ rfl)]
  · refine ⟨fun h36 h50 hframe => ?_, fun address h1 h255 hne hframe => hother hrec h1 (by omega) hp hne hframe⟩
    exact (hbroadcast hrec hp hframe).trans (by rw [takeBroadcast_other (by simp [h36]) (by simp [h50])])
  · have hnot : ¬goodFrame s.link.frame = true := by
      rw [goodFrame_iff]
      rintro ⟨hmarker, -, ⟨n, hn, h240, hlen⟩, hcheck⟩
      obtain hbad | hbad | hbad := hbad
      · exact hbad hmarker
      · obtain h | h := hbad n hn
        · omega
        · exact h hlen
      · exact hbad hcheck
    refine (hostFrameEnd_receiving hrec).trans ?_
    rw [judgeFrame, if_pos (by simpa using hnot)]
  · exact congrArg Host.Outcome.next (by unfold frameEnd; simp only [h]; rfl)
  · exact congrArg Host.Outcome.next (by unfold frameEnd; simp only [h])
  · exact congrArg Host.Outcome.next (by unfold frameEnd; simp only [h])

end Sys2Proof.Machine
end

section
/-! PROOFS. The supply computation of a plan: O31, that its walk is reachability, and O32, what a plan makes of it (02 R39 to
R44). -/

namespace Sys2Proof.Machine

open Sys2Proof

theorem nodup_eraseDups (xs : List Nat) : xs.eraseDups.Nodup := by
  induction h : xs.length using Nat.strong_induction_on generalizing xs with
  | h n ih =>
    cases xs with
    | nil => simp
    | cons x xs =>
      rw [List.eraseDups_cons, List.nodup_cons, List.mem_eraseDups]
      refine ⟨by simp, ih _ ?_ _ rfl⟩
      rw [← h, List.length_cons]
      exact Nat.lt_succ_of_le (List.length_filter_le _ _)

section walk

variable (s : State) (number : Nat) (shut cut : List Nat)

/-- 02 R41: from one segment through a passable valve into another that is not out. -/
def State.Feeds (x y : Nat) : Prop :=
  y ≠ 0 ∧ s.isOut number cut y = false
    ∧ ∃ e ∈ s.map.valves, s.passable number shut e = true ∧ (e.2.endA = x ∧ e.2.endB = y ∨ e.2.endB = x ∧ e.2.endA = y)

theorem mem_nextSegments {x y : Nat} : y ∈ s.nextSegments number shut x ↔
    ∃ e ∈ s.map.valves, s.passable number shut e = true ∧ (e.2.endA = x ∧ e.2.endB = y ∨ e.2.endB = x ∧ e.2.endA = y) := by
  have hfar (r : ValveRec) : (r.endA = x ∨ r.endB = x) ∧ r.farEnd x = y ↔ r.endA = x ∧ r.endB = y ∨ r.endB = x ∧ r.endA = y := by
    unfold ValveRec.farEnd
    split <;> omega
  simp only [State.nextSegments, NetworkMap.incidence, List.mem_map, List.mem_filter, Bool.or_eq_true, decide_eq_true_eq,
    ← hfar]
  exact exists_congr fun e => by tauto

/-- 02 R41: what the walk adds from one segment. -/
def State.fresh (reached : List Nat) (x : Nat) : List Nat :=
  ((s.nextSegments number shut x).filter fun y => y != 0 && !reached.contains y && !s.isOut number cut y).eraseDups

theorem mem_fresh {reached : List Nat} {x y : Nat} :
    y ∈ s.fresh number shut cut reached x ↔ s.Feeds number shut cut x y ∧ y ∉ reached := by
  rw [State.fresh, List.mem_eraseDups, List.mem_filter, mem_nextSegments, State.Feeds]
  generalize (∃ e ∈ s.map.valves, _) = next
  simp only [Bool.and_eq_true, bne_iff_ne, Bool.not_eq_true', List.contains_eq_mem, decide_eq_false_iff_not]
  tauto

theorem walk_cons (n x : Nat) (waiting reached : List Nat) : s.walk number shut cut (n + 1) (x :: waiting) reached
    = s.walk number shut cut n (waiting ++ s.fresh number shut cut reached x)
        (reached ++ s.fresh number shut cut reached x) := rfl

/-- Whatever holds of the segments reached and passes from each to what it feeds holds of the whole walk. -/
theorem walk_sound {P : Nat → Prop} (hP : ∀ x y, P x → s.Feeds number shut cut x y → P y) (n : Nat) :
    ∀ waiting reached : List Nat, waiting ⊆ reached → (∀ x ∈ reached, P x) → ∀ x ∈ s.walk number shut cut n waiting reached, P x := by
  induction n with
  | zero => exact fun _ _ _ h => h
  | succ n ih =>
    intro waiting reached hsub h
    cases waiting with
    | nil => exact h
    | cons y waiting =>
      rw [walk_cons]
      obtain ⟨hy, hrest⟩ := List.cons_subset.1 hsub
      refine ih _ _ (List.append_subset.2 ⟨List.subset_append_of_subset_left _ hrest, List.subset_append_right _ _⟩) ?_
      intro x hx
      obtain hx | hx := List.mem_append.1 hx
      · exact h x hx
      · exact hP y x (h y hy) ((mem_fresh s number shut cut).1 hx).1

/-- The segments that a walk can still reach: the ends of valves. -/
def State.ends : Finset Nat := (s.map.valves.flatMap fun e => [e.2.endA, e.2.endB]).toFinset

theorem mem_ends_of_feeds {x y : Nat} (h : s.Feeds number shut cut x y) : y ∈ s.ends := by
  obtain ⟨-, -, e, he, -, hends⟩ := h
  simp only [State.ends, List.mem_toFinset, List.mem_flatMap, List.mem_cons, List.not_mem_nil, or_false]
  exact ⟨e, he, by tauto⟩

theorem card_ends_le : s.ends.card ≤ 2 * s.map.valves.length := by
  refine (List.toFinset_card_le _).trans ?_
  simp [List.length_flatMap]
  omega

/-- A walk with enough steps left takes every segment that waits, so that nothing it reaches feeds a segment outside. -/
theorem walk_closed (n : Nat) : ∀ waiting reached : List Nat,
    (∀ x ∈ reached, x ∉ waiting → ∀ y, s.Feeds number shut cut x y → y ∈ reached) →
    waiting.length + (s.ends \ reached.toFinset).card ≤ n →
    reached ⊆ s.walk number shut cut n waiting reached
      ∧ ∀ x ∈ s.walk number shut cut n waiting reached, ∀ y, s.Feeds number shut cut x y →
          y ∈ s.walk number shut cut n waiting reached := by
  induction n with
  | zero =>
    intro waiting reached hclosed hbound
    have hnil : waiting = [] := List.length_eq_zero_iff.1 (by omega)
    subst hnil
    exact ⟨List.Subset.refl _, fun x hx => hclosed x hx (by simp)⟩
  | succ n ih =>
    intro waiting reached hclosed hbound
    cases waiting with
    | nil => exact ⟨List.Subset.refl _, fun x hx => hclosed x hx (by simp)⟩
    | cons z waiting =>
      rw [walk_cons]
      have hnew (y : Nat) := mem_fresh s number shut cut (reached := reached) (x := z) (y := y)
      have hnodup : (s.fresh number shut cut reached z).Nodup := nodup_eraseDups _
      generalize s.fresh number shut cut reached z = fresh at hnew hnodup
      have hcount : fresh.length + (s.ends \ (reached ++ fresh).toFinset).card ≤ (s.ends \ reached.toFinset).card := by
        rw [← List.toFinset_card_of_nodup hnodup, ← Finset.card_union_of_disjoint]
        · refine Finset.card_le_card fun y hy => ?_
          simp only [Finset.mem_union, Finset.mem_sdiff, List.mem_toFinset, List.mem_append] at hy ⊢
          obtain hy | hy := hy
          · exact ⟨mem_ends_of_feeds s number shut cut ((hnew y).1 hy).1, ((hnew y).1 hy).2⟩
          · exact ⟨hy.1, fun h => hy.2 (.inl h)⟩
        · rw [Finset.disjoint_left]
          intro y hy
          simp only [Finset.mem_sdiff, List.mem_toFinset, List.mem_append] at hy ⊢
          tauto
      have hstep : ∀ x ∈ reached ++ fresh, x ∉ waiting ++ fresh → ∀ y, s.Feeds number shut cut x y → y ∈ reached ++ fresh := by
        intro x hx hwait y hy
        rw [List.mem_append] at hx hwait ⊢
        obtain ⟨hw, hf⟩ := not_or.1 hwait
        have hx := hx.resolve_right hf
        by_cases hreached : y ∈ reached
        · exact .inl hreached
        by_cases hxz : x = z
        · subst hxz; exact .inr ((hnew y).2 ⟨hy, hreached⟩)
        · exact .inl (hclosed x hx (by simp [hxz, hw]) y hy)
      have hleft : (waiting ++ fresh).length + (s.ends \ (reached ++ fresh).toFinset).card ≤ n := by
        rw [List.length_append]
        rw [List.length_cons] at hbound
        omega
      obtain ⟨hsub, hwalk⟩ := ih _ _ hstep hleft
      exact ⟨List.Subset.trans (List.subset_append_left _ _) hsub, hwalk⟩

end walk

/-- Settles O31: what the walk reaches is fed, and what it reaches is closed under feeding. -/
theorem supplyIsReachabilityFromSources : Obligations.SupplyIsReachabilityFromSources := by
  intro s number shut cut x
  have hsource (y : Nat) : y ∈ (s.map.segments.filter fun e => e.2.source && !s.isOut number cut e.1).map (·.1)
      ↔ ∃ r, (y, r) ∈ s.map.segments ∧ r.source = true ∧ s.isOut number cut y = false := by
    simp [and_assoc]
  have hlen : ((s.map.segments.filter fun e => e.2.source && !s.isOut number cut e.1).map (·.1)).length
      ≤ s.map.segments.length := by
    rw [List.length_map]; exact List.length_filter_le _ _
  unfold State.supplied
  dsimp only
  generalize (s.map.segments.filter fun e => e.2.source && !s.isOut number cut e.1).map (·.1) = sources at hsource hlen
  constructor
  · refine walk_sound s number shut cut (P := s.Fed number shut cut) (fun x y hx hy => ?_) _ sources sources
      (List.Subset.refl _) (fun y hy => ?_) x
    · obtain ⟨hne, hout, e, he, hpass, hends⟩ := hy
      exact .through hx he hpass hends hne hout
    · obtain ⟨r, hr, hsrc, hout⟩ := (hsource y).1 hy
      exact .source hr hsrc hout
  · have hcard : (s.ends \ sources.toFinset).card ≤ 2 * s.map.valves.length :=
      (Finset.card_le_card Finset.sdiff_subset).trans (card_ends_le s)
    obtain ⟨hsub, hclosed⟩ := walk_closed s number shut cut (s.map.segments.length + 2 * s.map.valves.length + 1) sources
      sources (fun y hy hwait => absurd hy hwait) (by omega)
    intro hfed
    induction hfed with
    | source hr hsrc hout => exact hsub ((hsource _).2 ⟨_, hr, hsrc, hout⟩)
    | through _ he hpass hends hne hout ih => exact hclosed _ ih _ ⟨hne, hout, _, he, hpass, hends⟩

/-! ### Outage, tallies and consent test (02 R42 to R44) -/

theorem Table.has_iff_mem_keys {α : Type} {t : Table α} (ht : Table.Wf t) {k : Nat} :
    Table.has t k = true ↔ k ∈ Table.keys t := by
  rw [Table.has_iff]
  constructor
  · rintro ⟨x, hx⟩
    exact List.mem_map.2 ⟨_, Table.mem_of_get hx, rfl⟩
  · intro h
    obtain ⟨⟨_, x⟩, hmem, rfl⟩ := List.mem_map.1 h
    exact ⟨x, Table.get_of_mem ht hmem⟩

theorem customers_eq (m : NetworkMap) (segments : List Nat) :
    m.customers segments = (segments.map fun x => ((Table.get m.segments x).map (·.customers)).getD 0).sum := by
  unfold NetworkMap.customers
  congr 2
  funext x
  cases Table.get m.segments x <;> rfl

theorem anyPriority_iff (m : NetworkMap) (segments : List Nat) :
    m.anyPriority segments = true ↔ ∃ x ∈ segments, ∃ r, Table.get m.segments x = some r ∧ r.priority = true := by
  unfold NetworkMap.anyPriority
  rw [List.any_eq_true]
  refine exists_congr fun x => and_congr_right fun _ => ?_
  cases Table.get m.segments x <;> simp

/-- Settles O32. -/
theorem planTalliesOutageAndConsent : Obligations.PlanTalliesOutageAndConsent := by
  intro s inc hwf hcause p customers priority
  have hshort : (s.boundarySet (s.grow inc).region).length ≤ boundaryCap := by
    by_contra h
    have hc : uncontainedCause (s.grow inc).stop (s.boundarySet (s.grow inc).region).length = none := hcause
    unfold uncontainedCause at hc
    split at hc
    · cases hc
    · rw [if_pos (by omega)] at hc; cases hc
  have hboundary : p.boundary = s.boundarySet (s.grow inc).region := List.take_of_length_le hshort
  refine ⟨fun x => ?_, hwf.filter _, customers_eq _ _, customers_eq _ _, ?_, ?_⟩
  · rw [hboundary, ← supplyIsReachabilityFromSources, ← supplyIsReachabilityFromSources, Table.has_iff_mem_keys hwf]
    change x ∈ s.map.newOutage (s.grow inc).region (s.supplied inc.number [] [])
      (s.supplied inc.number (s.boundarySet (s.grow inc).region) (s.grow inc).region) ↔ _
    have hregion : p.region = (s.grow inc).region := rfl
    rw [hregion]
    simp only [NetworkMap.newOutage, List.mem_filter, Bool.and_eq_true, Bool.not_eq_true', List.contains_iff_mem,
      ← Bool.not_eq_true]
    tauto
  · change (s.map.anyPriority p.region || s.map.anyPriority p.outage) = true ↔ _
    rw [Bool.or_eq_true, anyPriority_iff, anyPriority_iff]
    constructor
    · rintro (⟨x, hx, h⟩ | ⟨x, hx, h⟩)
      · exact ⟨x, .inl hx, h⟩
      · exact ⟨x, .inr hx, h⟩
    · rintro ⟨x, hx | hx, h⟩
      · exact .inl ⟨x, hx, h⟩
      · exact .inr ⟨x, hx, h⟩
  · change consentTest s.map.policy inc (p.customersInRegion + p.customersInOutage) p.priorityHit = true ↔ _
    simp [consentTest, or_assoc]

end Sys2Proof.Machine
end

section
/-! PROOFS. What follows an event at the end of its step: which reports are kept, which valves' records are left, and how far
restores go (03 R80, R81; 04 R96, R97; 08 R171). -/

namespace Sys2Proof.Machine

open Sys2Proof

/-! ### Reports that are kept (08 R171) -/

/-- Reports have been raised, and no kind has been masked or unmasked. -/
structure Reported (u w : ReportUnit) : Prop where
  queue : u.queue <+: w.queue
  timeBase : w.timeBase = u.timeBase
  masked : ∀ k, (w.kind k).masked = (u.kind k).masked

namespace Reported

variable {u w x : ReportUnit}

theorem refl (u : ReportUnit) : Reported u u := ⟨List.prefix_refl _, rfl, fun _ => rfl⟩

theorem trans (h : Reported u w) (h' : Reported w x) : Reported u x :=
  ⟨h.queue.trans h'.queue, h'.timeBase.trans h.timeBase, fun k => (h'.masked k).trans (h.masked k)⟩

theorem raise (u : ReportUnit) (r : Report) : Reported u (u.raise r) where
  queue := by simp
  timeBase := by simp
  masked k := by
    obtain ⟨-, e⟩ | ⟨-, -, e⟩ | ⟨-, -, e⟩ := raise_cases u r <;> rw [e]
    · rw [kind_setKind]
      split
      · next h => rw [h]
      · rfl
    all_goals rfl

/-- A report that is kept stays kept. -/
theorem keeps (h : Reported u w) {r : Report} (hr : u.Keeps r) : w.Keeps r := by
  obtain hr | hr | hr := hr
  · exact .inl (h.queue.subset hr)
  · exact .inr (.inl ((h.masked _).trans hr))
  · exact .inr (.inr (hr.trans h.queue.length_le))

end Reported

/-- 08 R171: a report that is raised is kept. -/
theorem keeps_raise (u : ReportUnit) (r : Report) : (u.raise r).Keeps r := by
  obtain ⟨hm, -⟩ | ⟨-, hfull, e⟩ | ⟨-, -, e⟩ := raise_cases u r
  · exact .inr (.inl (((Reported.raise u r).masked _).trans hm))
  · rw [e]; exact .inr (.inr hfull)
  · rw [e]; exact .inl (by simp [ReportUnit.derive])

theorem Quiet.reported {s t : State} (h : Quiet s t) : Reported s.reports t.reports := by
  induction h with
  | trans _ _ ih ih' => exact ih.trans ih'
  | raise => exact .raise _ _
  | _ => exact .refl _

theorem Calm.reported {s t : State} (h : Calm s t) : Reported s.reports t.reports := by
  induction h with
  | quiet h => exact h.reported
  | trans _ _ ih ih' => exact ih.trans ih'
  | planRequest n s => rw [planRequest_only]; exact .refl _
  | _ => exact .refl _

/-- 03 R63: an incident that is to be replanned still is after what the valve drive does. -/
theorem Calm.replans {s t : State} (h : Calm s t) {e : Nat × Incident} (hr : s.Replans e) : t.Replans e := by
  obtain ⟨u, hu, hnum, hpend⟩ := hr
  obtain ⟨w, hw, hc⟩ := (h.slots e.1).1 u hu
  exact ⟨w, hw, hc.number.trans hnum, hc.pending hpend⟩

/-! ### The records of other valves -/

/-- The records of all valves but one are left. -/
def AtValve (v : Nat) (s t : State) : Prop := ∀ u ≠ v, t.dyn u = s.dyn u

namespace AtValve

variable {v : Nat} {s t u : State}

theorem refl (v : Nat) (s : State) : AtValve v s s := fun _ _ => rfl

theorem trans (h : AtValve v s t) (h' : AtValve v t u) : AtValve v s u := fun w hw => (h' w hw).trans (h w hw)

theorem of_dyn (h : ∀ w, t.dyn w = s.dyn w) : AtValve v s t := fun w _ => h w

end AtValve

theorem atValve_onDyn (v : Nat) (f : ValveDyn → ValveDyn) (s : State) : AtValve v s (onDyn v f s) :=
  fun u hu => by rw [dyn_onDyn, if_neg hu]

theorem atValve_onMove (v : Nat) (f : Move → Move) (s : State) : AtValve v s (onMove v f s) := atValve_onDyn v _ s

theorem atValve_issueTimed (v : Nat) (p : ActuatedPart) (target rate preset : Nat) (s : State) :
    AtValve v s (issueTimed v p target rate preset s) := fun u hu => by rw [dyn_issueTimed, if_neg hu]

theorem atValve_endMove (v : Nat) (p : ActuatedPart) (s : State) : AtValve v s (endMove v p s) := atValve_onDyn v _ _

theorem atValve_endAnyMove (v : Nat) (p : ActuatedPart) (s : State) : AtValve v s (endAnyMove v p s) := by
  unfold endAnyMove; split
  · exact atValve_endMove v p s
  · exact .refl v s

theorem atValve_driveBand (v : Nat) (p : ActuatedPart) (s : State) : AtValve v s (driveBand v p s) := by
  unfold driveBand; dsimp only; split <;> exact (atValve_onDyn v _ _).trans (atValve_issueTimed v p _ _ _ _)

theorem atValve_startClosing (v : Nat) (p : ActuatedPart) (n : Nat) (s : State) : AtValve v s (startClosing v p n s) := by
  unfold startClosing; split
  · exact .refl v s
  · exact (atValve_onDyn v _ _).trans (atValve_driveBand v p _)

theorem atValve_driveOpening (v : Nat) (p : ActuatedPart) (s : State) : AtValve v s (driveOpening v p s) := by
  unfold driveOpening; dsimp only; split <;> exact (atValve_onDyn v _ _).trans (atValve_issueTimed v p _ _ _ _)

theorem atValve_startOpening (v : Nat) (p : ActuatedPart) (n : Nat) (s : State) : AtValve v s (startOpening v p n s) :=
  (atValve_onDyn v _ _).trans (atValve_driveOpening v p _)

theorem atValve_requestCrew (v : Nat) (d : Direction) (n : Nat) (s : State) : AtValve v s (requestCrew v d n s) :=
  (atValve_onDyn v _ _)

theorem atValve_releaseActuated (v : Nat) (p : ActuatedPart) (n : Nat) (s : State) :
    AtValve v s (releaseActuated v p n s) := by
  unfold releaseActuated; split
  · split
    · exact atValve_endAnyMove v p s
    · exact (atValve_endAnyMove v p s).trans (atValve_startOpening v p n _)
  · exact .of_dyn fun _ => rfl

theorem atValve_releaseLast (v n : Nat) (s : State) : AtValve v s (releaseLast v n s) := by
  unfold releaseLast; split
  · exact .refl v s
  · split
    · exact atValve_onMove v _ s
    · exact atValve_releaseActuated v _ n s
    · split
      · exact atValve_requestCrew v _ n s
      · exact .refl v s

theorem atValve_releaseOrder (v n : Nat) (s : State) : AtValve v s (releaseOrder v n s) := by
  unfold releaseOrder; split
  · have h : AtValve v s (markStaleForOthers n (onDyn v (fun d => { d with holders := d.holders.filter (· != n) }) s)) :=
      (atValve_onDyn v (fun d => { d with holders := d.holders.filter (· != n) }) s).trans (.of_dyn fun _ => rfl)
    dsimp only; split
    · exact h.trans (atValve_releaseLast v n _)
    · unfold handMove; split
      · exact h.trans (atValve_onMove v _ _)
      · exact h
  · exact .refl v s

/-! ### Moves and crew requests that start (04 R96, R97) -/

/-- What the drive, the engine and the planner do while each line controller keeps its course. -/
structure LinesKept (s t : State) : Prop where
  only : OnlyControl s t
  lines : ∀ l, SameCourse (s.control.get l) (t.control.get l)

namespace LinesKept

variable {s t u : State}

theorem refl (s : State) : LinesKept s s := ⟨.refl s, fun _ => .refl _⟩

theorem trans (h : LinesKept s t) (h' : LinesKept t u) : LinesKept s u :=
  ⟨h.only.trans h'.only, fun l => (h.lines l).trans (h'.lines l)⟩

theorem of_control (h : OnlyControl s t) (hc : t.control = s.control) : LinesKept s t :=
  ⟨h, fun l => by rw [hc]; exact .refl _⟩

theorem foldl {α : Type} {f : State → α → State} (h : ∀ s x, LinesKept s (f s x)) (xs : List α) (s : State) :
    LinesKept s (xs.foldl f s) := by
  induction xs generalizing s with
  | nil => exact .refl s
  | cons x xs ih => exact (h s x).trans (ih _)

theorem partReachable (h : LinesKept s t) (p : ActuatedPart) : t.partReachable p = s.partReachable p := by
  obtain ⟨-, hmap, hsupply, hstations, -⟩ := h.only.fields
  unfold State.partReachable State.station
  rw [hmap, hsupply, hstations, (h.lines p.line).enabled]

theorem reachable (h : LinesKept s t) (v : Nat) : t.reachable v = s.reachable v := by
  obtain ⟨-, hmap, -⟩ := h.only.fields
  unfold State.reachable State.actuated
  rw [hmap]
  cases Table.get s.map.valves v with
  | none => rfl
  | some r =>
    dsimp only
    cases r.kind with
    | manual => rfl
    | actuated p => exact h.partReachable p

end LinesKept

theorem Driven.linesKept {s t : State} (h : Driven s t) : LinesKept s t := ⟨h.only, h.lines⟩

theorem Driven.reachable {s t : State} (h : Driven s t) (v : Nat) : t.reachable v = s.reachable v :=
  h.linesKept.reachable v

theorem Driven.actuated {s t : State} (h : Driven s t) (v : Nat) : t.actuated v = s.actuated v := by
  obtain ⟨-, hmap, -⟩ := h.only.fields
  rw [State.actuated, hmap, State.actuated]

theorem mem_chooseStarter (first : Nat × Nat) (rivals : List (Nat × Nat)) (free : Nat) :
    chooseStarter first rivals free ∈ first :: rivals := by
  unfold chooseStarter
  split
  · exact List.mem_cons_self
  · cases h : (first :: rivals)[Config.startTie free % (rivals.length + 1)]? with
    | none => exact List.mem_cons_self
    | some x => exact List.mem_of_getElem? h

/-- 04 R96: a start is one of a startable valve. -/
theorem startOne_eq_some {s t : State} (h : startOne s = some t) :
    ∃ n v p w, s.startable n v = true ∧ s.actuated v = some p ∧ (w = s ∨ w = nextFree s) ∧ t = startClosing v p n w := by
  unfold startOne at h
  split at h
  · cases h
  · next first rest hstarters =>
    dsimp only at h
    have hmem : chooseStarter first (rest.filter fun x => x.2 = first.2) s.freeCount ∈ s.starters := by
      rw [hstarters]
      exact (List.cons_subset_cons first List.filter_sublist.subset) (mem_chooseStarter _ _ _)
    generalize chooseStarter first (rest.filter fun x => x.2 = first.2) s.freeCount = chosen at h hmem
    obtain ⟨e, -, he⟩ := List.mem_filterMap.1 hmem
    split at he
    · obtain ⟨v, hv, rfl⟩ := Option.map_eq_some_iff.1 he
      have hstart : s.startable e.2.number v = true := by
        have := List.find?_some hv
        exact this
      split at h
      · next p hp =>
        cases h
        refine ⟨_, v, p, _, hstart, hp, ?_, rfl⟩
        split
        · exact .inl rfl
        · exact .inr rfl
      · cases h
    · cases he

/-- Nothing is to be started for a valve: it is ACTUATED, and startable for no incident. -/
structure State.Resting (s : State) (v : Nat) : Prop where
  actuated : s.actuated v ≠ none
  not_startable : ∀ n, s.startable n v = false

theorem State.Resting.of_driven {s t : State} {v : Nat} (h : s.Resting v) (hd : Driven s t) (hv : t.dyn v = s.dyn v) :
    t.Resting v where
  actuated := by rw [hd.actuated]; exact h.actuated
  not_startable n := by
    have := h.not_startable n
    unfold State.startable at this ⊢
    rwa [hd.reachable, hv]

theorem dyn_startRounds {v : Nat} (n : Nat) {s : State} (h : s.Resting v) : (startRounds n s).dyn v = s.dyn v := by
  induction n generalizing s with
  | zero => rfl
  | succ n ih =>
    simp only [startRounds]
    split
    · next t ht =>
      have hd := driven_startOne ht
      obtain ⟨m, u, p, w, hstart, -, hw, rfl⟩ := startOne_eq_some ht
      have hne : v ≠ u := by
        rintro rfl
        rw [h.not_startable m] at hstart
        cases hstart
      have hdyn : (startClosing u p m w).dyn v = s.dyn v := by
        rw [atValve_startClosing u p m w v hne]
        obtain rfl | rfl := hw <;> rfl
      rw [ih (h.of_driven hd hdyn), hdyn]
    · rfl

theorem dyn_startMoves {v : Nat} {s : State} (h : s.Resting v) : (startMoves s).dyn v = s.dyn v := by
  unfold startMoves; split
  · exact dyn_startRounds _ h
  · rfl

/-- A relation that holds of every single crew request holds of all together. -/
theorem crewRequests_rel {R : State → State → Prop} (hrefl : ∀ s, R s s) (htrans : ∀ {s t u}, R s t → R t u → R s u)
    (h : ∀ inc v s, s.crewWanted inc v = true → R s (requestCrew v .close inc.number s)) (s : State) :
    R s (crewRequests s) := by
  unfold crewRequests; split
  · refine forSlots_rel hrefl htrans (fun k inc s hk => ?_) s
    clear hk
    split
    · generalize s.startOrder inc = vs
      induction vs generalizing s with
      | nil => exact hrefl s
      | cons v vs ih =>
        rw [List.foldl_cons]
        refine htrans ?_ (ih _)
        split
        · next hw => exact h inc v s hw
        · exact hrefl s
    · exact hrefl s
  · exact hrefl s

theorem crewWanted_not_actuated {s : State} {inc : Incident} {v : Nat} (h : s.crewWanted inc v = true) :
    s.actuated v = none := by
  unfold State.crewWanted at h
  simp only [Bool.and_eq_true] at h
  obtain ⟨⟨⟨⟨⟨hkind, -⟩, -⟩, -⟩, -⟩, -⟩ := h
  unfold State.actuated
  cases hg : Table.get s.map.valves v with
  | none => rfl
  | some r =>
    rw [hg] at hkind
    have hk : r.kind = .manual := of_decide_eq_true hkind
    simp only [hk]

theorem dyn_crewRequests {v : Nat} {s : State} (h : s.actuated v ≠ none) : (crewRequests s).dyn v = s.dyn v := by
  have hrel : s.map = (crewRequests s).map ∧ (s.actuated v ≠ none → (crewRequests s).dyn v = s.dyn v) := by
    refine crewRequests_rel (R := fun s t => s.map = t.map ∧ (s.actuated v ≠ none → t.dyn v = s.dyn v))
      (fun s => ⟨rfl, fun _ => rfl⟩) (fun {s t u} h h' => ⟨h.1.trans h'.1, fun ha => ?_⟩) (fun inc u s hw => ⟨rfl, fun ha => ?_⟩) s
    · rw [h'.2 (by rw [State.actuated, ← h.1]; exact ha), h.2 ha]
    · refine atValve_requestCrew u _ _ s v ?_
      rintro rfl
      exact ha (crewWanted_not_actuated hw)
  exact hrel.2 h

theorem dyn_retimePolls (s : State) (v : Nat) : (retimePolls s).dyn v = s.dyn v := by
  rw [State.dyn, State.dyn, retimePolls_only]

/-! ### Restores (03 R80, R81) -/

theorem slot_releaseOrders_other (n : Nat) {k j : Nat} (h : j ≠ k) (s : State) :
    (releaseOrders n k s).slot j = s.slot j := by
  induction n generalizing s with
  | zero => rfl
  | succ n ih =>
    rw [releaseOrders]
    split
    · split
      · split
        · rw [ih, State.slot, engine_releaseOrder]
          exact (slot_putSlot s k j _).trans (if_neg h)
        · rfl
      · rfl
    · rfl

theorem slot_completeRestore (k : Nat) (inc : Incident) (s : State) (j : Nat) :
    (completeRestore k inc s).slot j
      = if j = k ∧ (inc.restoreList.isEmpty && s.openingCount inc.number = 0) = true then none else s.slot j := by
  unfold completeRestore
  split
  · next h =>
    have hfree : (markStaleForOthers inc.number (raiseState inc freeCode inc.state.code (freeSlot k s))).slot j
        = (freeSlot k s).slot j := rfl
    rw [hfree, slot_freeSlot]
    simp [h]
  · next h => rw [if_neg (fun hc => h hc.2)]

theorem slot_progressRestore_other {k j : Nat} (h : j ≠ k) (inc : Incident) (s : State) :
    (progressRestore k inc s).slot j = s.slot j := by
  unfold progressRestore
  dsimp only
  split
  · rw [slot_completeRestore, if_neg (fun hc => h hc.1), slot_releaseOrders_other _ h]
  · exact slot_releaseOrders_other _ h s

/-- At most one incident is RESTORING. -/
def State.OneRestore (s : State) : Prop :=
  ∀ j k a b, s.slot j = some a → s.slot k = some b → a.state = .restoring → b.state = .restoring → j = k

theorem oneRestore_of_filter {s : State} (h : (s.engine.slots.filter fun e => e.2.state = .restoring).length ≤ 1) : s.OneRestore := by
  intro j k a b hj hk ha hb
  have hmem {i : Nat} {x : Incident} (hi : s.slot i = some x) (hx : x.state = .restoring) :
      (i, x) ∈ s.engine.slots.filter fun e => e.2.state = .restoring :=
    List.mem_filter.2 ⟨Table.mem_of_get hi, decide_eq_true hx⟩
  have h1 := hmem hj ha
  have h2 := hmem hk hb
  obtain hl | hl := Nat.le_one_iff_eq_zero_or_eq_one.1 h
  · rw [List.length_eq_zero_iff.1 hl] at h1; cases h1
  · obtain ⟨x, hx⟩ := List.length_eq_one_iff.1 hl
    rw [hx, List.mem_singleton] at h1 h2
    exact congrArg Prod.fst (h1.trans h2.symm)

theorem State.OneRestore.of_calm {s t : State} (h : s.OneRestore) (hc : Calm s t) : t.OneRestore := by
  have hback {k : Nat} {b : Incident} (hk : t.slot k = some b) (hb : b.state = .restoring) :
      ∃ a, s.slot k = some a ∧ a.state = .restoring := by
    cases ha : s.slot k with
    | none => rw [(hc.slots k).2 ha] at hk; cases hk
    | some a =>
      obtain ⟨b', hb', hcar⟩ := (hc.slots k).1 a ha
      rw [hk] at hb'; cases hb'
      exact ⟨a, rfl, hcar.restoring_iff.1 hb⟩
  intro j k a b hj hk ha hb
  obtain ⟨a', hj', ha'⟩ := hback hj ha
  obtain ⟨b', hk', hb'⟩ := hback hk hb
  exact h j k a' b' hj' hk' ha' hb'

/-- What is done for one slot. -/
def atSlot (f : Nat → Incident → State → State) (s : State) (k : Nat) : State :=
  match s.slot k with
  | some inc => f k inc s
  | none => s

theorem forSlots_eq (f : Nat → Incident → State → State) (s : State) : forSlots f s = allSlots.foldl (atSlot f) s := rfl

theorem atSlot_some {f : Nat → Incident → State → State} {s : State} {k : Nat} {inc : Incident} (h : s.slot k = some inc) :
    atSlot f s k = f k inc s := by
  unfold atSlot; rw [h]

/-- Slots for whose incidents there is nothing to do. -/
theorem foldl_atSlot_idle {f : Nat → Incident → State → State} {s : State} {ks : List Nat}
    (h : ∀ j ∈ ks, ∀ a, s.slot j = some a → f j a s = s) : ks.foldl (atSlot f) s = s := by
  induction ks with
  | nil => rfl
  | cons j ks ih =>
    have hj : atSlot f s j = s := by
      unfold atSlot
      split
      · next a ha => exact h j List.mem_cons_self a ha
      · rfl
    rw [List.foldl_cons, hj]
    exact ih fun i hi => h i (List.mem_cons_of_mem _ hi)

/-- 03 R80: the restores of a state with one incident RESTORING are that incident's restore. -/
theorem progressRestores_one {s : State} (h : s.OneRestore) {k : Nat} {inc : Incident} (hk3 : k ≤ 3)
    (hk : s.slot k = some inc) (hr : inc.state = .restoring) : progressRestores s = progressRestore k inc s := by
  have hnot (j : Nat) (hj : j ≠ k) : ∀ a, s.slot j = some a → a.state ≠ .restoring :=
    fun a ha hra => hj (h j k a inc ha hk hra hr)
  obtain ⟨before, after, hsplit⟩ := List.append_of_mem (show k ∈ allSlots by
    simp only [allSlots, List.mem_cons, List.not_mem_nil, or_false]; omega)
  have hnodup : (before ++ k :: after).Nodup := by rw [← hsplit]; decide
  obtain ⟨-, hk', hdis⟩ := List.nodup_append.1 hnodup
  have hbefore : ∀ j ∈ before, j ≠ k := fun j hj e => hdis j hj k List.mem_cons_self e
  have hafter : ∀ j ∈ after, j ≠ k := fun j hj e => (List.nodup_cons.1 hk').1 (e ▸ hj)
  have hidle : before.foldl (atSlot fun slot inc s => if inc.state = .restoring then progressRestore slot inc s else s) s
      = s := foldl_atSlot_idle fun j hj a ha => if_neg (hnot j (hbefore j hj) a ha)
  unfold progressRestores
  rw [forSlots_eq, hsplit, List.foldl_append, List.foldl_cons, hidle, atSlot_some hk, if_pos hr]
  refine foldl_atSlot_idle fun j hj a ha => ?_
  rw [slot_progressRestore_other (hafter j hj)] at ha
  exact if_neg (hnot j (hafter j hj) a ha)

theorem exists_opening {s : State} (h : Table.Wf s.drive.valves) (n : Nat) :
    ∃ moving : List Nat, moving.Nodup ∧ moving.length = s.openingCount n ∧ ∀ v ∈ moving, s.Opens n v := by
  refine ⟨(s.drive.valves.filter fun e => e.2.movesFor .openUp n).map (·.1), ?_, ?_, fun v hv => ?_⟩
  · exact (h.sublist (List.filter_sublist.map _)).imp Nat.ne_of_lt
  · rw [List.length_map, State.openingCount, List.countP_eq_length_filter]
  · obtain ⟨⟨u, d⟩, he, rfl⟩ := List.mem_map.1 hv
    obtain ⟨hmem, hmoves⟩ := List.mem_filter.1 he
    unfold State.Opens State.dyn
    rw [Table.get_of_mem h hmem]
    unfold ValveDyn.movesFor at hmoves
    cases hm : d.move with
    | none => rw [hm] at hmoves; cases hmoves
    | some m =>
      rw [hm] at hmoves
      simp only [Bool.and_eq_true, decide_eq_true_eq] at hmoves
      exact ⟨m, hm, hmoves.1, hmoves.2⟩

/-- 03 R80: the release orders stop at the end of the list or at the allowance. -/
theorem releaseOrders_stop (n : Nat) {k : Nat} {s : State} {inc : Incident} (hk : s.slot k = some inc)
    (hn : inc.restoreList.length ≤ n) :
    ∃ rest, (releaseOrders n k s).slot k = some { inc with restoreList := rest }
      ∧ (rest ≠ [] → s.map.policy.parallel ≤ (releaseOrders n k s).openingCount inc.number) := by
  induction n generalizing s inc with
  | zero =>
    refine ⟨inc.restoreList, hk, fun h => absurd (List.length_eq_zero_iff.1 (Nat.le_zero.1 hn)) h⟩
  | succ n ih =>
    simp only [releaseOrders, hk]
    split
    · next v rest hlist =>
      split
      · have hslot : (releaseOrder v inc.number (putSlot k { inc with restoreList := rest } s)).slot k
            = some { inc with restoreList := rest } := by
          rw [State.slot, engine_releaseOrder]; exact slot_putSlot_same s k _
        have hmap : (releaseOrder v inc.number (putSlot k { inc with restoreList := rest } s)).map = s.map :=
          (quiet_releaseOrder _ _ _).map
        rw [hlist] at hn
        obtain ⟨rest', hrest, hcount⟩ := ih hslot (Nat.le_of_succ_le_succ hn)
        rw [hmap] at hcount
        exact ⟨rest', hrest, hcount⟩
      · next hfull => exact ⟨inc.restoreList, hk, fun _ => Nat.not_lt.1 hfull⟩
    · next hlist => exact ⟨inc.restoreList, hk, fun h => absurd hlist h⟩

/-- 03 R80, R81: a restore that is not over waits for its opening moves. -/
theorem restoreWaits_progressRestore {k : Nat} {s : State} {inc : Incident} (hk : s.slot k = some inc)
    (hr : inc.state = .restoring) (hv : s.ValvesSound) :
    ∀ x, (progressRestore k inc s).slot k = some x → (progressRestore k inc s).RestoreWaits x := by
  intro x hx
  have hkeep := keeps_releaseOrders inc.restoreList.length k hk hr
  have hmap : (releaseOrders inc.restoreList.length k s).map = s.map :=
    ((driven_releaseOrders _ _ _ _ hk hr).1.only.fields).2.1
  obtain ⟨rest, hslot, hcount⟩ := releaseOrders_stop inc.restoreList.length hk le_rfl
  unfold progressRestore at hx ⊢
  simp only [hslot] at hx ⊢
  have hwf := (hkeep.blocks.valves hv).1
  generalize releaseOrders inc.restoreList.length k s = t at *
  obtain ⟨moving, hnd, hlen, hopens⟩ := exists_opening hwf inc.number
  rw [slot_completeRestore] at hx
  by_cases hover : (rest.isEmpty && t.openingCount inc.number = 0) = true
  · rw [if_pos ⟨rfl, hover⟩] at hx; cases hx
  · rw [if_neg (fun h => hover h.2), hslot] at hx
    cases hx
    rw [completeRestore, if_neg hover]
    refine ⟨fun hne => ⟨moving, hnd, ?_, hopens⟩, fun hnil => ?_⟩
    · rw [hmap, hlen]; exact hcount hne
    · have hnil' : rest = [] := hnil
      have hpos : t.openingCount inc.number ≠ 0 := by simpa [hnil'] using hover
      rw [← hlen, ne_eq, List.length_eq_zero_iff] at hpos
      obtain ⟨v, hv⟩ := List.exists_mem_of_ne_nil _ hpos
      exact ⟨v, hopens v hv⟩

/-- Every move is left as it is. -/
def MovesKept (s t : State) : Prop := ∀ v m, (s.dyn v).move = some m → (t.dyn v).move = some m

theorem MovesKept.refl (s : State) : MovesKept s s := fun _ _ h => h

theorem MovesKept.trans {s t u : State} (h : MovesKept s t) (h' : MovesKept t u) : MovesKept s u :=
  fun v m hm => h' v m (h v m hm)

theorem movesKept_startOne {s t : State} (h : startOne s = some t) : MovesKept s t := by
  obtain ⟨n, v, p, w, hstart, -, hw, rfl⟩ := startOne_eq_some h
  intro u m hm
  have hne : u ≠ v := by
    rintro rfl
    simp [State.startable, hm] at hstart
  rw [atValve_startClosing v p n w u hne]
  obtain rfl | rfl := hw
  · exact hm
  · exact hm

theorem movesKept_startMoves (s : State) : MovesKept s (startMoves s) := by
  have hrounds (n : Nat) : ∀ s, MovesKept s (startRounds n s) := by
    induction n with
    | zero => exact .refl
    | succ n ih =>
      intro s
      simp only [startRounds]
      split
      · exact (movesKept_startOne ‹_›).trans (ih _)
      · exact .refl s
  unfold startMoves; split
  · exact hrounds _ s
  · exact .refl s

theorem movesKept_crewRequests (s : State) : MovesKept s (crewRequests s) :=
  crewRequests_rel .refl .trans (fun inc v s _ u m hm => by
    unfold requestCrew
    rw [dyn_onDyn]
    split
    · next e => rw [← e]; exact hm
    · exact hm) s

theorem MovesKept.restoreWaits {s t : State} (h : MovesKept s t) (hmap : t.map = s.map) {inc : Incident}
    (hw : s.RestoreWaits inc) : t.RestoreWaits inc := by
  have hopens {v : Nat} (hv : s.Opens inc.number v) : t.Opens inc.number v := by
    obtain ⟨m, hm, hd⟩ := hv
    exact ⟨m, h v m hm, hd⟩
  refine ⟨fun hne => ?_, fun hnil => ?_⟩
  · obtain ⟨moving, hnd, hlen, hmoving⟩ := hw.1 hne
    exact ⟨moving, hnd, by rw [hmap]; exact hlen, fun v hv => hopens (hmoving v hv)⟩
  · obtain ⟨v, hv⟩ := hw.2 hnil
    exact ⟨v, hopens hv⟩

/-- What of the settling follows the restores. -/
theorem quiet_starts (s : State) : Quiet s (retimePolls (crewRequests (startMoves s))) :=
  ((quiet_startMoves s).trans (quiet_crewRequests _)).trans (quiet_retimePolls _)

theorem movesKept_starts (s : State) : MovesKept s (retimePolls (crewRequests (startMoves s))) :=
  ((movesKept_startMoves s).trans (movesKept_crewRequests _)).trans fun v m hm => by rw [dyn_retimePolls]; exact hm

/-- 03 R80, R81: after the settling, a restore that is not over waits for its opening moves. -/
theorem restoreWaits_settle {s : State} (hs : s.SlotsSound) (hv : s.ValvesSound) (hone : s.OneRestore) {k : Nat}
    {inc : Incident} (hk : (settle s).slot k = some inc) (hr : inc.state = .restoring) : (settle s).RestoreWaits inc := by
  have hquiet := quiet_starts (progressRestores s)
  have hmoves := movesKept_starts (progressRestores s)
  have hk' : (progressRestores s).slot k = some inc := (hquiet.slot k).symm.trans hk
  refine hmoves.restoreWaits hquiet.map ?_
  by_cases hex : ∃ j a, s.slot j = some a ∧ a.state = .restoring
  · obtain ⟨j, a, hj, ha⟩ := hex
    have hj3 : j ≤ 3 := (hs.2.1 (j, a) (Table.mem_of_get hj)).1
    rw [progressRestores_one hone hj3 hj ha] at hk' ⊢
    by_cases hjk : k = j
    · subst hjk
      exact restoreWaits_progressRestore hj ha hv inc hk'
    · rw [slot_progressRestore_other hjk] at hk'
      exact absurd (hone k j inc a hk' hj hr ha) hjk
  · have hnone : progressRestores s = s := by
      unfold progressRestores
      rw [forSlots_eq]
      exact foldl_atSlot_idle fun j _ a ha => if_neg fun har => hex ⟨j, a, ha, har⟩
    rw [hnone] at hk'
    exact absurd ⟨k, inc, hk', hr⟩ hex

/-- 03 R80, R81: an event that leaves drive and engine, then does what the valve drive does, and then settles, takes every
restore as far as it goes. -/
theorem restoreGoesOn_of_settle {s s' w t : State} (hd : s'.drive = s.drive) (he : s'.engine = s.engine) (hc : Calm s' w)
    (hslots : t.engine.slots = (settle w).engine.slots) (hdrive : t.drive = (settle w).drive)
    (hmap : t.map = (settle w).map) : RestoreGoesOn s t := by
  intro hs hv hlen e hmem hr
  have hs' : s'.SlotsSound := by rw [State.SlotsSound, he]; exact hs
  have hv' : s'.ValvesSound := by rw [State.ValvesSound, hd]; exact hv
  have hone : s'.OneRestore := oneRestore_of_filter (by rw [he]; exact hlen)
  have hw := (hc.keeps.engine hs').slots
  have hwf := ((keeps_settle w).engine hw).slots.wf
  rw [hslots] at hmem
  have hwaits := restoreWaits_settle hw (hc.keeps.blocks.valves hv') (hone.of_calm hc) (Table.get_of_mem hwf hmem) hr
  refine MovesKept.restoreWaits (fun v m hm => ?_) hmap hwaits
  rw [State.dyn, hdrive]; exact hm

/-! ### The settling and one valve's record -/

/-- 03 R80: the restores leave the record of a valve on no restore list. -/
theorem dyn_progressRestores {v : Nat} {s : State} (h : s.Unlisted v) : (progressRestores s).dyn v = s.dyn v := by
  have horders (n : Nat) : ∀ k s inc, s.slot k = some inc → v ∉ inc.restoreList →
      (releaseOrders n k s).dyn v = s.dyn v := by
    induction n with
    | zero => intros; rfl
    | succ n ih =>
      intro k s inc hk hlist
      simp only [releaseOrders, hk]
      split
      · next u rest hrest =>
        rw [hrest, List.mem_cons, not_or] at hlist
        split
        · rw [ih k _ { inc with restoreList := rest } ?_ hlist.2, atValve_releaseOrder u _ _ v hlist.1, dyn_putSlot]
          rw [State.slot, engine_releaseOrder]
          exact slot_putSlot_same s k _
        · rfl
      · rfl
  have hlist : ∀ k inc, s.slot k = some inc → inc.state = .restoring → v ∉ inc.restoreList :=
    fun k inc hk hr => h (k, inc) (Table.mem_of_get hk) hr
  have hone (k : Nat) (inc : Incident) (s : State) (hk : s.slot k = some inc) (hv : v ∉ inc.restoreList) :
      (progressRestore k inc s).dyn v = s.dyn v := by
    rw [← horders inc.restoreList.length k s inc hk hv]
    unfold progressRestore completeRestore
    dsimp only
    split
    · split
      · rfl
      · rfl
    · rfl
  have hfold : ∀ (ks : List Nat) (s : State), ks.Nodup → (∀ k ∈ ks, ∀ inc, s.slot k = some inc → inc.state = .restoring → v ∉ inc.restoreList) →
      (ks.foldl (atSlot fun slot inc s => if inc.state = .restoring then progressRestore slot inc s else s) s).dyn v
        = s.dyn v := by
    intro ks
    induction ks with
    | nil => intros; rfl
    | cons k ks ih =>
      intro s hnd hks
      obtain ⟨hk, hnd⟩ := List.nodup_cons.1 hnd
      rw [List.foldl_cons]
      cases hslot : s.slot k with
      | none =>
        have : atSlot (fun slot inc s => if inc.state = .restoring then progressRestore slot inc s else s) s k = s := by
          unfold atSlot; rw [hslot]
        rw [this]
        exact ih s hnd fun j hj => hks j (List.mem_cons_of_mem _ hj)
      | some inc =>
        rw [atSlot_some hslot]
        split
        · next hr =>
          rw [ih _ hnd fun j hj a ha => ?_, hone k inc s hslot (hks k List.mem_cons_self inc hslot hr)]
          rw [slot_progressRestore_other (show j ≠ k from fun e => hk (e ▸ hj))] at ha
          exact hks j (List.mem_cons_of_mem _ hj) a ha
        · exact ih s hnd fun j hj => hks j (List.mem_cons_of_mem _ hj)
  unfold progressRestores
  rw [forSlots_eq]
  exact hfold allSlots s (by decide) fun k _ => hlist k

/-- 03 R80, 04 R96, R97: the settling leaves the record of a valve on no restore list for which nothing is to be started. -/
theorem dyn_settle {v : Nat} {s : State} (h : s.Unlisted v) (hrest : s.Resting v) : (settle s).dyn v = s.dyn v := by
  have hp := dyn_progressRestores h
  have hrest' := hrest.of_driven (driven_progressRestores s) hp
  have hstart := dyn_startMoves hrest'
  have hrest'' := hrest'.of_driven (driven_startMoves _) hstart
  unfold settle
  rw [dyn_retimePolls, dyn_crewRequests hrest''.actuated, hstart, hp]

/-! ### The settling and the reports -/

theorem reported_progressRestore (k : Nat) (inc : Incident) (s : State) :
    Reported s.reports (progressRestore k inc s).reports := by
  have horders (n : Nat) : ∀ k s, Reported s.reports (releaseOrders n k s).reports := by
    induction n with
    | zero => intros; exact .refl _
    | succ n ih =>
      intro k s
      rw [releaseOrders]
      split
      · next inc hk =>
        split
        · next v rest hrest =>
          split
          · exact ((quiet_releaseOrder v inc.number (putSlot k { inc with restoreList := rest } s)).reported).trans (ih _ _)
          · exact .refl _
        · exact .refl _
      · exact .refl _
  refine (horders inc.restoreList.length k s).trans ?_
  unfold progressRestore
  dsimp only
  split
  · unfold completeRestore
    split
    · exact .raise _ _
    · exact .refl _
  · exact .refl _

theorem reported_progressRestores (s : State) : Reported s.reports (progressRestores s).reports := by
  refine forSlots_rel (R := fun s t => Reported s.reports t.reports) (fun _ => .refl _) (fun h h' => h.trans h')
    (fun k inc s _ => ?_) s
  split
  · exact reported_progressRestore k inc s
  · exact .refl _

theorem reported_settle (s : State) : Reported s.reports (settle s).reports :=
  (reported_progressRestores s).trans (quiet_starts _).reported

/-- 03 R63: an incident that is to be replanned and not RESTORING still is after the settling. -/
theorem replans_settle {s : State} {e u : Incident} {k : Nat} (hu : s.slot k = some u) (hn : u.number = e.number)
    (hp : u.replanPending = true) (hr : u.state ≠ .restoring) : (settle s).Replans (k, e) :=
  ⟨u, (driven_settle s).slots k u hu hr, hn, hp⟩

end Sys2Proof.Machine
end

section
/-! PROOFS. The move timer's two expiries: O33 (04 R98, R108 to R111; 03 R63). -/

namespace Sys2Proof.Machine

open Sys2Proof

/-! ### Replanning for a valve (03 R63) -/

/-- 03 R63: what the request to replan makes of an incident, with the valve's holders. -/
def Incident.relied (v : Nat) (holders : List Nat) (inc : Incident) : Incident :=
  if inc.reliesOn v holders then { inc with replanPending := true } else inc

theorem slot_replanRequest (v : Nat) (s : State) {k : Nat} (hk : k ≤ 3) :
    (replanRequest v s).slot k = (s.slot k).map (Incident.relied v (s.dyn v).holders) := by
  refine (slot_forSlots (P := fun t => t.dyn v = s.dyn v) (fun k inc t ht hk => ?_) rfl).2 k hk
  rw [ht, Incident.relied]
  split
  · exact ⟨((onlyNotices_requestReplan k inc t).dyn v).trans ht, slot_requestReplan k inc t⟩
  · refine ⟨ht, fun j => ?_⟩
    split
    · next e => rw [e, hk]
    · rfl

/-- 03 R63: the incidents that rely on a valve are replanned. -/
theorem replans_replanRequest {v : Nat} {s : State} {k : Nat} {inc : Incident} (h3 : k ≤ 3) (hk : s.slot k = some inc)
    (hr : inc.reliesOn v (s.dyn v).holders = true) :
    (replanRequest v s).slot k = some { inc with replanPending := true } := by
  rw [slot_replanRequest v s h3, hk, Option.map_some, Incident.relied, if_pos hr]

theorem onlyNotices_failedMove (v : Nat) (m : Move) (detail : Nat) (s : State) : OnlyNotices s (failedMove v m detail s) := by
  unfold failedMove; dsimp only
  split
  · exact (onlyNotices_raiseFailed v detail _ s).trans (onlyNotices_replanRequest v _)
  · exact onlyNotices_raiseFailed v detail _ s

/-- 04 R110: the failure of a closing move with a starter has the incidents replanned that rely on the valve. -/
theorem replans_failedMove {v : Nat} {m : Move} {detail : Nat} {s : State} (hdir : m.direction = .close)
    (hstarter : m.starter ≠ none) {k : Nat} {inc : Incident} (h3 : k ≤ 3) (hk : s.slot k = some inc)
    (hr : inc.reliesOn v (s.dyn v).holders = true) :
    (failedMove v m detail s).slot k = some { inc with replanPending := true } := by
  have hboth : (m.direction = .close && m.starter.isSome) = true := by
    simp [hdir, Option.isSome_iff_ne_none, hstarter]
  unfold failedMove
  dsimp only
  rw [if_pos hboth]
  exact replans_replanRequest h3 hk hr

/-- A calm operation leaves the restore lists. -/
theorem State.Unlisted.of_calm {s t : State} {v : Nat} (h : s.Unlisted v) (hs : s.SlotsSound) (hc : Calm s t) :
    t.Unlisted v := by
  intro e he hr
  have hslot := Table.get_of_mem (hc.keeps.engine hs).slots.wf he
  cases ha : s.slot e.1 with
  | none =>
    have hnone := (hc.slots e.1).2 ha
    rw [State.slot, hslot] at hnone
    cases hnone
  | some a =>
    obtain ⟨b, hb, hcar⟩ := (hc.slots e.1).1 a ha
    rw [State.slot, hslot] at hb
    cases hb
    have har := hcar.restoring_iff.1 hr
    rw [hcar.restoreList]
    exact h (e.1, a) (Table.mem_of_get ha) har

/-! ### The DRIVE of a phase (04 R98, R101, R111) -/

/-- 04 R101: a valve's record after the DRIVE of a phase with a timer of its own. -/
def ValveDyn.driven (d : ValveDyn) (motion : Motion) (target rate serial preset : Nat) : ValveDyn :=
  { d with
    motion := motion
    move := d.move.map fun m =>
      { m with
        phaseTarget := target
        rate := rate
        standing := .stopped
        setsTimer := some (serial, preset)
        command := some ⟨.drive target rate, serial, false⟩ } }

theorem dyn_drivePhase (v : Nat) (p : ActuatedPart) (motion : Motion) (target rate preset : Nat) (s : State) :
    (issueTimed v p target rate preset (setMotion v motion s)).dyn v
      = (s.dyn v).driven motion target rate s.drive.serial preset := by
  rw [dyn_issueTimed, if_pos rfl, setMotion, dyn_onDyn_same]
  rfl

theorem dyn_driveBand_fast {v : Nat} {p : ActuatedPart} {s : State} (h : (s.dyn v).position.getD 0 < p.throttlePoint) :
    (driveBand v p s).dyn v = (s.dyn v).driven .closingFast p.throttlePoint p.fast s.drive.serial
      (timerOf (p.closeTime ((s.dyn v).position.getD 0))) := by
  unfold driveBand
  dsimp only
  rw [if_pos h, dyn_drivePhase]

theorem dyn_driveBand_slow {v : Nat} {p : ActuatedPart} {s : State} (h : p.throttlePoint ≤ (s.dyn v).position.getD 0) :
    (driveBand v p s).dyn v = (s.dyn v).driven .closingSlow 1000 p.slow s.drive.serial
      (timerOf (p.closeTime ((s.dyn v).position.getD 0))) := by
  unfold driveBand
  dsimp only
  rw [if_neg (Nat.not_lt.2 h), dyn_drivePhase]

theorem atLeast_iff (r : Reading) {n : Nat} (hn : n ≠ 0) : r.atLeast n = true ↔ n ≤ r.getD 0 := by
  cases r with
  | none => simp only [Reading.atLeast, Option.getD_none]; constructor
            · intro h; cases h
            · intro h; omega
  | some x => simp [Reading.atLeast]

/-- 04 R100: the record of a valve whose closing move has completed. -/
theorem dyn_completeClosing (v : Nat) (p : ActuatedPart) (m : Move) (s : State) :
    (completeClosing v p m s).dyn v
      = { s.dyn v with move := none, motion := .idle, operability := (s.dyn v).operability.redeemed } := by
  unfold completeClosing
  dsimp only
  rw [dyn_raise, (redeem_spec v _).same, endMove, clearMove, dyn_onDyn_same]
  rfl

/-! ### What a move's own part leaves -/

theorem onlyControl_issueTimed (v : Nat) (p : ActuatedPart) (target rate preset : Nat) (s : State) :
    OnlyControl s (issueTimed v p target rate preset s) := (driven_issueTimed v p target rate preset s).only

theorem onlyControl_completeClosing (v : Nat) (p : ActuatedPart) (m : Move) (s : State) :
    OnlyControl s (completeClosing v p m s) := by
  unfold completeClosing
  dsimp only
  exact ((driven_endMove v p s).only.trans (redeem_spec v _).1).trans (driven_raise _ _ _ _ _).only

theorem onlyControl_resumeClosing (v : Nat) (p : ActuatedPart) (m : Move) (s : State) :
    OnlyControl s (resumeClosing v p m s) := by
  unfold resumeClosing
  split
  · exact onlyControl_completeClosing v p m s
  · exact (driven_driveBand v p s).only

theorem onlyControl_reissuePhase (v : Nat) (p : ActuatedPart) (m : Move) (s : State) :
    OnlyControl s (reissuePhase v p m s) := by
  unfold reissuePhase
  split
  · exact onlyControl_issueTimed v p _ _ _ s
  · exact onlyControl_resumeClosing v p m s
  · exact onlyControl_resumeClosing v p m s
  · exact (driven_driveCharge v p s).only
  · exact (driven_driveOpen v p _ s).only
  · exact .refl s

theorem OnlyControl.actuated {s t : State} (h : OnlyControl s t) (v : Nat) : t.actuated v = s.actuated v := by
  obtain ⟨-, hmap, -⟩ := h.fields
  rw [State.actuated, hmap, State.actuated]

theorem State.Unlisted.of_engine {s t : State} {v : Nat} (h : s.Unlisted v) (he : t.engine = s.engine) : t.Unlisted v := by
  rw [State.Unlisted, he]; exact h

/-- A valve with a move, or closed-confirmed, or INOPERABLE, or unreachable, is startable for no incident. -/
theorem resting_of {s : State} {v : Nat} {p : ActuatedPart} (ha : s.actuated v = some p)
    (h : (s.dyn v).move.isSome = true ∨ (s.dyn v).confirmed = true ∨ (s.dyn v).operability = .inoperable
      ∨ s.reachable v = false) : s.Resting v where
  actuated := by simp [ha]
  not_startable n := by
    unfold State.startable
    obtain h | h | h | h := h
    · cases hm : (s.dyn v).move with
      | none => rw [hm] at h; cases h
      | some m => simp [hm]
    all_goals simp [h]

/-! ### The first expiry (04 R108) -/

/-- 04 R108: the operability of a valve whose move timer has expired once. -/
abbrev Operability.suspected (x : Operability) : Operability := if x = .operable then .suspect else x

/-- 04 R108: the valve's record as the DRIVE of the phase is issued again. -/
abbrev ValveDyn.expired (d : ValveDyn) (m : Move) : ValveDyn :=
  { d with operability := d.operability.suspected, move := some { m with timerLeft := 0, expiries := 1 } }

/-- 04 R108: the state in which the DRIVE of the phase is issued again. -/
def expiredOnce (v : Nat) (s : State) : State :=
  onMove v (fun m => { m with timerLeft := 0, expiries := 1 })
    (if (s.dyn v).operability = .operable then setOperability v .suspect s else s)

theorem expiredOnce_spec {v : Nat} {s : State} {m : Move} (hm : (s.dyn v).move = some m) :
    RecordSet v ((s.dyn v).expired m) s (expiredOnce v s) ∧ (expiredOnce v s).drive.serial = s.drive.serial := by
  have hset : RecordSet v { s.dyn v with operability := (s.dyn v).operability.suspected } s
      (if (s.dyn v).operability = .operable then setOperability v .suspect s else s) := by
    unfold Operability.suspected
    split
    · exact (setOperability_spec v .suspect s).1
    · exact recordSet_self v s
  have hserial : (if (s.dyn v).operability = .operable then setOperability v .suspect s else s).drive.serial
      = s.drive.serial := by
    unfold setOperability
    split
    · split <;> rfl
    · rfl
  unfold expiredOnce
  generalize (if (s.dyn v).operability = .operable then setOperability v .suspect s else s) = w at hset hserial
  have h := hset.trans (recordSet_onDyn v (fun d => { d with move := d.move.map fun m => { m with timerLeft := 0, expiries := 1 } }) w)
  rw [hset.same] at h
  simp only [hm, Option.map_some] at h
  exact ⟨h, hserial⟩

section reissue

variable {v : Nat} {p : ActuatedPart} {m : Move} {s : State}

theorem reissuePhase_backoff (h : (s.dyn v).motion = .backoff) : (reissuePhase v p m s).dyn v
    = (s.dyn v).driven .backoff m.phaseTarget p.fast s.drive.serial (timerOf (ceilDiv 20 p.fast)) := by
  unfold reissuePhase
  simp only [h]
  unfold reissueBackoff
  rw [dyn_issueTimed, if_pos rfl, ValveDyn.driven, ← h]
  rfl

theorem reissuePhase_closing (h : (s.dyn v).motion = .closingFast ∨ (s.dyn v).motion = .closingSlow) :
    reissuePhase v p m s = resumeClosing v p m s := by
  unfold reissuePhase
  obtain h | h := h <;> simp only [h]

theorem reissuePhase_charging (h : (s.dyn v).motion = .charging) : (reissuePhase v p m s).dyn v
    = (s.dyn v).driven .charging p.chargeTarget p.slow s.drive.serial
        (timerOf (p.chargeTime ((s.dyn v).position.getD 1000))) := by
  unfold reissuePhase
  simp only [h]
  exact dyn_drivePhase v p _ _ _ _ s

theorem reissuePhase_opening (h : (s.dyn v).motion = .opening) : (reissuePhase v p m s).dyn v
    = (s.dyn v).driven .opening 0 p.fast s.drive.serial (timerOf (p.openTime ((s.dyn v).position.getD 1000))) := by
  unfold reissuePhase
  simp only [h]
  exact dyn_drivePhase v p _ _ _ _ s

theorem resumeClosing_open (h : (s.dyn v).position.getD 0 < 995) : resumeClosing v p m s = driveBand v p s := by
  unfold resumeClosing
  rw [if_neg]
  rw [atLeast_iff _ (by decide)]
  exact Nat.not_le.2 h

theorem resumeClosing_closed (h : 995 ≤ (s.dyn v).position.getD 0) : resumeClosing v p m s = completeClosing v p m s := by
  unfold resumeClosing
  exact if_pos ((atLeast_iff _ (by decide)).2 h)

end reissue

/-! ### The second expiry (04 R108) -/

/-- 04 R108: the state in which the move fails. -/
def expiredTwice (v : Nat) (p : ActuatedPart) (s : State) : State :=
  clearMove v (offerOnce p.line (entryFor v p .stop s.drive.serial) (takeSerial (setOperability v .inoperable s)))

theorem expiredTwice_spec (v : Nat) (p : ActuatedPart) (s : State) :
    RecordSet v { s.dyn v with operability := .inoperable, move := none, motion := .idle } s (expiredTwice v p s) := by
  have hset := (setOperability_spec v .inoperable s).1
  have hoffer : RecordSet v { s.dyn v with operability := .inoperable } s
      (offerOnce p.line (entryFor v p .stop s.drive.serial) (takeSerial (setOperability v .inoperable s))) :=
    ⟨hset.1.trans ((driven_takeSerial _).trans (driven_offerOnce _ _ _)).only, fun u => hset.2 u⟩
  have h := hoffer.trans (recordSet_onDyn v (fun d => { d with move := none, motion := .idle }) _)
  rwa [hoffer.same] at h

theorem quiet_expiredTwice (v : Nat) (p : ActuatedPart) (s : State) : Quiet s (expiredTwice v p s) :=
  (((quiet_setOperability v .inoperable s).trans (.takeSerial _)).trans (quiet_offerOnce _ _ _)).trans (quiet_clearMove v _)

/-- Settles O33: the first expiry by phase, the second by the failure of the move. -/
theorem moveTimerExpiresTwice : Obligations.MoveTimerExpiresTwice := by
  intro s v p m hs hact hm hlist
  have hexpiry : moveTimerExpiry v s = if m.standing = .running then expireMove v p m s else s := by
    unfold moveTimerExpiry; simp only [hact, hm]
  have hyields {t : State} (h : moveTimerExpiry v s = t) : Yields (.moveTimerExpiry v) s t :=
    congrArg Host.Outcome.next h
  refine ⟨fun hstop => hyields (hexpiry.trans (if_neg hstop)), fun hrun hexp => ?_, fun hrun hexp => ?_⟩
  · intro d position again
    have hfirst : expireMove v p m s = settle (reissuePhase v p m (expiredOnce v s)) := by
      unfold expireMove; rw [if_pos hexp]; rfl
    obtain ⟨hset, hserial⟩ := expiredOnce_spec hm
    have honly := hset.1.trans (onlyControl_reissuePhase v p m _)
    have hengine : (reissuePhase v p m (expiredOnce v s)).engine = s.engine := by
      have h : firstExpiry v p m s = reissuePhase v p m (expiredOnce v s) := rfl
      rw [← h, (quiet_firstExpiry v p m s).engine]
    have hsettled (h : ((reissuePhase v p m (expiredOnce v s)).dyn v).move.isSome = true
        ∨ ((reissuePhase v p m (expiredOnce v s)).dyn v).confirmed = true) :
        (settle (reissuePhase v p m (expiredOnce v s))).dyn v = (reissuePhase v p m (expiredOnce v s)).dyn v := by
      refine dyn_settle (hlist.of_engine hengine) (resting_of ((honly.actuated v).trans hact) ?_)
      obtain h | h := h
      · exact .inl h
      · exact .inr (.inl h)
    have hphase {motion : Motion} {target rate preset : Nat} (h : (reissuePhase v p m (expiredOnce v s)).dyn v
        = ((s.dyn v).expired m).driven motion target rate s.drive.serial preset) :
        (settle (reissuePhase v p m (expiredOnce v s))).dyn v = again motion target rate preset :=
      (hsettled (.inl (by rw [h]; rfl))).trans h
    have hrecord := hset.same
    refine ⟨settle (reissuePhase v p m (expiredOnce v s)), hyields (hexpiry.trans ((if_pos hrun).trans hfirst)),
      fun hmot => hphase ?_, fun hmot => ?_, fun hmot => hphase ?_, fun hmot => hphase ?_,
      honly.trans (driven_settle _).only⟩
    · rw [reissuePhase_backoff (by rw [hrecord]; exact hmot), hserial, hrecord]
    · have hclosing : reissuePhase v p m (expiredOnce v s) = resumeClosing v p m (expiredOnce v s) :=
        reissuePhase_closing (by rw [hrecord]; exact hmot)
      refine ⟨fun hfast hopen => hphase ?_, fun hslow hopen => hphase ?_, fun hclosed hconf => ?_⟩
      · rw [hclosing, resumeClosing_open (by rw [hrecord]; exact hopen), dyn_driveBand_fast (by rw [hrecord]; exact hfast),
          hserial, hrecord]
      · rw [hclosing, resumeClosing_open (by rw [hrecord]; exact hopen), dyn_driveBand_slow (by rw [hrecord]; exact hslow),
          hserial, hrecord]
      · have hdone : (reissuePhase v p m (expiredOnce v s)).dyn v
            = { (s.dyn v).expired m with
                  move := none, motion := .idle, operability := (s.dyn v).operability.suspected.redeemed } := by
          rw [hclosing, resumeClosing_closed (by rw [hrecord]; exact hclosed), dyn_completeClosing, hrecord]
        have hop : (s.dyn v).operability.suspected.redeemed
            = if (s.dyn v).operability = .inoperable then .inoperable else .operable := by
          cases (s.dyn v).operability <;> rfl
        rw [hsettled (.inr (by rw [hdone]; exact hconf)), hdone, hop]
    · rw [reissuePhase_charging (by rw [hrecord]; exact hmot), hserial, hrecord]
      rfl
    · rw [reissuePhase_opening (by rw [hrecord]; exact hmot), hserial, hrecord]
      rfl
  · have hsecond : expireMove v p m s = settle (failedMove v m failedTimeout (expiredTwice v p s)) := by
      unfold expireMove; rw [if_neg hexp]; rfl
    have hset := expiredTwice_spec v p s
    have hnotices := onlyNotices_failedMove v m failedTimeout (expiredTwice v p s)
    have hrecord := hset.notices hnotices
    have hcalm : Calm s (failedMove v m failedTimeout (expiredTwice v p s)) := calm_secondExpiry v p m s
    have hlist' : (failedMove v m failedTimeout (expiredTwice v p s)).Unlisted v :=
      hlist.of_calm hs hcalm
    refine ⟨settle (failedMove v m failedTimeout (expiredTwice v p s)), hyields (hexpiry.trans ((if_pos hrun).trans hsecond)),
      ?_, fun hdir hstarter e he hr hheld => ?_, ?_, hrecord.1.trans (driven_settle _).only⟩
    · rw [dyn_settle hlist' (resting_of ((hrecord.1.actuated v).trans hact) (.inr (.inr (.inl ?_)))), hrecord.same]
      rw [hrecord.same]
    · have hslot : (expiredTwice v p s).slot e.1 = some e.2 :=
        ((quiet_expiredTwice v p s).slot e.1).trans (Table.get_of_mem hs.wf he)
      have hrelies : e.2.reliesOn v ((expiredTwice v p s).dyn v).holders = true := by
        rw [hset.same]
        simp [Incident.reliesOn, hheld, hr]
      exact replans_settle (replans_failedMove hdir hstarter (hs.2.1 e he).1 hslot hrelies) rfl rfl hr
    · exact restoreGoesOn_of_settle rfl rfl hcalm rfl rfl rfl

end Sys2Proof.Machine
end

section
/-! PROOFS. The loss of reachability handed on: what becomes of the valves of a line, and which commands still wait (04 R89,
R94, R110; 05 R130 to R132; 06 R150). -/

namespace Sys2Proof.Machine

open Sys2Proof

/-! ### Commands that wait (05 R130) -/

/-- 04 R89: a reachable part's line has its supply ON. -/
theorem supply_of_partReachable {s : State} {p : ActuatedPart} (h : s.partReachable p = true) : (s.supply.get p.line).state = .on := by
  unfold State.partReachable at h
  simp only [Bool.and_eq_true, decide_eq_true_eq] at h
  exact h.1.1.1.2

/-- Every command that waits in an urgent queue waited before, or was issued since to the channel of a reachable part; the poll
schedules are as they were. -/
structure NewCommands (s t : State) : Prop where
  parts : ∀ p, t.partReachable p = s.partReachable p
  serial : s.drive.serial ≤ t.drive.serial
  queue : ∀ l, ∀ e ∈ (t.control.get l).queue,
    e ∈ (s.control.get l).queue ∨ s.drive.serial ≤ e.serial
      ∧ ∃ p, p.line = l ∧ p.address = e.address ∧ p.channel = e.channel ∧ s.partReachable p = true
  schedule : ∀ l, (t.control.get l).schedule = (s.control.get l).schedule

namespace NewCommands

variable {s t u : State}

theorem of_control (h : t.control = s.control) (hf : t.supply = s.supply ∧ t.stations = s.stations ∧ t.map = s.map)
    (hs : s.drive.serial ≤ t.drive.serial) : NewCommands s t :=
  ⟨fun p => by rw [State.partReachable, State.station, h, hf.1, hf.2.1, hf.2.2]; rfl, hs,
    fun l e he => .inl (by rwa [h] at he), fun l => by rw [h]⟩

theorem refl (s : State) : NewCommands s s := .of_control rfl ⟨rfl, rfl, rfl⟩ le_rfl

theorem trans (h : NewCommands s t) (h' : NewCommands t u) : NewCommands s u where
  parts p := (h'.parts p).trans (h.parts p)
  serial := h.serial.trans h'.serial
  queue l e he := by
    obtain he | ⟨hser, p, hl, ha, hc, hp⟩ := h'.queue l e he
    · exact h.queue l e he
    · exact .inr ⟨h.serial.trans hser, p, hl, ha, hc, (h.parts p).symm.trans hp⟩
  schedule l := (h'.schedule l).trans (h.schedule l)

theorem foldl {α : Type} {f : State → α → State} (h : ∀ s x, NewCommands s (f s x)) (xs : List α) (s : State) :
    NewCommands s (xs.foldl f s) := by
  induction xs generalizing s with
  | nil => exact .refl s
  | cons x xs ih => exact (h s x).trans (ih _)

/-- What is still queued on a line whose supply is not ON was queued before. -/
theorem queue_nil (h : NewCommands s t) {l : Line} (hoff : (s.supply.get l).state ≠ .on)
    (hnil : (s.control.get l).queue = []) : (t.control.get l).queue = [] := by
  refine List.eq_nil_iff_forall_not_mem.2 fun e he => ?_
  obtain he | ⟨-, p, rfl, -, -, hp⟩ := h.queue l e he
  · rw [hnil] at he; cases he
  · exact hoff (supply_of_partReachable hp)

end NewCommands

theorem newCommands_onDyn (v : Nat) (f : ValveDyn → ValveDyn) (s : State) : NewCommands s (onDyn v f s) :=
  .of_control rfl ⟨rfl, rfl, rfl⟩ le_rfl

theorem newCommands_onMove (v : Nat) (f : Move → Move) (s : State) : NewCommands s (onMove v f s) :=
  newCommands_onDyn v _ s

theorem newCommands_setMotion (v : Nat) (m : Motion) (s : State) : NewCommands s (setMotion v m s) :=
  newCommands_onDyn v _ s

theorem newCommands_clearMove (v : Nat) (s : State) : NewCommands s (clearMove v s) := newCommands_onDyn v _ s

theorem newCommands_markStale (s : State) : NewCommands s (markStale s) := .of_control rfl ⟨rfl, rfl, rfl⟩ le_rfl

theorem newCommands_putSlot (k : Nat) (inc : Incident) (s : State) : NewCommands s (putSlot k inc s) :=
  .of_control rfl ⟨rfl, rfl, rfl⟩ le_rfl

theorem OnlyNotices.newCommands {s t : State} (h : OnlyNotices s t) : NewCommands s t := by
  obtain ⟨hdrive, hcontrol, hsupply, hstations, hmap, -, -⟩ := h.fields
  exact .of_control hcontrol ⟨hsupply, hstations, hmap⟩ (le_of_eq (by rw [hdrive]))

theorem newCommands_withdraw (v : Nat) (p : ActuatedPart) (s : State) : NewCommands s (withdraw v p s) where
  parts := (driven_withdraw v p s).linesKept.partReachable
  serial := le_rfl
  queue l e he := by
    left
    simp only [withdraw, onControl_fields, PerLine.get_set] at he
    split at he
    · next h => rw [h]; exact (List.mem_filter.1 he).1
    · exact he
  schedule l := by
    simp only [withdraw, onControl_fields, PerLine.get_set]
    split
    · next h => rw [h]
    · rfl

theorem newCommands_endMove (v : Nat) (p : ActuatedPart) (s : State) : NewCommands s (endMove v p s) :=
  (newCommands_withdraw v p s).trans (newCommands_clearMove v _)

theorem newCommands_endAnyMove (v : Nat) (p : ActuatedPart) (s : State) : NewCommands s (endAnyMove v p s) := by
  unfold endAnyMove; split
  · exact newCommands_endMove v p s
  · exact .refl s

/-- 05 R130: the queue after an offer holds what it held and the entry offered. -/
theorem mem_offered_cases {queue q : List QueueEntry} {e x : QueueEntry} (h : offered queue e = some q) (hx : x ∈ q) :
    x = e ∨ x ∈ queue := by
  unfold offered at h
  split at h
  · cases h
    obtain ⟨y, hy, rfl⟩ := List.mem_map.1 hx
    split
    · exact .inl rfl
    · exact .inr hy
  · split at h
    · cases h
    · cases h
      obtain hx | hx := List.mem_append.1 hx
      · exact .inr hx
      · exact .inl (List.mem_singleton.1 hx)

theorem mem_queue_offer_cases {l k : Line} {e x : QueueEntry} {s : State} (hx : x ∈ ((offer l e s).control.get k).queue) :
    x ∈ (s.control.get k).queue ∨ k = l ∧ x = e := by
  simp only [offer, onControl_fields, PerLine.get_set] at hx
  split at hx
  · next hk =>
    subst hk
    split at hx
    · next q hq =>
      obtain h | h := mem_offered_cases hq hx
      · exact .inr ⟨rfl, h⟩
      · exact .inl h
    · exact .inl hx
  · exact .inl hx

theorem schedule_offer (l k : Line) (e : QueueEntry) (s : State) :
    ((offer l e s).control.get k).schedule = (s.control.get k).schedule := by
  simp only [offer, onControl_fields, PerLine.get_set]
  split
  · next h =>
    rw [h]
    split <;> rfl
  · rfl

theorem newCommands_issueTimed {p : ActuatedPart} {s : State} (hp : s.partReachable p = true)
    (v target rate preset : Nat) : NewCommands s (issueTimed v p target rate preset s) where
  parts := (driven_issueTimed v p target rate preset s).linesKept.partReachable
  serial := by
    change s.drive.serial ≤ s.drive.serial + 1
    omega
  queue l x hx := by
    rw [control_issueTimed] at hx
    obtain hx | ⟨rfl, rfl⟩ := mem_queue_offer_cases hx
    · exact .inl hx
    · exact .inr ⟨le_rfl, p, rfl, rfl, rfl, hp⟩
  schedule l := by rw [control_issueTimed, schedule_offer]

section issuing

variable {v : Nat} {p : ActuatedPart} {s : State}

theorem newCommands_driveBand (hp : s.partReachable p = true) : NewCommands s (driveBand v p s) := by
  unfold driveBand; dsimp only
  split <;> exact (newCommands_setMotion v _ s).trans (newCommands_issueTimed (s := setMotion v _ s) hp v _ _ _)

theorem newCommands_startClosing (hp : s.partReachable p = true) (n : Nat) :
    NewCommands s (startClosing v p n s) := by
  unfold startClosing; split
  · exact .refl s
  · exact (newCommands_onDyn v _ s).trans (newCommands_driveBand (s := onDyn v _ s) hp)

theorem newCommands_driveOpening (hp : s.partReachable p = true) : NewCommands s (driveOpening v p s) := by
  unfold driveOpening; dsimp only
  split <;> exact (newCommands_setMotion v _ s).trans (newCommands_issueTimed (s := setMotion v _ s) hp v _ _ _)

theorem newCommands_startOpening (hp : s.partReachable p = true) (n : Nat) :
    NewCommands s (startOpening v p n s) := (newCommands_onDyn v _ s).trans (newCommands_driveOpening (s := onDyn v _ s) hp)

end issuing

theorem newCommands_releaseOrder (v n : Nat) (s : State) : NewCommands s (releaseOrder v n s) := by
  have hactuated (p : ActuatedPart) (s : State) : NewCommands s (releaseActuated v p n s) := by
    unfold releaseActuated; split
    · next h =>
      simp only [Bool.and_eq_true] at h
      have hend := newCommands_endAnyMove v p s
      split
      · exact hend
      · exact hend.trans (newCommands_startOpening ((hend.parts p).trans h.1) n)
    · exact .of_control rfl ⟨rfl, rfl, rfl⟩ le_rfl
  have hlast (s : State) : NewCommands s (releaseLast v n s) := by
    unfold releaseLast; split
    · exact .refl s
    · split
      · exact newCommands_onMove v _ s
      · exact hactuated _ s
      · split
        · exact .of_control rfl ⟨rfl, rfl, rfl⟩ le_rfl
        · exact .refl s
  unfold releaseOrder; split
  · have h : NewCommands s (markStaleForOthers n (onDyn v (fun d => { d with holders := d.holders.filter (· != n) }) s)) :=
      .of_control rfl ⟨rfl, rfl, rfl⟩ le_rfl
    dsimp only; split
    · exact h.trans (hlast _)
    · unfold handMove; split
      · exact h.trans (newCommands_onMove v _ _)
      · exact h
  · exact .refl s

theorem newCommands_progressRestores (s : State) : NewCommands s (progressRestores s) := by
  have horders (n : Nat) : ∀ k s, NewCommands s (releaseOrders n k s) := by
    induction n with
    | zero => exact fun _ s => .refl s
    | succ n ih =>
      intro k s
      rw [releaseOrders]
      split
      · split
        · split
          · exact ((newCommands_putSlot _ _ s).trans (newCommands_releaseOrder _ _ _)).trans (ih _ _)
          · exact .refl s
        · exact .refl s
      · exact .refl s
  refine forSlots_rel .refl .trans (fun k inc s _ => ?_) s
  split
  · refine (horders inc.restoreList.length k s).trans ?_
    unfold progressRestore; dsimp only
    split
    · unfold completeRestore
      split
      · exact .of_control rfl ⟨rfl, rfl, rfl⟩ le_rfl
      · exact .refl _
    · exact .refl _
  · exact .refl s

theorem newCommands_startMoves (s : State) : NewCommands s (startMoves s) := by
  have hrounds (n : Nat) : ∀ s, NewCommands s (startRounds n s) := by
    induction n with
    | zero => exact .refl
    | succ n ih =>
      intro s
      simp only [startRounds]
      split
      · next t ht =>
        obtain ⟨m, v, p, w, hstart, hp, hw, rfl⟩ := startOne_eq_some ht
        have hreach : s.partReachable p = true := by
          unfold State.startable State.reachable at hstart
          rw [hp] at hstart
          simp only [Bool.and_eq_true] at hstart
          exact hstart.1.1.1.1.1
        refine NewCommands.trans ?_ (ih _)
        obtain rfl | rfl := hw
        · exact newCommands_startClosing hreach m
        · exact (NewCommands.of_control (s := s) (t := nextFree s) rfl ⟨rfl, rfl, rfl⟩ le_rfl).trans
            (newCommands_startClosing (s := nextFree s) hreach m)
      · exact .refl s
  unfold startMoves; split
  · exact hrounds _ s
  · exact .refl s

/-- What a step settles before the polls are timed anew (05 R135). -/
def unretimed (s : State) : State := crewRequests (startMoves (progressRestores s))

theorem settle_eq (s : State) : settle s = retimePolls (unretimed s) := rfl

theorem newCommands_unretimed (s : State) : NewCommands s (unretimed s) := by
  have hcrew (s : State) : NewCommands s (crewRequests s) :=
    crewRequests_rel .refl .trans (fun _ _ s _ => .of_control rfl ⟨rfl, rfl, rfl⟩ le_rfl) s
  exact ((newCommands_progressRestores s).trans (newCommands_startMoves _)).trans (hcrew _)

theorem queue_settle (s : State) (l : Line) : ((settle s).control.get l).queue = ((unretimed s).control.get l).queue := by
  rw [settle_eq, retimePolls_control]

/-- 05 R135: retiming takes each entry of a schedule by the interval in effect. -/
theorem schedule_retimePolls {s : State} (h : s.store.mode = .run ∨ s.store.mode = .quiescing) (l : Line) :
    ((retimePolls s).control.get l).schedule = (s.control.get l).schedule.map fun e => e.retime (s.interval l e.address) := by
  unfold retimePolls
  rw [if_pos h]
  cases l <;> rfl

theorem interval_retimePolls (s : State) (l : Line) (address : Nat) :
    (retimePolls s).interval l address = s.interval l address := by
  rw [retimePolls_only]; rfl

/-- 05 R135: the poll entries that the settling leaves in RUN and QUIESCING. -/
theorem schedule_settle {s : State} (h : s.store.mode = .run ∨ s.store.mode = .quiescing) (l : Line) :
    ((settle s).control.get l).schedule
      = (s.control.get l).schedule.map fun e => e.retime ((settle s).interval l e.address) := by
  have hstore : (unretimed s).store = s.store := by
    rw [unretimed, ((driven_progressRestores s).trans ((driven_startMoves _).trans (driven_crewRequests _))).only]
  rw [settle_eq, schedule_retimePolls (by rw [hstore]; exact h), (newCommands_unretimed s).schedule]
  simp only [interval_retimePolls]

/-! ### A valve that becomes unreachable (04 R89) -/

theorem OnlyNotices.linesKept {s t : State} (h : OnlyNotices s t) : LinesKept s t :=
  .of_control h.onlyControl h.fields.2.1

theorem linesKept_onDyn (v : Nat) (f : ValveDyn → ValveDyn) (s : State) : LinesKept s (onDyn v f s) :=
  .of_control rfl rfl

theorem linesKept_becomeUnreachable (v : Nat) (p : ActuatedPart) (s : State) :
    LinesKept s (becomeUnreachable v p s) := by
  have htell (b : Bool) (s : State) : LinesKept s (tellUnreachable v b s) := linesKept_onDyn v _ s
  unfold becomeUnreachable
  split
  · exact ((htell true s).trans (driven_endMove v p _).linesKept).trans (onlyNotices_failedMove v _ _ _).linesKept
  · split
    · exact (htell true s).trans
        ((onlyNotices_raiseFailed v failedUnreachable 0 _).trans (onlyNotices_replanRequest v _)).linesKept
    · exact htell false s

theorem awaited_iff {s : State} {v : Nat} : s.awaited v = true ↔ ∃ e ∈ s.engine.slots, e.2.Awaits v := by
  simp [State.awaited, Incident.Awaits]

/-- 04 R110: the report of a failed valve is kept. -/
theorem keeps_raiseFailed (v detail starter : Nat) (s : State) : (raiseFailed v detail starter s).reports.Keeps
    ⟨.valveFailed, s.reports.timeBase, .valve v, detail,
      [(s.dyn v).position, some (s.dyn v).holders.length, some starter]⟩ := keeps_raise _ _

theorem reliesOn_of {inc : Incident} {v : Nat} {holders : List Nat} (hr : inc.state ≠ .restoring)
    (h : inc.number ∈ holders ∨ inc.Awaits v) : inc.reliesOn v holders = true := by
  simp only [Incident.reliesOn, Bool.or_eq_true, Bool.and_eq_true, List.contains_iff_mem, bne_iff_ne, decide_eq_true_eq]
  obtain h | ⟨hs, hb⟩ := h
  · exact .inl ⟨h, hr⟩
  · exact .inr ⟨hs, hb⟩

theorem failUnreachable_eq (v : Nat) (s : State) :
    failUnreachable v s = replanRequest v (raiseFailed v failedUnreachable 0 (tellUnreachable v true s)) := rfl

section lost

variable {s : State} {v : Nat} {p : ActuatedPart}

theorem becomeUnreachable_move {m : Move} (hm : (s.dyn v).move = some m) : becomeUnreachable v p s
    = failedMove v m failedUnreachable (endMove v p (tellUnreachable v true s)) := by
  unfold becomeUnreachable; rw [hm]

theorem failsAtLoss_iff (hm : (s.dyn v).move = none) : s.FailsAtLoss v ↔
    (s.dyn v).confirmed = false ∧ ((s.dyn v).holders ≠ [] ∨ ∃ e ∈ s.engine.slots, e.2.Awaits v) := by
  simp only [State.FailsAtLoss, hm, ne_eq, not_true_eq_false, false_or]

theorem becomeUnreachable_idle (hm : (s.dyn v).move = none) : becomeUnreachable v p s
    = if s.FailsAtLoss v then failUnreachable v s else tellUnreachable v false s := by
  have hcond : (!(s.dyn v).confirmed && (!(s.dyn v).holders.isEmpty || s.awaited v)) = true ↔ s.FailsAtLoss v := by
    rw [failsAtLoss_iff hm, Bool.and_eq_true, Bool.not_eq_true', Bool.or_eq_true, awaited_iff, Bool.not_eq_true',
      ← Bool.not_eq_true (List.isEmpty _), List.isEmpty_iff]
  unfold becomeUnreachable
  simp only [hm]
  exact if_congr hcond rfl rfl

theorem recordSet_tellUnreachable (v : Nat) (b : Bool) (s : State) :
    RecordSet v { s.dyn v with toldUnreachable := b } s (tellUnreachable v b s) := recordSet_onDyn v _ s

/-- 04 R89: the record as a lost move ends. -/
theorem recordSet_lostMove {m : Move} (hm : (s.dyn v).move = some m) :
    RecordSet v (s.lostDyn v) s (endMove v p (tellUnreachable v true s)) := by
  have htell := recordSet_tellUnreachable v true s
  have hoff : RecordSet v { s.dyn v with toldUnreachable := true } s (withdraw v p (tellUnreachable v true s)) :=
    ⟨htell.1.trans (driven_withdraw v p _).only, htell.2⟩
  have h := hoff.trans (recordSet_onDyn v (fun d => { d with move := none, motion := .idle }) _)
  rw [hoff.same] at h
  have hrecord : s.lostDyn v = { { s.dyn v with toldUnreachable := true } with move := none, motion := .idle } := by
    simp [State.lostDyn, State.FailsAtLoss, hm]
  rw [hrecord]
  exact h

/-- 04 R89: the record of a valve that becomes unreachable. -/
theorem recordSet_becomeUnreachable : RecordSet v (s.lostDyn v) s (becomeUnreachable v p s) := by
  cases hm : (s.dyn v).move with
  | some m =>
    rw [becomeUnreachable_move hm]
    exact (recordSet_lostMove hm).notices (onlyNotices_failedMove v m _ _)
  | none =>
    have hunmoved : (s.dyn v).unmoved = s.dyn v := by
      simp only [ValveDyn.unmoved, hm, if_true]
      rw [← hm]
    rw [becomeUnreachable_idle hm, State.lostDyn, hunmoved]
    split
    · next h =>
      rw [decide_eq_true h]
      exact failUnreachable_spec v s
    · next h =>
      rw [decide_eq_false h]
      exact recordSet_tellUnreachable v false s

/-- 04 R89, R110: what follows for a valve that becomes unreachable. -/
theorem failsUnreachable_becomeUnreachable (hs : s.SlotsSound) : FailsUnreachable s (becomeUnreachable v p s) v := by
  have hslot (q : State) (hq : q.engine = s.engine) {e : Nat × Incident} (he : e ∈ s.engine.slots) :
      q.slot e.1 = some e.2 := by rw [State.slot, hq]; exact Table.get_of_mem hs.wf he
  cases hm : (s.dyn v).move with
  | some m =>
    rw [becomeUnreachable_move hm]
    have hrecord := (recordSet_lostMove (p := p) hm).same
    have hheld : ((endMove v p (tellUnreachable v true s)).dyn v).holders = (s.dyn v).holders := by rw [hrecord]
    refine ⟨fun m' hm' => ?_, fun hnone => by rw [hm] at hnone; cases hnone⟩
    obtain rfl : m = m' := Option.some.inj (hm.symm.trans hm')
    refine ⟨?_, fun hdir hstarter e he hr hor => ?_⟩
    · have hkeep := keeps_raiseFailed v failedUnreachable (m.starter.getD 0) (endMove v p (tellUnreachable v true s))
      rw [hrecord] at hkeep
      unfold failedMove
      dsimp only
      split
      · exact (calm_replanRequest v _).reported.keeps hkeep
      · exact hkeep
    · exact ⟨_, replans_failedMove hdir hstarter (hs.2.1 e he).1 (hslot (endMove v p (tellUnreachable v true s)) rfl he)
        (reliesOn_of hr (by rw [hheld]; exact hor)), rfl, rfl⟩
  | none =>
    rw [becomeUnreachable_idle hm]
    refine ⟨fun m hm' => (by rw [hm] at hm'; cases hm'), fun _ hconf hor => ?_⟩
    rw [if_pos ((failsAtLoss_iff hm).2 ⟨hconf, hor⟩), failUnreachable_eq]
    have hrecord := (recordSet_tellUnreachable v true s).same
    have hheld : ((raiseFailed v failedUnreachable 0 (tellUnreachable v true s)).dyn v).holders = (s.dyn v).holders := by
      change ((tellUnreachable v true s).dyn v).holders = _
      rw [hrecord]
    refine ⟨?_, fun e he hr hor => ?_⟩
    · have hkeep := keeps_raiseFailed v failedUnreachable 0 (tellUnreachable v true s)
      rw [hrecord] at hkeep
      exact (calm_replanRequest v _).reported.keeps hkeep
    · exact ⟨_, replans_replanRequest (hs.2.1 e he).1 (hslot (raiseFailed v failedUnreachable 0 (tellUnreachable v true s))
        rfl he) (reliesOn_of hr (by rw [hheld]; exact hor)), rfl, rfl⟩

end lost

/-! ### Handing on the reachability of a line (06 R150) -/

/-- 06 R150: what is handed on of one valve. -/
def handOne (before s : State) (e : Nat × ActuatedPart) : State :=
  if before.reachable e.1 = s.reachable e.1 then s
  else if s.reachable e.1 then markStale s
  else becomeUnreachable e.1 e.2 (markStale s)

theorem handReach_eq (l : Line) (before s : State) : handReach l before s = (s.valvesOfLine l).foldl (handOne before) s := rfl

theorem calm_handOne (before s : State) (e : Nat × ActuatedPart) : Calm s (handOne before s e) := by
  unfold handOne
  split
  · exact .refl s
  · split
    · exact .quiet (quiet_markStale s)
    · exact (Calm.quiet (quiet_markStale s)).trans (calm_becomeUnreachable _ _ _)

theorem linesKept_handOne (before s : State) (e : Nat × ActuatedPart) : LinesKept s (handOne before s e) := by
  unfold handOne
  split
  · exact .refl s
  · split
    · exact .of_control rfl rfl
    · exact (LinesKept.of_control (t := markStale s) rfl rfl).trans (linesKept_becomeUnreachable _ _ _)

theorem newCommands_becomeUnreachable (v : Nat) (p : ActuatedPart) (s : State) :
    NewCommands s (becomeUnreachable v p s) := by
  cases hm : (s.dyn v).move with
  | some m =>
    rw [becomeUnreachable_move hm]
    exact ((newCommands_onDyn v _ s).trans (newCommands_endMove v p _)).trans (onlyNotices_failedMove v m _ _).newCommands
  | none =>
    rw [becomeUnreachable_idle hm]
    split
    · exact (newCommands_onDyn v _ s).trans
        ((onlyNotices_raiseFailed v failedUnreachable 0 _).trans (onlyNotices_replanRequest v _)).newCommands
    · exact newCommands_onDyn v _ s

theorem newCommands_handReach (l : Line) (before s : State) : NewCommands s (handReach l before s) :=
  NewCommands.foldl (f := handOne before) (fun s e => by
    unfold handOne
    split
    · exact .refl s
    · split
      · exact newCommands_markStale s
      · exact (newCommands_markStale s).trans (newCommands_becomeUnreachable _ _ _)) _ s

theorem linesKept_handReach (l : Line) (before s : State) : LinesKept s (handReach l before s) :=
  LinesKept.foldl (linesKept_handOne before) _ s

theorem atValve_handOne (before s : State) (e : Nat × ActuatedPart) : AtValve e.1 s (handOne before s e) := by
  unfold handOne
  split
  · exact .refl _ s
  · split
    · exact .of_dyn fun _ => rfl
    · exact fun u hu => recordSet_becomeUnreachable.other hu

/-- A valve whose reachability has not gone keeps its record. -/
theorem handOne_same {before s : State} {e : Nat × ActuatedPart} (h : before.reachable e.1 = true → s.reachable e.1 = true)
    (v : Nat) : (handOne before s e).dyn v = s.dyn v := by
  unfold handOne
  split
  · rfl
  · next hne =>
    split
    · rfl
    · next hno =>
      cases hb : before.reachable e.1 with
      | true => exact absurd (h hb) hno
      | false => exact absurd (by rw [hb]; exact (Bool.not_eq_true _ ▸ hno).symm) hne

theorem valvesOfLine_sublist (s : State) (l : Line) : ((s.valvesOfLine l).map (·.1)).Sublist (Table.keys s.map.valves) := by
  have hall (xs : Table ValveRec) : ((xs.filterMap fun e =>
      match e.2.kind with
      | .actuated p => some (e.1, p)
      | .manual => none).map (·.1)).Sublist (Table.keys xs) := by
    induction xs with
    | nil => exact .slnil
    | cons x xs ih =>
      rw [List.filterMap_cons]
      split
      · exact ih.cons x.1
      · next y hy =>
        split at hy <;> cases hy
        exact ih.cons_cons x.1
  exact (List.filter_sublist.map _).trans (hall s.map.valves)

theorem awaits_iff {a b : Incident} (h : a.Carried b) (v : Nat) : b.Awaits v ↔ a.Awaits v := by
  have hstate : (b.state = .armed ∨ b.state = .awaitConsent) ↔ (a.state = .armed ∨ a.state = .awaitConsent) := by
    obtain e | ⟨e1 | e1, e2 | e2⟩ := h.state
    · rw [e]
    all_goals simp [e1, e2]
  rw [Incident.Awaits, Incident.Awaits, hstate, h.boundary]

theorem exists_awaits_iff {s w : State} (hs : s.SlotsSound) (hc : Calm s w) (v : Nat) :
    (∃ e ∈ w.engine.slots, e.2.Awaits v) ↔ ∃ e ∈ s.engine.slots, e.2.Awaits v := by
  constructor
  · rintro ⟨e, he, haw⟩
    have hslot : w.slot e.1 = some e.2 := Table.get_of_mem (hc.keeps.engine hs).slots.wf he
    cases ha : s.slot e.1 with
    | none =>
      have hnone := (hc.slots e.1).2 ha
      rw [hslot] at hnone; cases hnone
    | some a =>
      obtain ⟨b, hb, hcar⟩ := (hc.slots e.1).1 a ha
      rw [hslot] at hb; cases hb
      exact ⟨(e.1, a), Table.mem_of_get ha, (awaits_iff hcar v).1 haw⟩
  · rintro ⟨e, he, haw⟩
    obtain ⟨b, hb, hcar⟩ := (hc.slots e.1).1 e.2 (Table.get_of_mem hs.wf he)
    exact ⟨(e.1, b), Table.mem_of_get hb, (awaits_iff hcar v).2 haw⟩

theorem lostDyn_of_calm {s w : State} {v : Nat} (hs : s.SlotsSound) (hc : Calm s w) (hd : w.dyn v = s.dyn v) :
    w.lostDyn v = s.lostDyn v := by
  have hfails : w.FailsAtLoss v ↔ s.FailsAtLoss v := by
    simp only [State.FailsAtLoss, hd, exists_awaits_iff hs hc v]
  simp only [State.lostDyn, hd, hfails]

/-- What fails for a valve at its turn is what failed for it in the beginning. -/
theorem FailsUnreachable.of_calm {s w t : State} {v : Nat} (hs : s.SlotsSound) (hc : Calm s w) (hd : w.dyn v = s.dyn v)
    (h : FailsUnreachable w t v) : FailsUnreachable s t v := by
  have hback {e : Nat × Incident} (he : e ∈ s.engine.slots) : ∃ b, (e.1, b) ∈ w.engine.slots ∧ e.2.Carried b := by
    obtain ⟨b, hb, hcar⟩ := (hc.slots e.1).1 e.2 (Table.get_of_mem hs.wf he)
    exact ⟨b, Table.mem_of_get hb, hcar⟩
  have hreplans {e : Nat × Incident} {b : Incident} (hcar : e.2.Carried b) (hr : t.Replans (e.1, b)) : t.Replans e := by
    obtain ⟨u, hu, hn, hp⟩ := hr
    exact ⟨u, hu, hn.trans hcar.number, hp⟩
  have hall (hrep : ∀ e ∈ w.engine.slots, e.2.state ≠ .restoring → e.2.number ∈ (w.dyn v).holders ∨ e.2.Awaits v →
      t.Replans e) : ∀ e ∈ s.engine.slots, e.2.state ≠ .restoring → e.2.number ∈ (s.dyn v).holders ∨ e.2.Awaits v →
      t.Replans e := by
    intro e he hr hor
    obtain ⟨b, hb, hcar⟩ := hback he
    refine hreplans hcar (hrep _ hb (fun h => hr (hcar.restoring_iff.1 h)) ?_)
    rw [hd, hcar.number]
    exact hor.imp id (awaits_iff hcar v).2
  have htime : w.reports.timeBase = s.reports.timeBase := hc.reports.2
  refine ⟨fun m hm => ?_, fun hm hconf hor => ?_⟩
  · obtain ⟨hkeep, hrep⟩ := h.1 m (by rw [hd]; exact hm)
    rw [hd, htime] at hkeep
    exact ⟨hkeep, fun hdir hst => hall (hrep hdir hst)⟩
  · obtain ⟨hkeep, hrep⟩ := h.2 (by rw [hd]; exact hm) (by rw [hd]; exact hconf) (by
      rw [hd]
      exact hor.imp id (exists_awaits_iff hs hc v).2)
    rw [hd, htime] at hkeep
    exact ⟨hkeep, hall hrep⟩

/-- What follows for a lost valve stands while reports are added and incidents stay to be replanned. -/
theorem FailsUnreachable.after {s w t : State} {v : Nat} (h : FailsUnreachable s w v) (hrep : Reported w.reports t.reports)
    (hslots : ∀ e ∈ s.engine.slots, e.2.state ≠ .restoring → w.Replans e → t.Replans e) : FailsUnreachable s t v :=
  ⟨fun m hm => ⟨hrep.keeps (h.1 m hm).1, fun hdir hst e he hr hor => hslots e he hr ((h.1 m hm).2 hdir hst e he hr hor)⟩,
    fun hm hconf hor => ⟨hrep.keeps (h.2 hm hconf hor).1, fun e he hr hor' => hslots e he hr ((h.2 hm hconf hor).2 e he hr hor')⟩⟩

/-- 04 R89, 06 R150: of the valves of a line, those whose reachability has gone fail as unreachable, each by its record and
the incidents as they stand. -/
theorem handReach_lost {l : Line} {before s : State} (hs : s.SlotsSound) (hm : Table.Wf s.map.valves) {v : Nat}
    {p : ActuatedPart} (hv : (v, p) ∈ s.valvesOfLine l) (hbefore : before.reachable v = true) (hnow : s.reachable v = false) :
    (handReach l before s).dyn v = s.lostDyn v ∧ FailsUnreachable s (handReach l before s) v := by
  have hnodup : ((s.valvesOfLine l).map (·.1)).Nodup := (hm.sublist (valvesOfLine_sublist s l)).imp Nat.ne_of_lt
  obtain ⟨xs, ys, hsplit⟩ := List.append_of_mem hv
  rw [hsplit, List.map_append, List.map_cons, List.nodup_append] at hnodup
  obtain ⟨-, hy, hdis⟩ := hnodup
  have hx : ∀ e ∈ xs, e.1 ≠ v := fun e he h => hdis e.1 (List.mem_map_of_mem he) v List.mem_cons_self h
  have hy : ∀ e ∈ ys, e.1 ≠ v := fun e he h => (List.nodup_cons.1 hy).1 (List.mem_map.2 ⟨e, he, h⟩)
  have hother (es : List (Nat × ActuatedPart)) (hes : ∀ e ∈ es, e.1 ≠ v) (w : State) :
      (es.foldl (handOne before) w).dyn v = w.dyn v := by
    induction es generalizing w with
    | nil => rfl
    | cons e es ih =>
      rw [List.foldl_cons, ih (fun e he => hes e (List.mem_cons_of_mem _ he))]
      exact atValve_handOne before w e v (hes e List.mem_cons_self).symm
  rw [handReach_eq, hsplit, List.foldl_append, List.foldl_cons]
  have hcalm : Calm s (xs.foldl (handOne before) s) := Calm.foldl (calm_handOne before) xs s
  have hlines : LinesKept s (xs.foldl (handOne before) s) := LinesKept.foldl (linesKept_handOne before) xs s
  have hdyn := hother xs hx s
  generalize xs.foldl (handOne before) s = w at hcalm hlines hdyn
  have hone : handOne before w (v, p) = becomeUnreachable v p (markStale w) := by
    have hw : w.reachable v = false := (hlines.reachable v).trans hnow
    unfold handOne
    dsimp only
    rw [if_neg (by rw [hbefore, hw]; decide), if_neg (by rw [hw]; decide)]
  have hmark : Calm s (markStale w) := hcalm.trans (.quiet (quiet_markStale w))
  have hfails : FailsUnreachable s (becomeUnreachable v p (markStale w)) v :=
    (failsUnreachable_becomeUnreachable (hmark.keeps.engine hs).slots).of_calm hs hmark hdyn
  have hlost : (markStale w).lostDyn v = s.lostDyn v := lostDyn_of_calm hs hmark hdyn
  rw [hone]
  refine ⟨?_, ?_⟩
  · rw [hother ys hy, recordSet_becomeUnreachable.same, hlost]
  · have hrest : Calm (becomeUnreachable v p (markStale w)) (ys.foldl (handOne before) (becomeUnreachable v p (markStale w))) :=
      Calm.foldl (calm_handOne before) ys _
    exact hfails.after hrest.reported fun e _ _ h => hrest.replans h

/-- A valve whose reachability has not gone keeps its record. -/
theorem handReach_same {l : Line} {before s : State} {v : Nat} (h : before.reachable v = true → s.reachable v = true) :
    (handReach l before s).dyn v = s.dyn v := by
  rw [handReach_eq]
  have hfold (es : List (Nat × ActuatedPart)) : ∀ w : State, LinesKept s w → (es.foldl (handOne before) w).dyn v = w.dyn v := by
    induction es with
    | nil => exact fun _ _ => rfl
    | cons e es ih =>
      intro w hw
      rw [List.foldl_cons, ih _ (hw.trans (linesKept_handOne before w e))]
      by_cases he : v = e.1
      · subst he
        exact handOne_same (fun hb => (hw.reachable e.1).trans (h hb)) e.1
      · exact atValve_handOne before w e v he
  exact hfold _ s (.refl s)

/-- What follows depends on the records, the incidents and the time base only. -/
theorem FailsUnreachable.of_eq {s s' t : State} {v : Nat} (hd : s'.drive = s.drive) (he : s'.engine = s.engine)
    (ht : s'.reports.timeBase = s.reports.timeBase) (h : FailsUnreachable s' t v) : FailsUnreachable s t v := by
  have hdyn : s'.dyn v = s.dyn v := by rw [State.dyn, hd]; rfl
  unfold FailsUnreachable at h ⊢
  rwa [hdyn, he, ht] at h

theorem lostDyn_of_eq {s s' : State} (hd : s'.drive = s.drive) (he : s'.engine = s.engine) (v : Nat) :
    s'.lostDyn v = s.lostDyn v := by
  have hdyn : s'.dyn v = s.dyn v := by rw [State.dyn, hd]; rfl
  simp only [State.lostDyn, State.FailsAtLoss, hdyn, he]

/-- What the settling makes of an incident that is to be replanned. -/
theorem Calm.replans_settle {s w : State} (hc : Calm s w) {e : Nat × Incident} (he : s.slot e.1 = some e.2)
    (hr : e.2.state ≠ .restoring) (h : w.Replans e) : (settle w).Replans e := by
  obtain ⟨u, hu, hn, hp⟩ := h
  obtain ⟨b, hb, hcar⟩ := (hc.slots e.1).1 e.2 he
  obtain rfl : b = u := Option.some.inj (hb.symm.trans hu)
  exact Machine.replans_settle hu hn hp fun h => hr (hcar.restoring_iff.1 h)

/-- 04 R89: a valve of a line that an event has made unreachable, in the state to which the step settles: `s'` is the state
handed on, and `w` what the rest of the event makes of it. -/
theorem lost_after_settle {l : Line} {s s' w : State} (hs : s.SlotsSound) (hm : Table.Wf s.map.valves)
    (hmap : s'.map = s.map) (hd : s'.drive = s.drive) (he : s'.engine = s.engine)
    (ht : s'.reports.timeBase = s.reports.timeBase) {v : Nat} {p : ActuatedPart} (hv : (v, p) ∈ s.valvesOfLine l)
    (hbefore : s.reachable v = true) (hnow : s'.reachable v = false) (hlist : s.Unlisted v)
    (hcalm : Calm (handReach l s s') w) (hdyn : w.dyn v = (handReach l s s').dyn v) (hmap' : w.map = s.map)
    (hunreach : w.reachable v = false) : (settle w).dyn v = s.lostDyn v ∧ FailsUnreachable s (settle w) v := by
  have hs' : s'.SlotsSound := by rw [State.SlotsSound, he]; exact hs
  have hv' : (v, p) ∈ s'.valvesOfLine l := by
    rw [State.valvesOfLine, State.actuatedValves, hmap]; exact hv
  obtain ⟨hlost, hfails⟩ := handReach_lost (before := s) hs' (by rw [hmap]; exact hm) hv' hbefore hnow
  have hwhole : Calm s' w := (calm_handReach l s s').trans hcalm
  have hact : w.actuated v = some p := by
    rw [State.actuated, hmap']; exact ((mem_valvesOfLine hm).1 hv).1
  have hsettled : (settle w).dyn v = w.dyn v := by
    refine dyn_settle (State.Unlisted.of_calm (s := s') ?_ hs' hwhole) (resting_of hact (.inr (.inr (.inr hunreach))))
    rw [State.Unlisted, he]; exact hlist
  refine ⟨by rw [hsettled, hdyn, hlost, lostDyn_of_eq hd he], FailsUnreachable.of_eq hd he ht ?_⟩
  refine hfails.after (hcalm.reported.trans (reported_settle w)) fun e hmem hr h => ?_
  exact hwhole.replans_settle (Table.get_of_mem hs'.wf hmem) hr (hcalm.replans h)

/-! ### The end of QUIESCING (10 R198) -/

theorem quiesceDone_only (s : State) :
    quiesceDone s = { s with store := (quiesceDone s).store, reports := (quiesceDone s).reports } := by
  unfold quiesceDone
  split <;> rfl

theorem reported_quiesceDone (s : State) : Reported s.reports (quiesceDone s).reports := by
  unfold quiesceDone
  split
  · exact .raise _ _
  · exact .refl _

/-- 10 R198: the exchange of a line has ended, with the others as they were. -/
theorem endsQuiescing_quiesceDone {l : Line} {s w : State} (hstore : w.store = s.store)
    (ht : w.reports.timeBase = s.reports.timeBase) (hl : (w.control.get l).exchange = none)
    (hk : ∀ k ≠ l, (w.control.get k).exchange = (s.control.get k).exchange) : EndsQuiescing l s (quiesceDone w) := by
  have hall : (∀ k, (w.control.get k).exchange = none) ↔ ∀ k ≠ l, (s.control.get k).exchange = none := by
    refine ⟨fun h k hne => (hk k hne).symm.trans (h k), fun h k => ?_⟩
    by_cases hne : k = l
    · rw [hne]; exact hl
    · exact (hk k hne).trans (h k hne)
  refine ⟨fun ⟨hm, hlast⟩ => ?_, fun hnot => ?_⟩
  · rw [quiesceDone_silent (by rw [hstore]; exact hm) (hall.2 hlast)]
    refine ⟨?_, ?_⟩
    · change { w.store with mode := .config } = _
      rw [hstore]
    · have h : (changeMode .config w).reports.Keeps
          ⟨.modeChanged, w.reports.timeBase, .part, Mode.code .config, [some w.store.mode.code]⟩ := keeps_raise _ _
      rw [ht, hstore, hm] at h
      exact h
  · by_cases hm : s.store.mode = .quiescing
    · rw [quiesceDone_waits fun h => hnot ⟨hm, hall.1 h⟩, hstore]
    · unfold quiesceDone
      rw [if_neg fun h => hm (by rw [← hstore]; exact h.1), hstore]

end Sys2Proof.Machine
end

section
/-! PROOFS. The line supply: O43 and O44 (06 R151 to R154). -/

namespace Sys2Proof.Machine

open Sys2Proof

/-! ### SUPPLY_TRIP (06 R152, R153) -/

/-- 06 R153: the state that a trip hands on. -/
def tripped (l : Line) (s : State) : State :=
  let u := s.supply.get l
  let t := u.trip (s.map.lines.get l) s.store.mode
  emptyUrgent l (onControl l (fun c => { c with exchange := none })
    (raise .lineSupply (.line l) t.state.code
      [some t.tripCount, some (s.map.lines.get l).tripLimit, some (tenthsPassed (u.timeOn.getD 30000))]
      (onSupply l (fun _ => t) s)))

theorem tripSupply_eq (l : Line) (s : State) : tripSupply l s = quiesceDone (settle (handReach l s (tripped l s))) := rfl

theorem tripped_supply (l : Line) (s : State) :
    (tripped l s).supply = s.supply.set l ((s.supply.get l).trip (s.map.lines.get l) s.store.mode) := rfl

theorem tripped_control (l k : Line) (s : State) : (tripped l s).control.get k
    = if k = l then { s.control.get l with exchange := none, queue := [], refused := [] } else s.control.get k := by
  simp only [tripped, emptyUrgent, onControl_fields, PerLine.get_set, if_true, raise_fields, onSupply_fields]
  split <;> rfl

theorem tripped_only (l : Line) (s : State) : tripped l s = { s with
    supply := (tripped l s).supply
    control := (tripped l s).control
    reports := (tripped l s).reports } := rfl

/-- 06 R152: the trips counted, as the statement counts them. -/
theorem trip_state (u : Supply) (x : LineSettings) (m : Mode) : (u.trip x m).state
    = if x.tripLimit ≤ (u.trip x m).tripCount then .lockedOff else .tripped := by
  simp [Supply.trip]

theorem trip_retry (u : Supply) (x : LineSettings) (m : Mode) : (u.trip x m).retryLeft
    = if ¬x.tripLimit ≤ (u.trip x m).tripCount ∧ m = .run then some (x.retryInterval * 1000) else none := by
  simp [Supply.trip]

theorem trip_off (u : Supply) (x : LineSettings) (m : Mode) : (u.trip x m).state ≠ .on := by
  rw [trip_state]; split <;> decide

/-- 06 R153: what a trip hands on is reported, and nothing else. -/
theorem tripped_reports (l : Line) (s : State) : (tripped l s).reports
    = s.raised .lineSupply (.line l) ((s.supply.get l).trip (s.map.lines.get l) s.store.mode).state.code
      [some ((s.supply.get l).trip (s.map.lines.get l) s.store.mode).tripCount, some (s.map.lines.get l).tripLimit,
        some (tenthsPassed ((s.supply.get l).timeOn.getD 30000))] := rfl

theorem reachable_of_off {s : State} {v : Nat} {p : ActuatedPart} (hact : s.actuated v = some p)
    (hoff : (s.supply.get p.line).state ≠ .on) : s.reachable v = false := by
  rw [State.reachable, hact]
  exact Bool.eq_false_iff.2 fun h => hoff (supply_of_partReachable h)

/-- Settles O43: the trip itself, then the loss of reachability handed on, the settling and the end of QUIESCING. -/
theorem supplyTripsOrLocksOff : Obligations.SupplyTripsOrLocksOff := by
  intro s l hon hover u settings count locked
  have hstate := trip_state u settings s.store.mode
  have hretry := trip_retry u settings s.store.mode
  have hoff := trip_off u settings s.store.mode
  have hraised := tripped_reports l s
  have hcount : (u.trip settings s.store.mode).tripCount = count := by
    simp only [Supply.trip, count]
    cases u.timeOn with
    | none => rfl
    | some n =>
      dsimp only
      by_cases h : n < 30000
      · rw [if_pos h, if_neg (Nat.not_le.2 h), saturate]
      · rw [if_neg h, if_pos (Nat.not_lt.1 h)]
  rw [hcount] at hstate hretry
  have honly := tripped_only l s
  have hsupply (k : Line) : (tripped l s).supply.get k
      = if k = l then u.trip settings s.store.mode else s.supply.get k := by
    rw [tripped_supply, PerLine.get_set]
  have hcontrol (k : Line) := tripped_control l k s
  have hyields : Yields (.supplyTrip l) s (tripSupply l s) := by
    change Host.Outcome.next (supplyTrip l s) = _
    simp [supplyTrip, hon, hover]
  rw [tripSupply_eq] at hyields
  generalize tripped l s = s' at *
  obtain ⟨hdrive, hengine, hmap, hstations, hstore, halarms, hlink, helapsed⟩ :
      s'.drive = s.drive ∧ s'.engine = s.engine ∧ s'.map = s.map ∧ s'.stations = s.stations ∧ s'.store = s.store
        ∧ s'.alarms = s.alarms ∧ s'.link = s.link ∧ s'.elapsed = s.elapsed := by
    rw [honly]; exact ⟨rfl, rfl, rfl, rfl, rfl, rfl, rfl, rfl⟩
  have htime : s'.reports.timeBase = s.reports.timeBase := by rw [hraised, raise_timeBase]
  have hreach := calm_handReach l s s'
  have hlines := linesKept_handReach l s s'
  have hkept := hlines.trans (driven_settle (handReach l s s')).linesKept
  have hcommands := (newCommands_handReach l s s').trans (newCommands_unretimed _)
  have hqueue := queue_settle (handReach l s s') l
  have hreported := hreach.reported.trans (reported_settle _)
  have hquiet := quiesceDone_only (settle (handReach l s s'))
  have hexchange (k : Line) : ((settle (handReach l s s')).control.get k).exchange = (s'.control.get k).exchange :=
    (hkept.lines k).exchange
  have hexchange_other : ∀ k ≠ l, ((settle (handReach l s s')).control.get k).exchange = (s.control.get k).exchange :=
    fun k hk => by rw [hexchange, hcontrol, if_neg hk]
  have hfields := hkept.only
  generalize ht : settle (handReach l s s') = t at *
  have hsupply' (k : Line) : ((quiesceDone t).supply.get k) = if k = l then u.trip settings s.store.mode else s.supply.get k := by
    rw [hquiet, hfields, ← hsupply]
  refine ⟨_, hyields, ?_, ?_, ?_, ?_, fun hlocked => ?_, fun hfree => ?_, fun k hk => ?_, ?_, ?_, ?_,
    fun hs hm v p hv hr hlist => ?_, ?_, ?_, fun k hk => ?_, ?_, ?_, ?_, ?_, ?_⟩
  · rw [hsupply', if_pos rfl, hcount]
  · rw [hsupply', if_pos rfl]; rfl
  · rw [hsupply', if_pos rfl]; rfl
  · rw [hsupply', if_pos rfl]; rfl
  · rw [hsupply', if_pos rfl, hstate, hretry, if_pos hlocked, if_neg fun h => h.1 hlocked]
    exact ⟨rfl, rfl⟩
  · rw [hsupply', if_pos rfl, hstate, hretry, if_neg hfree]
    exact ⟨rfl, if_congr (and_iff_right hfree) rfl rfl⟩
  · rw [hsupply', if_neg hk]
  · have hqueue := hreported.queue.trans (reported_quiesceDone t).queue
    rw [hraised, hcount, hstate] at hqueue
    have hcode : (if settings.tripLimit ≤ count then SupplyState.lockedOff else .tripped).code
        = if settings.tripLimit ≤ count then 3 else 2 := by split <;> rfl
    have htenths : tenthsPassed (u.timeOn.getD 30000) = (u.timeOn.map (· / 100)).getD 300 := by
      cases u.timeOn <;> rfl
    rw [hcode, htenths] at hqueue
    exact hqueue
  · rw [hquiet, hexchange, hcontrol, if_pos rfl]
  · rw [hquiet]
    refine hqueue.trans (hcommands.queue_nil ?_ ?_)
    · rw [hsupply, if_pos rfl]; exact hoff
    · rw [hcontrol, if_pos rfl]
  · have hact := (mem_valvesOfLine hm).1 hv
    have hgone (w : State) (hw : w.supply.get l = u.trip settings s.store.mode) (hwm : w.map = s.map) :
        w.reachable v = false := by
      refine reachable_of_off (p := p) ?_ ?_
      · rw [State.actuated, hwm]; exact hact.1
      · rw [hact.2, hw]; exact hoff
    have hlost := lost_after_settle hs hm hmap hdrive hengine htime hv hr
      (hgone s' (by rw [hsupply, if_pos rfl]) hmap) hlist (.refl _) rfl (by rw [hlines.only]; exact hmap)
      (hgone _ (by rw [hlines.only]; exact (hsupply l).trans (if_pos rfl)) (by rw [hlines.only]; exact hmap))
    rw [ht] at hlost
    refine ⟨by rw [State.dyn, hquiet]; exact hlost.1, hlost.2.after (reported_quiesceDone t) fun e _ _ h => ?_⟩
    obtain ⟨w, hw, h⟩ := h
    exact ⟨w, by rw [State.slot, hquiet]; exact hw, h⟩
  · refine restoreGoesOn_of_settle hdrive hengine hreach ?_ ?_ ?_ <;> rw [ht, hquiet]
  · refine endsQuiescing_quiesceDone ?_ ?_ ?_ hexchange_other
    · rw [hfields]; exact hstore
    · exact hreported.timeBase.trans htime
    · rw [hexchange, hcontrol, if_pos rfl]
  · rw [hquiet]; exact hexchange_other k hk
  · rw [hquiet, hfields]; exact hmap
  · rw [hquiet, hfields]; exact hstations
  · rw [hquiet, hfields]; exact halarms
  · rw [hquiet, hfields]; exact hlink
  · rw [hquiet, hfields]; exact helapsed

end Sys2Proof.Machine
end

section
/-! PROOFS. A supply switched on again and a line reset: O44 and O45 (06 R154, R156, R157; 05 R142; 04 R117). -/

namespace Sys2Proof.Machine

open Sys2Proof

/-- 04 R89: the loss of reachability handed on leaves every position. -/
theorem position_handReach (l : Line) (before s : State) (v : Nat) :
    ((handReach l before s).dyn v).position = (s.dyn v).position := by
  have hone (s : State) (e : Nat × ActuatedPart) : ((handOne before s e).dyn v).position = (s.dyn v).position := by
    by_cases he : v = e.1
    · unfold handOne
      split
      · rfl
      · split
        · rfl
        · rw [he, recordSet_becomeUnreachable.same]; rfl
    · rw [atValve_handOne before s e v he]
  rw [handReach_eq]
  generalize s.valvesOfLine l = es
  induction es generalizing s with
  | nil => rfl
  | cons e es ih => exact (ih _).trans (hone s e)

/-- 05 R133, R135: an entry without a last time keeps its due time as it is timed anew. -/
theorem retime_undone {e : PollEntry} (h : e.last = none) (interval : Nat) :
    (e.retime interval).address = e.address ∧ (e.retime interval).probe = e.probe ∧ (e.retime interval).last = none
      ∧ (e.retime interval).due = e.due := by
  unfold PollEntry.retime
  split
  · exact ⟨rfl, rfl, h, rfl⟩
  · refine ⟨rfl, rfl, h, ?_⟩
    simp only [h]

theorem retime_address (e : PollEntry) (interval : Nat) : (e.retime interval).address = e.address := by
  unfold PollEntry.retime; split <;> rfl

/-! ### SUPPLY_RETRY and SUPPLY_ON (06 R154, R156) -/

/-- 06 R154: the state that a supply switched on hands on. -/
def litUp (l : Line) (s : State) : State :=
  allDue l (forgetPositions l (onSupply l (fun u => { u with state := .on, timeOn := some 0, retryLeft := none }) s))

theorem switchOn_eq (l : Line) (s : State) : switchOn l s = handReach l s (litUp l s) := rfl

theorem litUp_only (l : Line) (s : State) : litUp l s = { s with
    drive := (litUp l s).drive
    supply := s.supply.set l { s.supply.get l with state := .on, timeOn := some 0, retryLeft := none }
    control := s.control.set l { s.control.get l with
      schedule := (s.control.get l).schedule.map fun e => { e with last := none, due := s.elapsed } } } := by
  have h := forgetPositions_only l (onSupply l (fun u => { u with state := .on, timeOn := some 0, retryLeft := none }) s)
  unfold litUp
  generalize forgetPositions l _ = w at h ⊢
  rw [h]
  rfl

theorem position_litUp {l : Line} {s : State} {v : Nat} {p : ActuatedPart} (h : (v, p) ∈ s.valvesOfLine l) :
    ((litUp l s).dyn v).position = none := by
  change ((forgetPositions l _).dyn v).position = none
  have hmem : v ∈ (s.valvesOfLine l).map (·.1) := List.mem_map_of_mem (f := Prod.fst) h
  rw [dyn_forgetPositions]
  exact congrArg ValveDyn.position (if_pos hmem)

/-- 06 R154, R156: a supply switched on, to where the step settles. -/
theorem switchedOn_settle {s t : State} {l : Line} (hmode : s.store.mode = .run) (ht : t = settle (switchOn l s)) :
    t.supply = s.supply.set l { s.supply.get l with state := .on, timeOn := some 0, retryLeft := none }
      ∧ (∀ v p, (v, p) ∈ s.valvesOfLine l → (t.dyn v).position = none)
      ∧ (∀ e ∈ (t.control.get l).schedule, e.last = none ∧ e.due = s.elapsed)
      ∧ (t.control.get l).schedule.map (·.address) = (s.control.get l).schedule.map (·.address)
      ∧ t.map = s.map ∧ t.stations = s.stations ∧ t.store = s.store ∧ t.alarms = s.alarms ∧ t.link = s.link := by
  rw [ht, switchOn_eq]
  clear ht
  have hposition (v : Nat) (p : ActuatedPart) := position_litUp (l := l) (s := s) (v := v) (p := p)
  obtain ⟨hsupply, hcontrol, hmap, hstations, hstore, halarms, hlink⟩ :
      (litUp l s).supply = s.supply.set l { s.supply.get l with state := .on, timeOn := some 0, retryLeft := none }
        ∧ ((litUp l s).control.get l).schedule
          = (s.control.get l).schedule.map (fun e => { e with last := none, due := s.elapsed })
        ∧ (litUp l s).map = s.map ∧ (litUp l s).stations = s.stations ∧ (litUp l s).store = s.store
        ∧ (litUp l s).alarms = s.alarms ∧ (litUp l s).link = s.link := by
    rw [litUp_only]
    exact ⟨rfl, by rw [PerLine.get_set, if_pos rfl], rfl, rfl, rfl, rfl, rfl⟩
  generalize litUp l s = w at *
  have hreach := linesKept_handReach l s w
  have hkept := (hreach.trans (driven_settle _).linesKept).only
  have hmode' : (handReach l s w).store.mode = .run := by rw [hreach.only]; exact hstore ▸ hmode
  have hschedule := schedule_settle (.inl hmode') l
  rw [(newCommands_handReach l s w).schedule, hcontrol, List.map_map] at hschedule
  have hpositions (v : Nat) : ((settle (handReach l s w)).dyn v).position = (w.dyn v).position :=
    ((driven_settle _).position v).trans (position_handReach l s w v)
  generalize settle (handReach l s w) = t at *
  refine ⟨?_, fun v p hv => (hpositions v).trans (hposition v p hv), fun e he => ?_, ?_, ?_, ?_, ?_, ?_, ?_⟩
  · rw [hkept]; exact hsupply
  · rw [hschedule] at he
    obtain ⟨y, -, rfl⟩ := List.mem_map.1 he
    exact (retime_undone (e := { y with last := none, due := s.elapsed }) rfl _).2.2
  · rw [hschedule, List.map_map]
    exact List.map_congr_left fun e _ => retime_address _ _
  · rw [hkept]; exact hmap
  · rw [hkept]; exact hstations
  · rw [hkept]; exact hstore
  · rw [hkept]; exact halarms
  · rw [hkept]; exact hlink

/-- Settles O44: by the supply state; the switching on settles as `switchedOn_settle` says. -/
theorem supplyIsSwitchedOnAgain : Obligations.SupplyIsSwitchedOnAgain := by
  intro s l hmode u switchedOn
  have hanswer (data : List Byte) (st : Status) (t : State)
      (h : (if (s.map.lines.get l).enabled then
          (⟨supplyOnEffect l s, .done, be1 ((supplyOnEffect l s).supply.get l).state.code⟩ : Answer)
        else refuse .wrongState s) = ⟨t, st, data⟩) : Answers (.supplyOn (Line.code l)) s 0x52#8 st data t := by
    refine answers_of rfl ((gated_taken (by rw [hmode]; rfl) (by simp [inRange_lineCode])).trans ?_)
    simpa only [lineOfCode_code, Option.getD_some] using h
  have hstays (hen : (s.map.lines.get l).enabled = true) (heff : supplyOnEffect l s = s) :
      Answers (.supplyOn (Line.code l)) s 0x52#8 .done (be1 u.state.code) s :=
    hanswer _ _ _ (by rw [if_pos hen, heff])
  refine ⟨fun htrip hleft => ⟨_, ?_, switchedOn_settle hmode rfl⟩, fun hen => hanswer _ _ _ (by simp [hen, refuse]),
    fun hen hoff => ⟨settle (switchOn l s), hanswer _ _ _ ?_, switchedOn_settle hmode rfl⟩, fun hen hon => ?_,
    fun hen hoff => ?_⟩
  · change Host.Outcome.next (supplyRetry l s) = _
    rw [supplyRetry, if_pos ⟨hmode, htrip, Option.isSome_iff_ne_none.2 hleft⟩]
  · have heff : supplyOnEffect l s = settle (switchOn l s) := by
      obtain h | h := hoff <;> simp [supplyOnEffect, show (s.supply.get l).state = _ from h]
    have hcode : be1 ((settle (switchOn l s)).supply.get l).state.code = [1#8] := by
      rw [(switchedOn_settle (l := l) hmode rfl).1, PerLine.get_set, if_pos rfl]
      rfl
    rw [if_pos hen, heff, hcode]
  · have h := hstays hen (by simp [supplyOnEffect, show (s.supply.get l).state = _ from hon])
    rw [hon] at h
    exact h
  · have h := hstays hen (by simp [supplyOnEffect, show (s.supply.get l).state = _ from hoff])
    rw [hoff] at h
    exact h

/-! ### RESET_LINE (06 R157) -/

/-- 06 R157: a station's record after a line reset. -/
def StationRec.anew (r : StationRec) : StationRec := { freshStation with moving := r.moving }

theorem lineOfKey_eq_some {k : Nat} {l : Line} (h : lineOfKey k = some l) : stationKey l (k % 256) = k := by
  have hcode : Line.code l = k / 256 := by
    unfold lineOfKey at h
    generalize k / 256 = n at h ⊢
    unfold lineOfCode at h
    split at h <;> cases h <;> rfl
  rw [stationKey, hcode]; omega

theorem resetStation_only (s : State) (key : Nat) : resetStation s key = { s with
    stations := (resetStation s key).stations
    reports := (resetStation s key).reports } := by
  unfold resetStation; split
  · dsimp only; split <;> rfl
  · rfl

theorem get_resetStation (s : State) (key k : Nat) : Table.get (resetStation s key).stations k
    = if k = key ∧ lineOfKey key ≠ none then (Table.get s.stations k).map StationRec.anew else Table.get s.stations k := by
  unfold resetStation; split
  · next r l hr hl =>
    have hget (w : State) (hw : w.stations = Table.put s.stations (stationKey l (key % 256)) r.anew) :
        Table.get w.stations k
          = if k = key ∧ lineOfKey key ≠ none then (Table.get s.stations k).map StationRec.anew
            else Table.get s.stations k := by
      rw [hw, Table.get_put, lineOfKey_eq_some hl, hl]
      by_cases hk : k = key
      · rw [if_pos hk, if_pos ⟨hk, by simp⟩, hk, hr]; rfl
      · rw [if_neg hk, if_neg fun h => hk h.1]
    dsimp only; split <;> exact hget _ rfl
  · next hno =>
    by_cases hk : k = key ∧ lineOfKey key ≠ none
    · obtain ⟨rfl, hl⟩ := hk
      rw [if_pos ⟨rfl, hl⟩]
      cases hr : Table.get s.stations k with
      | none => rfl
      | some r =>
        obtain ⟨l, hl⟩ := Option.ne_none_iff_exists'.1 hl
        exact absurd hl (hno r l hr)
    · rw [if_neg hk]

/-- 06 R157: the stations of a line, one after the other. -/
theorem get_resetStations {keys : List Nat} (h : ∀ k ∈ keys, lineOfKey k ≠ none) (s : State) (k : Nat) :
    Table.get (keys.foldl resetStation s).stations k
      = if k ∈ keys then (Table.get s.stations k).map StationRec.anew else Table.get s.stations k := by
  induction keys generalizing s with
  | nil => rfl
  | cons key keys ih =>
    rw [List.foldl_cons, ih (fun k hk => h k (List.mem_cons_of_mem _ hk)), get_resetStation]
    have hkey := h key List.mem_cons_self
    by_cases hk : k = key
    · subst hk
      rw [if_pos (And.intro rfl hkey), if_pos (show k ∈ k :: keys from List.mem_cons_self), Option.map_map]
      exact ite_id _
    · rw [if_neg (fun h : k = key ∧ _ => hk h.1)]
      exact if_congr (by simp [hk]) rfl rfl

theorem resetStations_only (keys : List Nat) (s : State) : keys.foldl resetStation s = { s with
    stations := (keys.foldl resetStation s).stations
    reports := (keys.foldl resetStation s).reports } := by
  induction keys generalizing s with
  | nil => rfl
  | cons key keys ih =>
    rw [List.foldl_cons]
    have h := ih (resetStation s key)
    generalize keys.foldl resetStation (resetStation s key) = t at h ⊢
    rw [h, resetStation_only s key]

/-- 06 R157: the state that a line reset hands on. -/
def lineAnew (l : Line) (s : State) : State :=
  let s' := resetController l s
  let s' := (s'.stationKeys l).foldl resetStation s'
  markStale (resetValves l (onSupply l Supply.reset s'))

theorem resetLine_eq (l : Line) (s : State) : resetLine l s = settle (handReach l s (lineAnew l s)) := rfl

theorem lineAnew_only (l : Line) (s : State) : lineAnew l s = { s with
    planner := { s.planner with plan := s.planner.plan.map fun p => { p with stale := true } }
    drive := { s.drive with valves := (lineAnew l s).drive.valves }
    control := (resetController l s).control
    supply := s.supply.set l (s.supply.get l).reset
    stations := (lineAnew l s).stations
    reports := (lineAnew l s).reports } := by
  have hstations := resetStations_only ((resetController l s).stationKeys l) (resetController l s)
  unfold lineAnew
  dsimp only
  generalize List.foldl resetStation _ _ = u at hstations ⊢
  have hvalves : resetValves l (onSupply l Supply.reset u) = { onSupply l Supply.reset u with
      drive := { u.drive with valves := (resetValves l (onSupply l Supply.reset u)).drive.valves } } :=
    foldl_onDyn_only (α := Nat × ActuatedPart) Prod.fst
      (fun _ d => { d with position := none, move := d.move.map Move.lineReset }) _ _
  generalize resetValves l (onSupply l Supply.reset u) = w at hvalves ⊢
  rw [hvalves, hstations]
  rfl

theorem control_lineAnew (l k : Line) (s : State) : (lineAnew l s).control.get k
    = if k = l then { resetControl with
        schedule := (s.control.get l).schedule.map fun e => { e with probe := false, last := none, due := s.elapsed }
        enabled := (s.control.get l).enabled, speed := (s.control.get l).speed } else s.control.get k := by
  have h : (lineAnew l s).control = (resetController l s).control := by rw [lineAnew_only]
  rw [h]
  exact PerLine.get_set ..

/-- 06 R157: the records of a line's stations are made anew, the others kept. -/
theorem get_lineAnew (l : Line) (s : State) (k : Nat) : Table.get (lineAnew l s).stations k
    = if lineOfKey k = some l then (Table.get s.stations k).map StationRec.anew else Table.get s.stations k := by
  have hvalves (u : State) : (resetValves l u).stations = u.stations :=
    foldl_preserves State.stations (f := fun s (e : Nat × ActuatedPart) => onDyn e.1 _ s) (fun _ _ => rfl) _ _
  have hkeys : ∀ k ∈ (resetController l s).stationKeys l, lineOfKey k ≠ none := fun k hk => by
    rw [of_decide_eq_true (List.mem_filter.1 hk).2]; simp
  have h : (lineAnew l s).stations
      = (((resetController l s).stationKeys l).foldl resetStation (resetController l s)).stations := hvalves _
  rw [h, get_resetStations hkeys]
  have hmem : k ∈ (resetController l s).stationKeys l ↔ k ∈ Table.keys s.stations ∧ lineOfKey k = some l := by
    simp [State.stationKeys, resetController]
  by_cases hk : k ∈ Table.keys s.stations
  · exact if_congr (hmem.trans (and_iff_right hk)) rfl rfl
  · have hnone : Table.get s.stations k = none := Table.get_none_of_not_mem hk
    change ite _ ((Table.get s.stations k).map _) (Table.get s.stations k) = _
    rw [hnone]
    simp

theorem dyn_lineAnew (l : Line) (s : State) (v : Nat) : (lineAnew l s).dyn v
    = if v ∈ (s.valvesOfLine l).map (·.1) then { s.dyn v with position := none, move := (s.dyn v).move.map Move.lineReset }
      else s.dyn v := by
  have hstations := resetStations_only ((resetController l s).stationKeys l) (resetController l s)
  change (resetValves l (onSupply l Supply.reset _)).dyn v = _
  generalize List.foldl resetStation _ _ = u at hstations ⊢
  have h := dyn_foldl_idempotent (α := Nat × ActuatedPart) Prod.fst
    (f := fun d => { d with position := none, move := d.move.map Move.lineReset })
    (fun d => by cases d.move <;> rfl) ((onSupply l Supply.reset u).valvesOfLine l) (onSupply l Supply.reset u) v
  refine h.trans ?_
  rw [hstations]
  rfl

theorem station_lineAnew (l k : Line) (s : State) (address : Nat) :
    (lineAnew l s).station k address = s.station k address
      ∨ ∃ r, (lineAnew l s).station k address = StationRec.anew r := by
  unfold State.station
  rw [get_lineAnew]
  split
  · cases Table.get s.stations (stationKey k address) with
    | none => exact .inl rfl
    | some r => exact .inr ⟨r, rfl⟩
  · exact .inl rfl

/-- 06 R157: a line reset makes no valve unreachable. -/
theorem reachable_lineAnew {l : Line} {s : State} {v : Nat} (h : s.reachable v = true) :
    (lineAnew l s).reachable v = true := by
  have hact : (lineAnew l s).actuated v = s.actuated v := by rw [lineAnew_only]; rfl
  unfold State.reachable at h ⊢
  rw [hact]
  generalize s.actuated v = part at h ⊢
  cases part with
  | none => exact h
  | some p =>
    dsimp only at h ⊢
    unfold State.partReachable at h ⊢
    simp only [Bool.and_eq_true, decide_eq_true_eq, bne_iff_ne, Bool.not_eq_true'] at h ⊢
    obtain ⟨⟨⟨⟨hen, hon⟩, hhas⟩, hoff⟩, hlocal⟩ := h
    have hstation := station_lineAnew l p.line s p.address
    have hclear (r : StationRec) : r.anew.localControl.get p.channel = false := by
      change (⟨false, false, false, false⟩ : PerChannel Bool).get p.channel = false
      unfold PerChannel.get
      split <;> rfl
    refine ⟨⟨⟨⟨?_, ?_⟩, ?_⟩, ?_⟩, ?_⟩
    · rw [control_lineAnew]; split
      · next hl => rw [← hl]; exact hen
      · exact hen
    · have hsupply : (lineAnew l s).supply = s.supply.set l (s.supply.get l).reset := by rw [lineAnew_only]
      rw [hsupply, PerLine.get_set]; split
      · rfl
      · exact hon
    · rw [lineAnew_only]; exact hhas
    · obtain e | ⟨r, e⟩ := hstation
      · rw [e]; exact hoff
      · rw [e]; exact fun h => nomatch h
    · obtain e | ⟨r, e⟩ := hstation
      · rw [e]; exact hlocal
      · rw [e]; exact hclear r

/-- Where nothing has become unreachable and the plan is stale already, nothing is handed on. -/
theorem handReach_gained {l : Line} {before s : State} (h : ∀ v, before.reachable v = true → s.reachable v = true)
    (hstale : markStale s = s) : handReach l before s = s := by
  rw [handReach_eq]
  generalize s.valvesOfLine l = es
  induction es with
  | nil => rfl
  | cons e es ih =>
    have hone : handOne before s e = s := by
      unfold handOne
      split
      · rfl
      · next hne =>
        split
        · exact hstale
        · next hno =>
          have hb : before.reachable e.1 = true := by
            cases hb : before.reachable e.1 with
            | true => rfl
            | false => exact absurd (hb.trans (Bool.eq_false_iff.2 hno).symm) hne
          exact absurd (h e.1 hb) hno
    rw [List.foldl_cons, hone]
    exact ih

theorem markStale_lineAnew (l : Line) (s : State) : markStale (lineAnew l s) = lineAnew l s := by
  unfold lineAnew
  dsimp only
  generalize resetValves l _ = u
  unfold markStale
  cases u.planner.plan <;> rfl

theorem resetLine_settles (l : Line) (s : State) : resetLine l s = settle (lineAnew l s) := by
  rw [resetLine_eq, handReach_gained (fun _ => reachable_lineAnew) (markStale_lineAnew l s)]

theorem lineOfKey_stationKey {l : Line} {address : Nat} (h : address ≤ 16) :
    lineOfKey (stationKey l address) = some l := by
  have hdiv : (Line.code l * 256 + address) / 256 = Line.code l := by omega
  rw [lineOfKey, stationKey, hdiv, lineOfCode_code]

/-- A plan that was stale is stale after driving and settling, and no other is in progress. -/
theorem Driven.all_stale {s t : State} (h : Driven s t) (hs : ∀ p, s.planner.plan = some p → p.stale = true) :
    ∀ p, t.planner.plan = some p → p.stale = true := by
  intro q hq
  have hplan := h.plan
  rw [hq] at hplan
  cases hp : s.planner.plan with
  | none => rw [hp] at hplan; cases hplan
  | some p => exact h.stale p q hp hq (hs p hp)

/-- Settles O45: the line made anew settles with no valve made unreachable. -/
theorem resetLineStartsTheLineAnew : Obligations.ResetLineStartsTheLineAnew := by
  intro s l hmode
  have hanswer (data : List Byte) (st : Status) (t : State)
      (h : (if (s.map.lines.get l).enabled then done (resetLine l s) else refuse .wrongState s) = ⟨t, st, data⟩) :
      Answers (.resetLine (Line.code l)) s 0x51#8 st data t := by
    refine answers_of rfl ((gated_taken (by rw [hmode]; rfl) (by simp [inRange_lineCode])).trans ?_)
    simpa only [lineOfCode_code, Option.getD_some] using h
  refine ⟨fun hen => hanswer _ _ _ (by simp [hen, refuse]), fun hen => ⟨settle (lineAnew l s),
    hanswer _ _ _ (by rw [if_pos hen, resetLine_settles]; rfl), ?_⟩⟩
  have hcontrol (k : Line) := control_lineAnew l k s
  have hline := hcontrol l
  rw [if_pos rfl] at hline
  have hget := get_lineAnew l s
  have hdyn := dyn_lineAnew l s
  obtain ⟨hplan, hengine, hserial, hsupply, hmap, hstore, halarms, hlink, helapsed⟩ :
      (∀ p, (lineAnew l s).planner.plan = some p → p.stale = true) ∧ (lineAnew l s).engine = s.engine
        ∧ (lineAnew l s).drive.serial = s.drive.serial
        ∧ (lineAnew l s).supply = s.supply.set l (s.supply.get l).reset ∧ (lineAnew l s).map = s.map
        ∧ (lineAnew l s).store = s.store ∧ (lineAnew l s).alarms = s.alarms ∧ (lineAnew l s).link = s.link
        ∧ (lineAnew l s).elapsed = s.elapsed := by
    rw [lineAnew_only]
    refine ⟨fun p hp => ?_, rfl, rfl, rfl, rfl, rfl, rfl, rfl, rfl⟩
    obtain ⟨q, -, rfl⟩ := Option.map_eq_some_iff.1 hp
    rfl
  generalize lineAnew l s = w at *
  have hdriven := driven_settle w
  have hkept := hdriven.only
  have hcourse := hdriven.lines l
  have hcommands := newCommands_unretimed w
  have hqueue := queue_settle w l
  have hschedule := schedule_settle (.inl (by rw [hstore]; exact hmode)) l
  rw [hline, List.map_map] at hschedule
  have hstation (k : Nat) : Table.get (settle w).stations k = Table.get w.stations k := by rw [hkept]
  refine ⟨?_, fun e he => ?_, ?_, ?_, ?_, ?_, fun e he => ?_, ?_, fun a ha r hr => ?_, fun k hk => ?_, ?_,
    fun v p hv => ?_, fun hm v p m hv hlist _ _ _ hmove => ?_, hdriven.all_stale hplan, fun k hk => ?_, ?_⟩
  · rw [hcourse.exchange, hline]; rfl
  · rw [hqueue] at he
    obtain he | ⟨he, -⟩ := hcommands.queue l e he
    · rw [hline] at he; cases he
    · exact hserial ▸ he
  · rw [hcourse.urgentCount, hline]; rfl
  · rw [hcourse.errorLog, hline]; rfl
  · rw [hcourse.overflowReported, hline]; rfl
  · rw [hcourse.lastError, hline]; rfl
  · rw [hschedule] at he
    obtain ⟨y, -, rfl⟩ := List.mem_map.1 he
    exact (retime_undone (e := { y with probe := false, last := none, due := s.elapsed }) rfl _).2
  · rw [hschedule, List.map_map]
    exact List.map_congr_left fun e _ => retime_address _ _
  · have h : Table.get (settle w).stations (stationKey l a) = some r.anew := by
      rw [hstation, hget, if_pos (lineOfKey_stationKey ha), stationKey, hr]; rfl
    rw [State.station, h]; rfl
  · rw [hstation, hget, if_neg hk]
  · rw [hkept]; exact hsupply
  · rw [hdriven.position, hdyn, if_pos (List.mem_map_of_mem (f := Prod.fst) hv)]
  · have hd := hdyn v
    rw [if_pos (List.mem_map_of_mem (f := Prod.fst) hv), hmove] at hd
    have hact : w.actuated v = some p := by
      rw [State.actuated, hmap]; exact ((mem_valvesOfLine hm).1 hv).1
    have hrest : w.Resting v := resting_of hact (.inl (by rw [hd]; rfl))
    rw [dyn_settle (by rw [State.Unlisted, hengine]; exact hlist) hrest, hd]
    exact ⟨rfl, rfl⟩
  · have h := hdriven.lines k
    rw [h.errorLog, h.exchange, hcontrol, if_neg hk]
    exact ⟨rfl, rfl⟩
  · rw [hkept]
    exact ⟨hmap, hstore, halarms, hlink, helapsed⟩

end Sys2Proof.Machine
end

section
/-! PROOFS. The completion of an exchange: what it leaves of a line's log, exchange and schedule, and what an erring one
makes of the station (05 R128, R135, R136, R139, R140; 06 R144 to R147). -/

namespace Sys2Proof.Machine

open Sys2Proof

/-! ### A line's log and exchange -/

/-- The exchange in flight and the error log of a line are as they were. -/
structure SameLog (c d : LineControl) : Prop where
  exchange : d.exchange = c.exchange
  errorLog : d.errorLog = c.errorLog
  overflowReported : d.overflowReported = c.overflowReported
  lastError : d.lastError = c.lastError

theorem SameLog.refl (c : LineControl) : SameLog c c := ⟨rfl, rfl, rfl, rfl⟩

theorem SameLog.trans {c d e : LineControl} (h : SameLog c d) (h' : SameLog d e) : SameLog c e :=
  ⟨h'.1.trans h.1, h'.2.trans h.2, h'.3.trans h.3, h'.4.trans h.4⟩

theorem SameCourse.sameLog {c d : LineControl} (h : SameCourse c d) : SameLog c d :=
  ⟨h.exchange, h.errorLog, h.overflowReported, h.lastError⟩

/-- What changes one line's controller and not its log leaves every line's log. -/
theorem sameLog_onControl {l : Line} {f : LineControl → LineControl} (h : ∀ c, SameLog c (f c)) (s : State) (k : Line) :
    SameLog (s.control.get k) ((onControl l f s).control.get k) := by
  simp only [onControl_fields, PerLine.get_set]
  split
  · next hk => rw [hk]; exact h _
  · exact .refl _

/-- Only urgent queues and what waits for them have changed. -/
structure QueuesOnly (s t : State) : Prop where
  only : t = { s with control := t.control }
  log : ∀ l, SameLog (s.control.get l) (t.control.get l)
  schedule : ∀ l, (t.control.get l).schedule = (s.control.get l).schedule

namespace QueuesOnly

variable {s t u : State}

theorem refl (s : State) : QueuesOnly s s := ⟨rfl, fun _ => .refl _, fun _ => rfl⟩

theorem trans (h : QueuesOnly s t) (h' : QueuesOnly t u) : QueuesOnly s u where
  only := by rw [h'.only, h.only]
  log l := (h.log l).trans (h'.log l)
  schedule l := (h'.schedule l).trans (h.schedule l)

theorem onControl {l : Line} {f : LineControl → LineControl} (h : ∀ c, SameLog c (f c))
    (h' : ∀ c, (f c).schedule = c.schedule) (s : State) : QueuesOnly s (onControl l f s) where
  only := rfl
  log := sameLog_onControl h s
  schedule k := by
    simp only [onControl_fields, PerLine.get_set]
    split
    · next hk => rw [hk]; exact h' _
    · rfl

end QueuesOnly

theorem queuesOnly_offer (l : Line) (e : QueueEntry) (s : State) : QueuesOnly s (offer l e s) :=
  .onControl (fun _ => by split <;> exact ⟨rfl, rfl, rfl, rfl⟩) (fun _ => by split <;> rfl) s

theorem queuesOnly_reofferRefused (l : Line) (s : State) : QueuesOnly s (reofferRefused l s) := by
  have hall (vs : List Nat) : ∀ s, QueuesOnly s (reoffer vs l s) := by
    induction vs with
    | nil => exact .refl
    | cons v rest ih =>
      intro s
      rw [reoffer]
      split
      · dsimp only
        split
        · exact queuesOnly_offer _ _ s
        · exact (queuesOnly_offer _ _ s).trans (ih _)
      · refine QueuesOnly.trans ?_ (ih _)
        apply QueuesOnly.onControl
        · exact fun _ => ⟨rfl, rfl, rfl, rfl⟩
        · exact fun _ => rfl
  exact hall _ s

theorem queuesOnly_driveFails (l : Line) (x : Exchange) (s : State) : QueuesOnly s (driveFails l x s) := by
  unfold driveFails
  split
  · unfold commandFailed
    split
    · split
      · exact queuesOnly_offer _ _ s
      · exact .refl s
    · exact .refl s
  · exact .refl s

/-! ### The error log (05 R139, R140) -/

/-- 05 R139, R140: a line's controller after an error. -/
def LineControl.erred (c : LineControl) (e : LineError) : LineControl :=
  { c with lastError := e, errorLog := saturate 255 c.errorLog
           overflowReported := c.overflowReported || decide (255 ≤ c.errorLog) }

theorem countError_eq (l : Line) (e : LineError) (s : State) : countError l e s
    = if 255 ≤ (s.control.get l).errorLog ∧ (s.control.get l).overflowReported = false then
        raise .lineLogOverflow (.line l) 0 [some e.code] (onControl l (fun _ => (s.control.get l).erred e) s)
      else onControl l (fun _ => (s.control.get l).erred e) s := by
  unfold countError
  exact if_congr (by simp) rfl rfl

theorem countError_only (l : Line) (e : LineError) (s : State) : countError l e s
    = { s with control := s.control.set l ((s.control.get l).erred e), reports := (countError l e s).reports } := by
  rw [countError_eq]; split <;> rfl

theorem reported_countError (l : Line) (e : LineError) (s : State) : Reported s.reports (countError l e s).reports := by
  rw [countError_eq]; split
  · exact .raise _ _
  · exact .refl _

/-- 05 R140: the first error that the log cannot count is reported. -/
theorem keeps_countError {l : Line} (e : LineError) {s : State} (hfull : 255 ≤ (s.control.get l).errorLog)
    (hnew : (s.control.get l).overflowReported = false) :
    (countError l e s).reports.Keeps ⟨.lineLogOverflow, s.reports.timeBase, .line l, 0, [some e.code]⟩ := by
  rw [countError_eq, if_pos ⟨hfull, hnew⟩]
  exact keeps_raise _ _

/-! ### The poll entry of a completion (05 R135, R136) -/

/-- 05 R135, R136: a poll or probe entry after an exchange that it waits for. -/
def PollEntry.taken (e : PollEntry) (now interval : Nat) : PollEntry :=
  if e.probe then { e with last := some now, due := now + probeInterval }
  else { e with last := some now, due := now + interval, interval := interval }

/-- 05 R135, R136: the entry of the station of an exchange that has completed, with the interval then in effect. -/
def PollEntry.completed (e : PollEntry) (kind : ExchangeKind) (good : Bool) (now interval : Nat) : PollEntry :=
  match kind with
  | .poll => e.taken now interval
  | .probe => if e.probe then e.taken now interval else { e with last := some now, interval := interval }
  | .command _ => if good then e.taken now interval else e

theorem sameLog_onPollEntry (l : Line) (a : Nat) (f : PollEntry → PollEntry) (s : State) (k : Line) :
    SameLog (s.control.get k) ((onPollEntry l a f s).control.get k) := by
  apply sameLog_onControl
  exact fun _ => ⟨rfl, rfl, rfl, rfl⟩

theorem mem_onPollEntry {l : Line} {f : PollEntry → PollEntry} {s : State} {e : PollEntry}
    (he : e ∈ (s.control.get l).schedule) : f e ∈ ((onPollEntry l e.address f s).control.get l).schedule := by
  simp only [onPollEntry, onControl_fields, PerLine.get_set, if_true]
  exact List.mem_map.2 ⟨e, he, if_pos rfl⟩

theorem reschedule_only (l : Line) (x : Exchange) (good : Bool) (s : State) :
    reschedule l x good s = { s with control := (reschedule l x good s).control } := by
  unfold reschedule; dsimp only
  split
  · rfl
  · rfl
  · split <;> rfl

theorem sameLog_reschedule (l : Line) (x : Exchange) (good : Bool) (s : State) (k : Line) :
    SameLog (s.control.get k) ((reschedule l x good s).control.get k) := by
  unfold reschedule; dsimp only
  split
  · exact sameLog_onPollEntry _ _ _ s k
  · exact sameLog_onPollEntry _ _ _ s k
  · split
    · exact sameLog_onPollEntry _ _ _ s k
    · exact .refl _

theorem mem_reschedule {l : Line} {x : Exchange} {s : State} {e : PollEntry} (he : e ∈ (s.control.get l).schedule)
    (ha : e.address = x.address) (good : Bool) :
    e.completed x.kind good s.elapsed (s.interval l x.address) ∈ ((reschedule l x good s).control.get l).schedule := by
  unfold reschedule PollEntry.completed; dsimp only
  rw [← ha]
  cases x.kind with
  | poll => exact mem_onPollEntry he
  | probe => exact mem_onPollEntry he
  | command q =>
    cases good with
    | true => exact mem_onPollEntry he
    | false => exact he

theorem completed_address (e : PollEntry) (kind : ExchangeKind) (good : Bool) (now interval : Nat) :
    (e.completed kind good now interval).address = e.address := by
  have htaken : (e.taken now interval).address = e.address := by
    unfold PollEntry.taken; split <;> rfl
  cases kind with
  | poll => exact htaken
  | probe =>
    unfold PollEntry.completed; dsimp only
    split
    · exact htaken
    · rfl
  | command q =>
    cases good with
    | true => exact htaken
    | false => rfl

theorem mem_settle {l : Line} {s : State} {e : PollEntry} (hm : s.store.mode = .run ∨ s.store.mode = .quiescing)
    (he : e ∈ (s.control.get l).schedule) :
    e.retime ((settle s).interval l e.address) ∈ ((settle s).control.get l).schedule := by
  rw [schedule_settle hm]
  exact List.mem_map.2 ⟨e, he, rfl⟩

/-! ### The station of an erring exchange (06 R144 to R147) -/

theorem sameLog_dropStationCommands (l : Line) (a : Nat) (s : State) (k : Line) :
    SameLog (s.control.get k) ((dropStationCommands l a s).control.get k) := by
  apply sameLog_onControl
  exact fun _ => ⟨rfl, rfl, rfl, rfl⟩

/-- 06 R144: what an error adds to the fault score. -/
def LineError.weight (e : LineError) : Nat := if e = .noReply then 16 else 8

theorem scoreAfter_error {e : LineError} (h : e ≠ .none) (n : Nat) : scoreAfter n e = min 160 (n + e.weight) := by
  cases e
  case none => exact absurd rfl h
  all_goals rfl

/-- 06 R144 to R147: a station's record after an error. -/
def StationRec.erred (r : StationRec) (e : LineError) : StationRec :=
  if r.state = .offline then { r with probeRun := 0 }
  else
    { r with
      score := min 160 (r.score + e.weight)
      state := stateOfScore (min 160 (r.score + e.weight))
      probeRun := if stateOfScore (min 160 (r.score + e.weight)) = .offline then 0 else r.probeRun }

/-- 06 R144: an error makes the station OFFLINE. -/
abbrev StationRec.Lost (r : StationRec) (e : LineError) : Prop :=
  r.state ≠ .offline ∧ stateOfScore (min 160 (r.score + e.weight)) = .offline

theorem StationRec.erred_offline_iff (r : StationRec) (e : LineError) :
    (r.erred e).state = .offline ↔ r.state = .offline ∨ r.Lost e := by
  unfold StationRec.erred StationRec.Lost
  by_cases h : r.state = .offline <;> simp [h]

/-- What the supervisor makes of an erring exchange: `l` and `a` name the station, `e` is the error. -/
structure Supervised (l : Line) (a : Nat) (e : LineError) (s t : State) : Prop where
  only : t = { s with stations := t.stations, control := t.control, reports := t.reports }
  stations : t.stations = Table.put s.stations (stationKey l a) ((s.station l a).erred e)
  log : ∀ k, SameLog (s.control.get k) (t.control.get k)
  reported : Reported s.reports t.reports
  health : (s.station l a).state ≠ .offline → ((s.station l a).erred e).state ≠ (s.station l a).state →
    t.reports.Keeps ⟨.stationHealth, s.reports.timeBase, .station l a, ((s.station l a).erred e).state.code,
      [some (s.station l a).state.code, some ((s.station l a).erred e).score, some e.code]⟩
  entry : ∀ x ∈ (s.control.get l).schedule, x.address = a →
    (if (s.station l a).Lost e then { x with probe := true, due := s.elapsed + probeInterval } else x)
      ∈ (t.control.get l).schedule

theorem supervised_error {e : LineError} (he : e ≠ .none) (l : Line) (a : Nat) (s : State) :
    Supervised l a e s (supervise l a e s) := by
  have hput (r : StationRec) (hr : r = (s.station l a).erred e)
      (hstate : (s.station l a).state ≠ .offline → r.state = (s.station l a).state) :
      Supervised l a e s (setStation l a r s) := by
    subst hr
    refine ⟨rfl, rfl, fun _ => .refl _, .refl _, fun h h' => absurd (hstate h) h', fun x hx _ => ?_⟩
    rw [if_neg fun h => ?_]
    · exact hx
    · have hoff := ((s.station l a).erred_offline_iff e).2 (.inr h)
      exact h.1 ((hstate h.1).symm.trans hoff)
  unfold supervise
  dsimp only
  split
  · next hoff =>
    unfold superviseProbe
    rw [if_neg he]
    exact hput _ (by rw [StationRec.erred, if_pos hoff]) fun h => absurd hoff h
  · next hon =>
    have herred : (s.station l a).erred e = { s.station l a with
        score := min 160 ((s.station l a).score + e.weight)
        state := stateOfScore (min 160 ((s.station l a).score + e.weight))
        probeRun := if stateOfScore (min 160 ((s.station l a).score + e.weight)) = .offline then 0
                    else (s.station l a).probeRun } := if_neg hon
    unfold superviseScore
    dsimp only
    rw [scoreAfter_error he]
    split
    · next hsame =>
      refine hput _ ?_ fun _ => rfl
      rw [herred, hsame, if_neg hon]
    · next hnew =>
      rw [← herred]
      have hscore : ((s.station l a).erred e).score = min 160 ((s.station l a).score + e.weight) := by rw [herred]
      have hstate : ((s.station l a).erred e).state = stateOfScore (min 160 ((s.station l a).score + e.weight)) := by
        rw [herred]
      have hlost : (s.station l a).Lost e ↔ ((s.station l a).erred e).state = .offline := by
        rw [hstate]; exact and_iff_right hon
      rw [← hstate, ← hscore]
      have hhealth := keeps_raise s.reports
        ⟨.stationHealth, s.reports.timeBase, .station l a, ((s.station l a).erred e).state.code,
          [some (s.station l a).state.code, some ((s.station l a).erred e).score, some e.code]⟩
      split
      · next h =>
        refine ⟨rfl, rfl, fun k => ?_, .raise _ _, fun _ _ => hhealth, fun x hx ha => ?_⟩
        · exact (sameLog_dropStationCommands l a _ k).trans (sameLog_onPollEntry _ _ _ _ k)
        · rw [if_pos (hlost.2 h), ← ha]
          refine mem_onPollEntry (s := dropStationCommands l x.address _) ?_
          simp only [dropStationCommands, onControl_fields, PerLine.get_set, if_true]
          exact hx
      · next h =>
        refine ⟨rfl, rfl, fun _ => .refl _, .raise _ _, fun _ _ => hhealth, fun x hx _ => ?_⟩
        rw [if_neg fun h' => h (hlost.1 h')]
        exact hx

end Sys2Proof.Machine
end

section
/-! PROOFS. An erring exchange: O39 (05 R128, R135, R136, R139, R140; 06 R144 to R147, R150). -/

namespace Sys2Proof.Machine

open Sys2Proof

/-- 05 R128: the exchange in flight on a line is over. -/
def exchangeOver (l : Line) (s : State) : State := onControl l (fun k => { k with exchange := none }) s

theorem reachable_exchangeOver (l : Line) (s : State) (v : Nat) : (exchangeOver l s).reachable v = s.reachable v := by
  have hpart (p : ActuatedPart) : (exchangeOver l s).partReachable p = s.partReachable p := by
    have h : ((exchangeOver l s).control.get p.line).enabled = (s.control.get p.line).enabled := by
      simp only [exchangeOver, onControl_fields, PerLine.get_set]
      split
      · next hl => rw [hl]
      · rfl
    unfold State.partReachable
    rw [h]
    rfl
  have hact : (exchangeOver l s).actuated v = s.actuated v := rfl
  unfold State.reachable
  rw [hact]
  cases s.actuated v with
  | none => rfl
  | some p => exact hpart p

/-- 05 R128: what the line controller makes of an exchange that has failed. -/
def controllerTakes (l : Line) (x : Exchange) (e : LineError) (s : State) : State :=
  reofferRefused l (reschedule l x false (countError l e (driveFails l x s)))

/-- What the line controller makes of an error leaves all but the line controllers and the report unit; the error is counted
and reported when the log is full, and the station's entry follows. -/
structure ErrorTaken (l : Line) (x : Exchange) (e : LineError) (s t : State) : Prop where
  only : t = { s with control := t.control, reports := t.reports }
  log : SameLog ((s.control.get l).erred e) (t.control.get l)
  other : ∀ k ≠ l, SameLog (s.control.get k) (t.control.get k)
  reported : Reported s.reports t.reports
  overflow : 255 ≤ (s.control.get l).errorLog → (s.control.get l).overflowReported = false →
    t.reports.Keeps ⟨.lineLogOverflow, s.reports.timeBase, .line l, 0, [some e.code]⟩
  entry : ∀ y ∈ (s.control.get l).schedule, y.address = x.address →
    y.completed x.kind false s.elapsed (s.interval l x.address) ∈ (t.control.get l).schedule

theorem errorTaken (l : Line) (x : Exchange) (e : LineError) (s : State) : ErrorTaken l x e s (controllerTakes l x e s) := by
  have hfails := queuesOnly_driveFails l x s
  unfold controllerTakes
  generalize driveFails l x s = a at hfails ⊢
  have hcount := countError_only l e a
  have hrep := reported_countError l e a
  have hkeep := keeps_countError (l := l) e (s := a)
  generalize countError l e a = b at hcount hrep hkeep ⊢
  have hresch := reschedule_only l x false b
  have hlog := sameLog_reschedule l x false b
  have hentry := fun y hy ha => mem_reschedule (l := l) (x := x) (s := b) (e := y) hy ha false
  generalize reschedule l x false b = c at hresch hlog hentry ⊢
  have hoffer := queuesOnly_reofferRefused l c
  generalize reofferRefused l c = d at hoffer ⊢
  have hcontrol (k : Line) : b.control.get k = if k = l then (a.control.get l).erred e else a.control.get k := by
    rw [hcount]; exact PerLine.get_set ..
  have hab : a = { s with control := a.control } := hfails.only
  have hlast (k : Line) : SameLog (b.control.get k) (d.control.get k) := (hlog k).trans (hoffer.log k)
  have hreports : a.reports = s.reports := by rw [hab]
  have hreports' : d.reports = b.reports := by rw [hoffer.only, hresch]
  have hfull := hfails.log l
  refine ⟨?_, ?_, fun k hk => ?_, ?_, fun h h' => ?_, fun y hy ha => ?_⟩
  · rw [hoffer.only, hresch, hcount, hab]
  · refine SameLog.trans ?_ (hlast l)
    rw [hcontrol, if_pos rfl]
    exact ⟨hfull.exchange, by simp [LineControl.erred, hfull.errorLog],
      by simp [LineControl.erred, hfull.errorLog, hfull.overflowReported], rfl⟩
  · refine SameLog.trans ?_ (hlast k)
    rw [hcontrol, if_neg hk]
    exact hfails.log k
  · rw [hreports', ← hreports]; exact hrep
  · rw [hreports', ← hreports]
    exact hkeep (by rw [hfull.errorLog]; exact h) (by rw [hfull.overflowReported]; exact h')
  · have hsched : (b.control.get l).schedule = (s.control.get l).schedule := by
      rw [hcontrol, if_pos rfl]; exact hfails.schedule l
    have hinterval : b.interval l x.address = s.interval l x.address := by rw [hcount, hab]; rfl
    have helapsed : b.elapsed = s.elapsed := by rw [hcount, hab]
    rw [hoffer.schedule, ← hinterval, ← helapsed]
    exact hentry y (by rw [hsched]; exact hy) ha

theorem quiet_controllerTakes (l : Line) (x : Exchange) (e : LineError) (s : State) : Quiet s (controllerTakes l x e s) :=
  (((quiet_driveFails l x s).trans (quiet_countError _ _ _)).trans (quiet_reschedule _ _ _ _)).trans
    (quiet_reofferRefused _ _)

theorem judgeReply_ne_none {a : Nat} {cs : List Character} {e : LineError} (h : judgeReply a cs = .error e) : e ≠ .none := by
  unfold judgeReply at h
  dsimp only at h
  split at h
  · cases h; decide
  · split at h
    · cases h; decide
    · split at h
      · cases h; decide
      · cases h

/-! ### The entry of the station (05 R135, R136) -/

section entry

variable (y : PollEntry) (kind : ExchangeKind) (now i j : Nat)

/-- 05 R136: a probe entry is not timed anew. -/
theorem retime_probe {y : PollEntry} (h : y.probe = true) (j : Nat) : y.retime j = y := by
  rw [PollEntry.retime, h]; rfl

/-- 05 R135: a poll entry just taken is due an interval later, by the interval then in effect. -/
theorem retime_taken {y : PollEntry} (h : y.probe = false) : ((y.taken now i).retime j).probe = false
    ∧ ((y.taken now i).retime j).last = some now ∧ ((y.taken now i).retime j).due = now + j := by
  unfold PollEntry.taken PollEntry.retime
  by_cases hij : i = j <;> simp [h, hij]

theorem taken_probe {y : PollEntry} (h : y.probe = true) :
    y.taken now i = { y with last := some now, due := now + probeInterval } := by
  rw [PollEntry.taken, if_pos h]

theorem completed_probe (good : Bool) : (y.completed kind good now i).probe = y.probe := by
  have htaken : (y.taken now i).probe = y.probe := by unfold PollEntry.taken; split <;> rfl
  unfold PollEntry.completed
  split
  · exact htaken
  · split
    · exact htaken
    · rfl
  · split
    · exact htaken
    · rfl

theorem retime_keeps_probe : (y.retime j).probe = y.probe := by unfold PollEntry.retime; split <;> rfl

theorem retime_last : (y.retime j).last = y.last := by unfold PollEntry.retime; split <;> rfl

theorem retime_due (h : y.probe = false) : (y.retime j).due
    = if y.interval = j then y.due else match y.last with | some last => last + j | none => y.due := by
  unfold PollEntry.retime
  by_cases hj : y.interval = j
  · simp [h, hj]
  · cases hl : y.last <;> simp [h, hj]

end entry

/-- 06 R150: a valve of an OFFLINE station is not reachable. -/
theorem reachable_of_offline {s : State} {v : Nat} {p : ActuatedPart} (hact : s.actuated v = some p)
    (hoff : (s.station p.line p.address).state = .offline) : s.reachable v = false := by
  rw [State.reachable, hact]
  refine Bool.eq_false_iff.2 fun h => ?_
  dsimp only at h
  unfold State.partReachable at h
  simp only [Bool.and_eq_true, bne_iff_ne] at h
  exact h.1.2 hoff

/-- 05 R135, R136: the entry of a station after an erring exchange, with the interval in effect at the completion and at the
end of the step. -/
def PollEntry.afterError (y : PollEntry) (lost : Bool) (kind : ExchangeKind) (now i j : Nat) : PollEntry :=
  ((if lost then { y with probe := true, due := now + probeInterval } else y).completed kind false now i).retime j

section afterError

variable {y : PollEntry} (lost : Bool) (kind : ExchangeKind) (now i j : Nat)

theorem afterError_address : (y.afterError lost kind now i j).address = y.address := by
  rw [PollEntry.afterError, retime_address, completed_address]; split <;> rfl

theorem afterError_probe (h : y.probe = false) : (y.afterError lost kind now i j).probe = lost := by
  rw [PollEntry.afterError, retime_keeps_probe, completed_probe]
  cases lost with
  | true => rfl
  | false => exact h

theorem afterError_poll (h : y.probe = false) : (y.afterError lost .poll now i j).last = some now
    ∧ (y.afterError lost .poll now i j).due = now + if lost then 5000 else j := by
  cases lost with
  | true =>
    change (PollEntry.retime (PollEntry.taken { y with probe := true, due := now + probeInterval } now i) j).last = _
      ∧ (PollEntry.retime (PollEntry.taken { y with probe := true, due := now + probeInterval } now i) j).due = _
    rw [taken_probe now i rfl, retime_probe rfl]
    exact ⟨rfl, rfl⟩
  | false => exact (retime_taken now i j h).2

theorem afterError_command (h : y.probe = false) (q : QueueEntry) : (y.afterError lost (.command q) now i j).last = y.last
    ∧ (y.afterError lost (.command q) now i j).due = if lost then now + 5000 else if y.interval = j then y.due
        else match y.last with | some last => last + j | none => y.due := by
  cases lost with
  | true =>
    have he : y.afterError true (.command q) now i j = { y with probe := true, due := now + probeInterval } :=
      retime_probe rfl j
    rw [he]; exact ⟨rfl, rfl⟩
  | false => exact ⟨retime_last y j, (retime_due y j h).trans rfl⟩

theorem afterError_reprobe (h : y.probe = true) : y.afterError false .probe now i j
    = { y with last := some now, due := now + probeInterval } := by
  have he : y.completed .probe false now i = { y with last := some now, due := now + probeInterval } :=
    (if_pos h).trans (taken_probe now i h)
  change (y.completed .probe false now i).retime j = _
  rw [he]
  exact retime_probe (y := { y with last := some now, due := now + probeInterval }) h j

end afterError

/-- What an erring exchange leads to, up to the end of QUIESCING. -/
structure Erred (l : Line) (x : Exchange) (e : LineError) (s t : State) : Prop where
  fields : t.map = s.map ∧ t.supply = s.supply ∧ t.alarms = s.alarms ∧ t.link = s.link ∧ t.elapsed = s.elapsed
  store : t.store = s.store
  stations : ∀ k, Table.get t.stations k
    = if k = stationKey l x.address then some ((s.station l x.address).erred e) else Table.get s.stations k
  own : SameLog (({ s.control.get l with exchange := none } : LineControl).erred e) (t.control.get l)
  other : ∀ k ≠ l, SameLog (s.control.get k) (t.control.get k)
  timeBase : t.reports.timeBase = s.reports.timeBase
  overflow : 255 ≤ (s.control.get l).errorLog → (s.control.get l).overflowReported = false →
    t.reports.Keeps ⟨.lineLogOverflow, s.reports.timeBase, .line l, 0, [some e.code]⟩
  health : (s.station l x.address).state ≠ .offline →
    ((s.station l x.address).erred e).state ≠ (s.station l x.address).state →
    t.reports.Keeps ⟨.stationHealth, s.reports.timeBase, .station l x.address, ((s.station l x.address).erred e).state.code,
      [some (s.station l x.address).state.code, some ((s.station l x.address).erred e).score, some e.code]⟩
  entry : s.store.mode = .run ∨ s.store.mode = .quiescing → ∀ y ∈ (s.control.get l).schedule, y.address = x.address →
    ∃ i, y.afterError (decide ((s.station l x.address).Lost e)) x.kind s.elapsed i (t.interval l x.address)
      ∈ (t.control.get l).schedule
  lost : s.SlotsSound → Table.Wf s.map.valves → (s.station l x.address).Lost e →
    ∀ v p, (v, p) ∈ s.valvesOfLine l → p.address = x.address → s.reachable v = true → s.Unlisted v →
      t.dyn v = s.lostDyn v ∧ FailsUnreachable s t v
  restores : RestoreGoesOn s t

/-- 05 R128: an erring exchange as the supervisor judges it, with the loss of reachability handed on. -/
def errorHanded (l : Line) (x : Exchange) (e : LineError) (s : State) : State :=
  handReach l (exchangeOver l s) (supervise l x.address e (exchangeOver l s))

/-- What the supervisor and the loss of reachability make of an erring exchange. -/
structure ErrorHanded (l : Line) (x : Exchange) (e : LineError) (s t : State) : Prop where
  fields : t.map = s.map ∧ t.supply = s.supply ∧ t.alarms = s.alarms ∧ t.link = s.link ∧ t.elapsed = s.elapsed
  store : t.store = s.store
  stations : t.stations = Table.put s.stations (stationKey l x.address) ((s.station l x.address).erred e)
  own : SameLog { s.control.get l with exchange := none } (t.control.get l)
  other : ∀ k ≠ l, SameLog (s.control.get k) (t.control.get k)
  timeBase : t.reports.timeBase = s.reports.timeBase
  health : (s.station l x.address).state ≠ .offline →
    ((s.station l x.address).erred e).state ≠ (s.station l x.address).state →
    t.reports.Keeps ⟨.stationHealth, s.reports.timeBase, .station l x.address, ((s.station l x.address).erred e).state.code,
      [some (s.station l x.address).state.code, some ((s.station l x.address).erred e).score, some e.code]⟩
  entry : ∀ y ∈ (s.control.get l).schedule, y.address = x.address →
    (if decide ((s.station l x.address).Lost e) then { y with probe := true, due := s.elapsed + probeInterval } else y)
      ∈ (t.control.get l).schedule
  lost : s.SlotsSound → Table.Wf s.map.valves → (s.station l x.address).Lost e →
    ∀ v p, (v, p) ∈ s.valvesOfLine l → p.address = x.address → s.reachable v = true → s.Unlisted v →
    ∀ w, Calm t w → w.dyn v = t.dyn v → w.map = s.map → w.stations = t.stations →
      (settle w).dyn v = s.lostDyn v ∧ FailsUnreachable s (settle w) v
  restores : ∀ w, Calm t w → RestoreGoesOn s (settle w)

theorem errorHanded_spec (l : Line) (x : Exchange) {e : LineError} (he : e ≠ .none) (s : State) :
    ErrorHanded l x e s (errorHanded l x e s) := by
  have hsup := supervised_error he l x.address (exchangeOver l s)
  have hover : ((exchangeOver l s).control.get l) = { s.control.get l with exchange := none } := by
    simp [exchangeOver]
  have hover' : ∀ k ≠ l, (exchangeOver l s).control.get k = s.control.get k := fun k hk => by
    simp [exchangeOver, hk]
  have hreachable := reachable_exchangeOver l s
  obtain ⟨h0, hstation0⟩ : exchangeOver l s = { s with control := (exchangeOver l s).control }
      ∧ (exchangeOver l s).station l x.address = s.station l x.address := ⟨rfl, rfl⟩
  unfold errorHanded
  generalize exchangeOver l s = s0 at *
  generalize supervise l x.address e s0 = u at *
  obtain ⟨hdrive0, hengine0, hreports0, hmap0, helapsed0, hstations0⟩ : s0.drive = s.drive ∧ s0.engine = s.engine
      ∧ s0.reports = s.reports ∧ s0.map = s.map ∧ s0.elapsed = s.elapsed ∧ s0.stations = s.stations := by
    rw [h0]; exact ⟨rfl, rfl, rfl, rfl, rfl, rfl⟩
  have hreach := calm_handReach l s0 u
  have hlines := linesKept_handReach l s0 u
  have hsched := newCommands_handReach l s0 u
  have hstations : u.stations = Table.put s.stations (stationKey l x.address) ((s.station l x.address).erred e) := by
    rw [hsup.stations, hstations0, hstation0]
  refine ⟨?_, ?_, ?_, ?_, fun k hk => ?_, ?_, fun hon hne => ?_, fun y hy ha => ?_,
    fun hs hm hlost v p hv hpa hr hlist w hw hd hwm hws => ?_, fun w hw => ?_⟩
  · rw [hlines.only, hsup.only, h0]; exact ⟨rfl, rfl, rfl, rfl, rfl⟩
  · rw [hlines.only, hsup.only, h0]
  · rw [hlines.only]; exact hstations
  · rw [← hover]; exact (hsup.log l).trans (hlines.lines l).sameLog
  · rw [← hover' k hk]; exact (hsup.log k).trans (hlines.lines k).sameLog
  · rw [hreach.reported.timeBase, hsup.reported.timeBase, hreports0]
  · have hkeep := hsup.health (by rw [hstation0]; exact hon) (by rw [hstation0]; exact hne)
    rw [hstation0, hreports0] at hkeep
    exact hreach.reported.keeps hkeep
  · have hentry := hsup.entry y (by rw [hover]; exact hy) ha
    rw [hstation0, helapsed0] at hentry
    rw [hsched.schedule, if_congr decide_eq_true_iff rfl rfl]
    exact hentry
  · have hact := (mem_valvesOfLine hm).1 hv
    have hgone (q : State) (hq : q.stations = u.stations) (hqm : q.map = s.map) : q.reachable v = false := by
      refine reachable_of_offline (p := p) (by rw [State.actuated, hqm]; exact hact.1) ?_
      have hst : q.station l x.address = (s.station l x.address).erred e := by
        rw [State.station, hq, hstations, Table.get_put_same]; rfl
      rw [hact.2, hpa, hst]; exact (StationRec.erred_offline_iff _ e).2 (.inr hlost)
    obtain ⟨hdyn, hfails⟩ := lost_after_settle (s := s0) (s' := u) (by rw [State.SlotsSound, hengine0]; exact hs)
      (by rw [hmap0]; exact hm) (by rw [hsup.only]) (by rw [hsup.only]) (by rw [hsup.only]) hsup.reported.timeBase
      (by rw [State.valvesOfLine, State.actuatedValves, hmap0]; exact hv) ((hreachable v).trans hr)
      (hgone u rfl (by rw [hsup.only]; exact hmap0)) (by rw [State.Unlisted, hengine0]; exact hlist) hw hd
      (hwm.trans hmap0.symm) (hgone w (hws.trans (by rw [hlines.only])) hwm)
    exact ⟨hdyn.trans (lostDyn_of_eq hdrive0 hengine0 v), FailsUnreachable.of_eq hdrive0 hengine0 (by rw [hreports0]) hfails⟩
  · refine restoreGoesOn_of_settle (s' := u) ?_ ?_ (hreach.trans hw) rfl rfl rfl
    · rw [hsup.only]; exact hdrive0
    · rw [hsup.only]; exact hengine0

theorem erred_settle (l : Line) (x : Exchange) {e : LineError} (he : e ≠ .none) (s : State) :
    Erred l x e s (settle (controllerTakes l x e (errorHanded l x e s))) := by
  have hhand := errorHanded_spec l x he s
  generalize errorHanded l x e s = h at *
  have htake := errorTaken l x e h
  have hcalm : Calm h (controllerTakes l x e h) := .quiet (quiet_controllerTakes l x e h)
  generalize controllerTakes l x e h = w at *
  have hdriven := driven_settle w
  have hreported := reported_settle w
  have hentry := fun (e : PollEntry) hm he => mem_settle (l := l) (s := w) (e := e) hm he
  obtain ⟨hmap, hstore, hdyn, hstations, helapsed⟩ : w.map = s.map ∧ w.store = s.store ∧ w.dyn = h.dyn
      ∧ w.stations = h.stations ∧ w.elapsed = s.elapsed := by
    rw [htake.only]; exact ⟨hhand.fields.1, hhand.store, rfl, rfl, hhand.fields.2.2.2.2⟩
  refine ⟨?_, ?_, fun k => ?_, ?_, fun k hk => ?_, ?_, fun hfull hnew => ?_, fun hon hne => ?_, fun hm y hy ha => ?_,
    fun hs hm hlost v p hv hpa hr hlist => ?_, hhand.restores w hcalm⟩
  · rw [hdriven.only, htake.only]; exact hhand.fields
  · rw [hdriven.only]; exact hstore
  · rw [hdriven.only]
    change Table.get w.stations k = _
    rw [hstations, hhand.stations, Table.get_put]
  · refine SameLog.trans ?_ (htake.log.trans (hdriven.lines l).sameLog)
    exact ⟨hhand.own.exchange, by simp [LineControl.erred, hhand.own.errorLog],
      by simp [LineControl.erred, hhand.own.errorLog, hhand.own.overflowReported], rfl⟩
  · exact (hhand.other k hk).trans ((htake.other k hk).trans (hdriven.lines k).sameLog)
  · rw [hreported.timeBase, htake.reported.timeBase, hhand.timeBase]
  · have hkeep := htake.overflow (by rw [hhand.own.errorLog]; exact hfull) (by rw [hhand.own.overflowReported]; exact hnew)
    rw [hhand.timeBase] at hkeep
    exact hreported.keeps hkeep
  · exact (htake.reported.trans hreported).keeps (hhand.health hon hne)
  · have hold := hhand.entry y hy ha
    generalize hy' : (if decide ((s.station l x.address).Lost e) then _ else y) = y' at hold
    have hya : y'.address = x.address := by rw [← hy']; split <;> exact ha
    have htaken := htake.entry y' hold hya
    rw [hhand.fields.2.2.2.2] at htaken
    have hlast := hentry _ (by rw [hstore]; exact hm) htaken
    rw [completed_address, hya, ← hy'] at hlast
    exact ⟨_, hlast⟩
  · exact hhand.lost hs hm hlost v p hv hpa hr hlist w hcalm (congrFun hdyn v) hmap hstations

theorem completeExchange_erred (l : Line) (x : Exchange) (e : LineError) (s : State) :
    completeExchange l x (.error e) s = quiesceDone (settle (controllerTakes l x e (errorHanded l x e s))) := rfl

/-- The statement's events complete the exchange in flight with an error. -/
theorem completes_with_error {s : State} {l : Line} {x : Exchange} {i : Instr} {e : LineError}
    (hx : (s.control.get l).exchange = some x)
    (hi : i = .responseWindowExpiry l ∧ x.window ≠ none ∧ e = .noReply
      ∨ ∃ reply, i = .fieldReplyEnd l reply ∧ x.replyBegun = true ∧ judgeReply x.address reply = .error e) :
    e ≠ .none ∧ Yields i s (completeExchange l x (.error e) s) := by
  obtain ⟨rfl, hw, rfl⟩ | ⟨reply, rfl, hb, hj⟩ := hi
  · refine ⟨by decide, ?_⟩
    change Host.Outcome.next (windowExpiry l s) = _
    rw [windowExpiry, hx]
    exact congrArg Host.Outcome.next (if_pos (Option.isSome_iff_ne_none.2 hw))
  · refine ⟨judgeReply_ne_none hj, ?_⟩
    change Host.Outcome.next (replyEnd l reply s) = _
    rw [replyEnd, hx]
    refine congrArg Host.Outcome.next ((if_pos hb).trans ?_)
    rw [hj]

/-- Settles O39: the supervisor's judgement, the loss of reachability handed on, the line controller, the settling and the
end of QUIESCING, each by what it leaves of the others' work. -/
theorem erringExchangeIsCountedAndScored : Obligations.ErringExchangeIsCountedAndScored := by
  intro s l x i error hx hi c r score
  obtain ⟨herror, hyields⟩ := completes_with_error hx hi
  rw [completeExchange_erred] at hyields
  have h := erred_settle l x herror s
  generalize settle _ = t at hyields h
  have hquiesce := quiesceDone_only t
  have hreported := reported_quiesceDone t
  have hstation : (quiesceDone t).station l x.address = r.erred error := by
    rw [hquiesce]
    change (Table.get t.stations _).getD freshStation = _
    rw [h.stations, if_pos rfl]; rfl
  have herred (hon : r.state ≠ .offline) : r.erred error = { r with
      score := score
      state := stateOfScore score
      probeRun := if stateOfScore score = .offline then 0 else r.probeRun } := if_neg hon
  refine ⟨_, hyields, ?_, ?_, ?_, ?_, fun hfull hnew => hreported.keeps (h.overflow hfull hnew),
    fun hoff => hstation.trans (if_pos hoff), fun hon => ⟨hstation.trans (herred hon), fun hne => ?_⟩,
    fun hm e he ha => ?_, fun hs hm hon hscore v p hv hpa hr hlist => ?_, ?_, ?_, fun k hk => ?_, fun k hk => ?_, ?_⟩
  · rw [hquiesce]; exact h.own.exchange
  · rw [hquiesce]; exact h.own.lastError
  · rw [hquiesce]; exact h.own.errorLog
  · rw [hquiesce]; exact h.own.overflowReported
  · have hkeep := h.health hon (by rw [herred hon]; exact hne)
    rw [herred hon] at hkeep
    exact hreported.keeps hkeep
  · obtain ⟨j, hentry⟩ := h.entry hm e he ha
    have hinterval : (quiesceDone t).interval l x.address = t.interval l x.address := by rw [hquiesce]; rfl
    have hlost (hon : r.state ≠ .offline) : decide (((quiesceDone t).station l x.address).state = .offline)
        = decide (r.Lost error) := by
      rw [hstation]
      exact decide_eq_decide.2 ((r.erred_offline_iff error).trans (or_iff_right hon))
    rw [hinterval, hquiesce]
    refine ⟨_, hentry, (afterError_address ..).trans ha, fun hon hp => ?_, fun hon hp hk => ?_, fun hon hp q hk => ?_,
      fun hoff hp hk => ?_⟩
    · rw [← hquiesce, hlost hon]
      exact afterError_probe _ _ _ _ _ hp
    · rw [← hquiesce, hlost hon, hk]
      exact afterError_poll _ _ _ _ hp
    · rw [← hquiesce, hlost hon, hk]
      exact afterError_command _ _ _ _ hp q
    · have hno : decide (r.Lost error) = false := decide_eq_false fun h => h.1 hoff
      rw [hno, hk, afterError_reprobe _ _ _ hp]
      exact ⟨hp, rfl, rfl⟩
  · obtain ⟨hdyn, hfails⟩ := h.lost hs hm ⟨hon, if_pos hscore⟩ v p hv hpa hr hlist
    refine ⟨by rw [hquiesce]; exact hdyn, hfails.after hreported fun e _ _ hrep => ?_⟩
    obtain ⟨b, hb, hrep⟩ := hrep
    exact ⟨b, by rw [hquiesce]; exact hb, hrep⟩
  · rw [hquiesce]; exact h.restores
  · exact endsQuiescing_quiesceDone h.store h.timeBase h.own.exchange fun k hk => (h.other k hk).exchange
  · rw [hquiesce]; exact (h.stations k).trans (if_neg hk)
  · rw [hquiesce]; exact ⟨(h.other k hk).exchange, (h.other k hk).errorLog⟩
  · rw [hquiesce]; exact h.fields

end Sys2Proof.Machine
end

section
/-! PROOFS. Holder sets: what driving, starting and settling leave of them (04 R90 to R92). -/

namespace Sys2Proof.Machine

open Sys2Proof

/-- Every holder set is as it was. -/
def SameHolders (s t : State) : Prop := ∀ v, (t.dyn v).holders = (s.dyn v).holders

namespace SameHolders

variable {s t u : State}

theorem refl (s : State) : SameHolders s s := fun _ => rfl

theorem trans (h : SameHolders s t) (h' : SameHolders t u) : SameHolders s u := fun v => (h' v).trans (h v)

theorem of_dyn (h : ∀ v, t.dyn v = s.dyn v) : SameHolders s t := fun v => by rw [h v]

end SameHolders

theorem sameHolders_onDyn {f : ValveDyn → ValveDyn} (h : ∀ d, (f d).holders = d.holders) (v : Nat) (s : State) :
    SameHolders s (onDyn v f s) := fun u => by
  rw [dyn_onDyn]; split
  · next hu => rw [hu]; exact h _
  · rfl

theorem sameHolders_onMove (v : Nat) (f : Move → Move) (s : State) : SameHolders s (onMove v f s) :=
  sameHolders_onDyn (by intro _; rfl) v s

theorem sameHolders_setMotion (v : Nat) (m : Motion) (s : State) : SameHolders s (setMotion v m s) :=
  sameHolders_onDyn (by intro _; rfl) v s

theorem sameHolders_issueTimed (v : Nat) (p : ActuatedPart) (target rate preset : Nat) (s : State) :
    SameHolders s (issueTimed v p target rate preset s) := by
  have hserial (s : State) : SameHolders s (takeSerial s) := .of_dyn fun _ => rfl
  have hissue (k : CommandKind) (s : State) : SameHolders s (issue v p k s) :=
    ((hserial s).trans (sameHolders_onMove v _ _)).trans (.of_dyn fun _ => rfl)
  exact SameHolders.trans (sameHolders_onMove v _ s) (hissue _ _)

theorem sameHolders_driveBand (v : Nat) (p : ActuatedPart) (s : State) : SameHolders s (driveBand v p s) := by
  unfold driveBand; dsimp only
  split <;> exact (sameHolders_setMotion v _ s).trans (sameHolders_issueTimed v p _ _ _ _)

theorem sameHolders_startClosing (v : Nat) (p : ActuatedPart) (n : Nat) (s : State) :
    SameHolders s (startClosing v p n s) := by
  unfold startClosing; split
  · exact .refl s
  · refine SameHolders.trans ?_ (sameHolders_driveBand v p _)
    exact sameHolders_onDyn (by intro _; rfl) v s

theorem sameHolders_startOpening (v : Nat) (p : ActuatedPart) (n : Nat) (s : State) :
    SameHolders s (startOpening v p n s) := by
  have hdrive (s : State) : SameHolders s (driveOpening v p s) := by
    unfold driveOpening; dsimp only
    split <;> exact (sameHolders_setMotion v _ s).trans (sameHolders_issueTimed v p _ _ _ _)
  refine SameHolders.trans ?_ (hdrive _)
  exact sameHolders_onDyn (by intro _; rfl) v s

theorem sameHolders_endMove (v : Nat) (p : ActuatedPart) (s : State) : SameHolders s (endMove v p s) := by
  refine SameHolders.trans (t := withdraw v p s) (.of_dyn fun _ => rfl) ?_
  exact sameHolders_onDyn (by intro _; rfl) v _

theorem sameHolders_endAnyMove (v : Nat) (p : ActuatedPart) (s : State) : SameHolders s (endAnyMove v p s) := by
  unfold endAnyMove; split
  · exact sameHolders_endMove v p s
  · exact .refl s

theorem sameHolders_requestCrew (v : Nat) (d : Direction) (n : Nat) (s : State) :
    SameHolders s (requestCrew v d n s) := by
  refine SameHolders.trans (t := raise .crewRequest (.valve v) d.code
    [some n, some (s.rankOf v), some s.map.policy.crewTimeout] s) (.of_dyn fun _ => rfl) ?_
  exact sameHolders_onDyn (by intro _; rfl) v _

theorem sameHolders_firstHold (v n : Nat) (s : State) : SameHolders s (firstHold v n s) := by
  unfold firstHold; split
  · split
    · exact (sameHolders_endMove v _ s).trans (sameHolders_startClosing v _ n _)
    · exact sameHolders_onMove v _ s
    · exact .refl s
  · split
    · exact sameHolders_onDyn (by intro _; rfl) v s
    · exact .refl s

theorem sameHolders_releaseLast (v n : Nat) (s : State) : SameHolders s (releaseLast v n s) := by
  unfold releaseLast; split
  · exact .refl s
  · split
    · exact sameHolders_onMove v _ s
    · next p _ _ =>
      unfold releaseActuated; split
      · split
        · exact sameHolders_endAnyMove v p s
        · exact (sameHolders_endAnyMove v p s).trans (sameHolders_startOpening v p n _)
      · exact .of_dyn fun _ => rfl
    · split
      · exact sameHolders_requestCrew v _ n s
      · exact .refl s

theorem sameHolders_handMove (v n : Nat) (s : State) : SameHolders s (handMove v n s) := by
  unfold handMove; split
  · exact sameHolders_onMove v _ s
  · exact .refl s

theorem sameHolders_startMoves (s : State) : SameHolders s (startMoves s) := by
  have hrounds (n : Nat) : ∀ s, SameHolders s (startRounds n s) := by
    induction n with
    | zero => exact .refl
    | succ n ih =>
      intro s
      simp only [startRounds]
      split
      · next t ht =>
        obtain ⟨m, v, p, w, -, -, hw, rfl⟩ := startOne_eq_some ht
        refine SameHolders.trans ?_ (ih _)
        obtain rfl | rfl := hw
        · exact sameHolders_startClosing v p m _
        · exact SameHolders.trans (t := nextFree s) (.of_dyn fun _ => rfl) (sameHolders_startClosing v p m _)
      · exact .refl s
  unfold startMoves; split
  · exact hrounds _ s
  · exact .refl s

theorem sameHolders_crewRequests (s : State) : SameHolders s (crewRequests s) :=
  crewRequests_rel .refl .trans (fun inc v s _ => sameHolders_requestCrew v .close inc.number s) s

theorem sameHolders_retimePolls (s : State) : SameHolders s (retimePolls s) := .of_dyn fun v => dyn_retimePolls s v

/-! ### Starting leaves the incident engine -/

theorem engine_startMoves (s : State) : (startMoves s).engine = s.engine := by
  have hrounds (n : Nat) : ∀ s, (startRounds n s).engine = s.engine := by
    induction n with
    | zero => exact fun _ => rfl
    | succ n ih =>
      intro s
      simp only [startRounds]
      split
      · next t ht =>
        obtain ⟨m, v, p, w, -, -, hw, rfl⟩ := startOne_eq_some ht
        rw [ih, engine_startClosing]
        obtain rfl | rfl := hw <;> rfl
      · rfl
  unfold startMoves; split
  · exact hrounds _ s
  · rfl

theorem engine_crewRequests (s : State) : (crewRequests s).engine = s.engine :=
  crewRequests_rel (R := fun s t => t.engine = s.engine) (fun _ => rfl) (fun h h' => h'.trans h) (fun _ _ _ _ => rfl) s

theorem engine_retimePolls (s : State) : (retimePolls s).engine = s.engine := by rw [retimePolls_only]

/-! ### Hold orders (04 R90, R92) -/

theorem holders_holdOrder (n : Nat) (s : State) (v u : Nat) : ((holdOrder n s v).dyn u).holders
    = if u = v ∧ n ∉ (s.dyn v).holders then insertAscending n (s.dyn u).holders else (s.dyn u).holders := by
  unfold holdOrder
  split
  · next h => rw [if_neg fun h' => h'.2 (List.contains_iff_mem.1 h)]
  · next h =>
    have hn : n ∉ (s.dyn v).holders := fun h' => h (List.contains_iff_mem.2 h')
    have hput : ((markStaleForOthers n (onDyn v (fun d => { d with holders := insertAscending n d.holders }) s)).dyn u).holders
        = if u = v ∧ n ∉ (s.dyn v).holders then insertAscending n (s.dyn u).holders else (s.dyn u).holders := by
      have h := dyn_onDyn s v u (fun d => { d with holders := insertAscending n d.holders })
      rw [show (markStaleForOthers n (onDyn v (fun d => { d with holders := insertAscending n d.holders }) s)).dyn u
        = _ from h]
      by_cases hu : u = v
      · rw [if_pos hu, if_pos ⟨hu, hn⟩, hu]
      · rw [if_neg hu, if_neg fun h => hu h.1]
    dsimp only
    split
    · exact (sameHolders_firstHold v n _ u).trans hput
    · exact hput

theorem mem_holders_holdOrder {n m u v : Nat} {s : State} :
    m ∈ ((holdOrder n s v).dyn u).holders ↔ m ∈ (s.dyn u).holders ∨ u = v ∧ m = n := by
  rw [holders_holdOrder]
  by_cases hu : u = v
  · subst hu
    by_cases hn : n ∈ (s.dyn u).holders
    · rw [if_neg fun h => h.2 hn]
      exact ⟨.inl, fun h => h.elim id fun h => h.2 ▸ hn⟩
    · rw [if_pos ⟨rfl, hn⟩, mem_insertAscending]
      simp [or_comm]
  · rw [if_neg fun h => hu h.1]
    simp [hu]

/-- 03 R55: an incident's hold orders put its number into the holder sets of its boundary, and no other. -/
theorem mem_holders_holdBoundary {inc : Incident} {m u : Nat} {s : State} :
    m ∈ ((holdBoundary inc s).dyn u).holders ↔ m ∈ (s.dyn u).holders ∨ u ∈ inc.boundary ∧ m = inc.number := by
  unfold holdBoundary
  generalize inc.boundary = vs
  induction vs generalizing s with
  | nil => simp
  | cons v vs ih =>
    rw [List.foldl_cons, ih, mem_holders_holdOrder, List.mem_cons, or_assoc, ← or_and_right]

/-! ### Release orders (04 R90, R91; 03 R80) -/

theorem mem_holders_releaseOrder {v n m u : Nat} {s : State} :
    m ∈ ((releaseOrder v n s).dyn u).holders ↔ m ∈ (s.dyn u).holders ∧ ¬(u = v ∧ m = n) := by
  unfold releaseOrder
  split
  · have hput : m ∈ ((markStaleForOthers n (onDyn v (fun d => { d with holders := d.holders.filter (· != n) }) s)).dyn u).holders
        ↔ m ∈ (s.dyn u).holders ∧ ¬(u = v ∧ m = n) := by
      have h := dyn_onDyn s v u (fun d => { d with holders := d.holders.filter (· != n) })
      rw [show (markStaleForOthers n (onDyn v (fun d => { d with holders := d.holders.filter (· != n) }) s)).dyn u
        = _ from h]
      by_cases hu : u = v
      · subst hu; simp
      · simp [hu]
    dsimp only
    split
    · rw [sameHolders_releaseLast]; exact hput
    · rw [sameHolders_handMove]; exact hput
  · next h =>
    refine ⟨fun hm => ⟨hm, fun ⟨hu, hn⟩ => h ?_⟩, And.left⟩
    rw [List.contains_iff_mem, ← hu, ← hn]
    exact hm

/-- 03 R80: the release orders of a restore are taken from the head of its list. -/
theorem releaseOrders_spec (n : Nat) {k : Nat} {s : State} {inc : Incident} (hk : s.slot k = some inc) :
    ∃ released rest, inc.restoreList = released ++ rest
      ∧ (releaseOrders n k s).slot k = some { inc with restoreList := rest }
      ∧ ∀ m u, m ∈ ((releaseOrders n k s).dyn u).holders ↔ m ∈ (s.dyn u).holders ∧ ¬(u ∈ released ∧ m = inc.number) := by
  induction n generalizing s inc with
  | zero => exact ⟨[], inc.restoreList, rfl, hk, fun m u => by simp [releaseOrders]⟩
  | succ n ih =>
    have hstay : ∃ released rest, inc.restoreList = released ++ rest ∧ s.slot k = some { inc with restoreList := rest }
        ∧ ∀ m u, m ∈ (s.dyn u).holders ↔ m ∈ (s.dyn u).holders ∧ ¬(u ∈ released ∧ m = inc.number) :=
      ⟨[], inc.restoreList, rfl, hk, fun m u => by simp⟩
    simp only [releaseOrders, hk]
    split
    · next v rest hlist =>
      split
      · have hslot : (releaseOrder v inc.number (putSlot k { inc with restoreList := rest } s)).slot k
            = some { inc with restoreList := rest } := by
          rw [State.slot, engine_releaseOrder]; exact slot_putSlot_same s k _
        obtain ⟨released, rest', hsplit, hslot', hheld⟩ := ih hslot
        have hsplit' : rest = released ++ rest' := hsplit
        refine ⟨v :: released, rest', by rw [hlist, hsplit', List.cons_append], hslot', fun m u => ?_⟩
        rw [hheld, mem_holders_releaseOrder, and_assoc, ← not_or, ← or_and_right, List.mem_cons]
        exact Iff.rfl
      · exact hstay
    · exact hstay

theorem sameHolders_completeRestore (k : Nat) (inc : Incident) (s : State) : SameHolders s (completeRestore k inc s) := by
  unfold completeRestore; split
  · exact .of_dyn fun _ => rfl
  · exact .refl s

/-- No RESTORING incident has a number. -/
def State.NotRestoring (s : State) (n : Nat) : Prop := ∀ k a, s.slot k = some a → a.state = .restoring → a.number ≠ n

/-- 03 R80: a restore lets go of valves for its own incident only, and its slot stays RESTORING or becomes FREE. -/
theorem progressRestore_others {k n : Nat} {inc : Incident} {s : State} (hk : s.slot k = some inc)
    (hr : inc.state = .restoring) (hs : s.NotRestoring n) :
    (∀ v, n ∈ ((progressRestore k inc s).dyn v).holders ↔ n ∈ (s.dyn v).holders) ∧ (progressRestore k inc s).NotRestoring n := by
  have hne := hs k inc hk hr
  obtain ⟨released, rest, -, hslot, hheld⟩ := releaseOrders_spec inc.restoreList.length hk
  have hcomplete : progressRestore k inc s
      = completeRestore k { inc with restoreList := rest } (releaseOrders inc.restoreList.length k s) := by
    unfold progressRestore; simp only [hslot]
  refine ⟨fun v => ?_, fun j a ha har => ?_⟩
  · rw [hcomplete, sameHolders_completeRestore, hheld]
    exact and_iff_left fun h => hne h.2.symm
  · by_cases hj : j = k
    · subst hj
      rw [hcomplete, slot_completeRestore, hslot] at ha
      split at ha
      · cases ha
      · cases ha; exact hne
    · rw [slot_progressRestore_other hj] at ha
      exact hs j a ha har

/-- 03 R80: restores change nothing that an incident not RESTORING holds. -/
theorem progressRestores_others {n : Nat} {s : State} (hs : s.NotRestoring n) :
    (∀ v, n ∈ ((progressRestores s).dyn v).holders ↔ n ∈ (s.dyn v).holders) ∧ (progressRestores s).NotRestoring n := by
  have h := forSlots_rel (R := fun s t => s.NotRestoring n →
      (∀ v, n ∈ (t.dyn v).holders ↔ n ∈ (s.dyn v).holders) ∧ t.NotRestoring n)
    (fun _ h => ⟨fun _ => Iff.rfl, h⟩)
    (fun h h' hs => ⟨fun v => ((h' (h hs).2).1 v).trans ((h hs).1 v), (h' (h hs).2).2⟩)
    (f := fun slot inc s => if inc.state = .restoring then progressRestore slot inc s else s)
    (fun k inc s hk hs => by
      split
      · next hr => exact progressRestore_others hk hr hs
      · exact ⟨fun _ => Iff.rfl, hs⟩) s
  exact h hs

theorem sameHolders_starts (s : State) : SameHolders s (retimePolls (crewRequests (startMoves s))) :=
  ((sameHolders_startMoves s).trans (sameHolders_crewRequests _)).trans (sameHolders_retimePolls _)

/-- What an incident that is not RESTORING holds is the same after the settling. -/
theorem mem_holders_settle {n : Nat} {s : State} (hs : s.NotRestoring n) (v : Nat) :
    n ∈ ((settle s).dyn v).holders ↔ n ∈ (s.dyn v).holders := by
  rw [show settle s = retimePolls (crewRequests (startMoves (progressRestores s))) from rfl, sameHolders_starts]
  exact (progressRestores_others hs).1 v

/-! ### The entry into CLOSING (03 R55, R70) -/

/-- 03 R70: the incident as it enters CLOSING. -/
def Incident.closed (inc : Incident) (s : State) : Incident :=
  { inc with released := true, state := if ∀ v ∈ inc.boundary, (s.dyn v).confirmed = true then .isolated else .closing }

/-- What an entry into CLOSING leads to. -/
structure Entered (k : Nat) (inc : Incident) (s t : State) : Prop where
  slot : t.slot k = some (inc.closed s)
  other : ∀ j ≠ k, t.slot j = s.slot j
  engine : t.engine = { s.engine with slots := t.engine.slots }
  holders : ∀ m v, m ∈ (t.dyn v).holders ↔ m ∈ (s.dyn v).holders ∨ v ∈ inc.boundary ∧ m = inc.number
  confirmed : ∀ v, (t.dyn v).confirmed = (s.dyn v).confirmed
  only : OnlyControl s t
  planQueue : t.planner.queue = s.planner.queue
  plan : t.planner.plan.map (·.incident) = s.planner.plan.map (·.incident)

theorem allConfirmed_iff {s : State} {inc : Incident} :
    s.allConfirmed inc = true ↔ ∀ v ∈ inc.boundary, (s.dyn v).confirmed = true := by
  simp [State.allConfirmed]

/-- 03 R54: an incident put into a state. -/
theorem enterState_spec {k : Nat} {inc : Incident} {s : State} (hk : s.slot k = some inc) (new : IncidentState) :
    (∀ j, (enterState k new s).slot j = if j = k then some { inc with state := new } else s.slot j)
      ∧ (enterState k new s).engine = { s.engine with slots := (enterState k new s).engine.slots }
      ∧ (enterState k new s).planner = s.planner := by
  unfold enterState
  rw [hk]
  dsimp only
  split
  · next h =>
    subst h
    refine ⟨fun j => ?_, rfl, rfl⟩
    by_cases hj : j = k
    · rw [if_pos hj, hj, hk]
    · rw [if_neg hj]
  · exact ⟨fun j => slot_putSlot s k j _, rfl, rfl⟩

/-- 03 R70: the isolation test of an incident in CLOSING. -/
theorem isolationTest_spec {k : Nat} {inc : Incident} {s : State} (hk : s.slot k = some inc) (hc : inc.state = .closing) :
    (∀ j, (isolationTest k s).slot j = if j = k then
        some { inc with state := if ∀ v ∈ inc.boundary, (s.dyn v).confirmed = true then .isolated else .closing }
      else s.slot j)
      ∧ (isolationTest k s).engine = { s.engine with slots := (isolationTest k s).engine.slots }
      ∧ (isolationTest k s).planner = s.planner := by
  unfold isolationTest
  rw [hk]
  dsimp only
  by_cases hall : s.allConfirmed inc = true
  · rw [if_pos ⟨hc, hall⟩, if_pos (allConfirmed_iff.1 hall)]
    exact enterState_spec hk .isolated
  · rw [if_neg fun h => hall h.2, if_neg fun h => hall (allConfirmed_iff.2 h)]
    refine ⟨fun j => ?_, rfl, rfl⟩
    by_cases hj : j = k
    · rw [if_pos hj, hj, hk, ← hc]
    · rw [if_neg hj]

theorem entered_enterClosing {k : Nat} {inc : Incident} {s : State} (hk : s.slot k = some inc) :
    Entered k inc s (enterClosing k s) := by
  unfold enterClosing
  simp only [hk]
  have hdriven := driven_holdBoundary inc.toClosing (putSlot k inc.toClosing s)
  have hengine := engine_holdBoundary inc.toClosing (putSlot k inc.toClosing s)
  have hheld := fun m v => mem_holders_holdBoundary (inc := inc.toClosing) (m := m) (u := v) (s := putSlot k inc.toClosing s)
  generalize holdBoundary inc.toClosing (putSlot k inc.toClosing s) = a at hdriven hengine hheld ⊢
  have hraise : ∀ b : State, b = (if inc.state = .closing then a
      else raiseState inc.toClosing IncidentState.closing.code inc.state.code a) → OnlyNotices a b ∧ b.engine = a.engine
        ∧ b.planner = a.planner := by
    intro b hb
    subst hb
    split
    · exact ⟨.refl a, rfl, rfl⟩
    · exact ⟨rfl, rfl, rfl⟩
  generalize hb : (if inc.state = .closing then a
      else raiseState inc.toClosing IncidentState.closing.code inc.state.code a) = b
  obtain ⟨hnote, hengine', hplanner⟩ := hraise b hb.symm
  have hslot (j : Nat) : b.slot j = if j = k then some inc.toClosing else s.slot j := by
    rw [State.slot, hengine', hengine]
    exact slot_putSlot s k j _
  have hconfirmed (v : Nat) : (b.dyn v).confirmed = (s.dyn v).confirmed := by
    rw [hnote.dyn, hdriven.confirmed]; rfl
  obtain ⟨htest, htestEngine, htestPlanner⟩ := isolationTest_spec (inc := inc.toClosing) ((hslot k).trans (if_pos rfl)) rfl
  have hquiet := onlyNotices_isolationTest k b
  have hlast := (driven_startMoves (isolationTest k b)).trans (driven_crewRequests _)
  have hlastEngine : (crewRequests (startMoves (isolationTest k b))).engine = (isolationTest k b).engine := by
    rw [engine_crewRequests, engine_startMoves]
  have hlastHolders := (sameHolders_startMoves (isolationTest k b)).trans (sameHolders_crewRequests _)
  refine ⟨?_, fun j hj => ?_, ?_, fun m v => ?_, fun v => ?_, ?_, ?_, ?_⟩
  · rw [State.slot, hlastEngine]
    refine (htest k).trans ((if_pos rfl).trans ?_)
    simp only [hconfirmed, Incident.closed]
  · rw [State.slot, hlastEngine]
    exact (htest j).trans ((if_neg hj).trans ((hslot j).trans (if_neg hj)))
  · rw [hlastEngine, htestEngine, hengine', hengine]
    rfl
  · rw [hlastHolders v, hquiet.dyn, hnote.dyn, hheld]
    exact Iff.rfl
  · rw [hlast.confirmed, hquiet.dyn, hconfirmed]
  · have hput : OnlyControl s (putSlot k inc.toClosing s) := rfl
    exact ((hput.trans hdriven.only).trans hnote.onlyControl).trans (hquiet.onlyControl.trans hlast.only)
  · rw [hlast.planQueue, htestPlanner, hplanner, hdriven.planQueue]
    rfl
  · rw [hlast.plan, htestPlanner, hplanner, hdriven.plan]
    rfl

end Sys2Proof.Machine
end

section
/-! PROOFS. Consent resolved and incidents released: O21 and O22 (03 R65 to R71). -/

namespace Sys2Proof.Machine

open Sys2Proof

/-! ### Leaving the consent queue (03 R66, R68) -/

/-- What an incident's leaving makes of the consent queue, its timer and the expiries called off. -/
structure LeftConsent (n : Nat) (byTimer : Bool) (s t : State) : Prop where
  queue : t.engine.consentQueue = s.engine.consentQueue.filter (· != n)
  left : t.engine.consentLeft =
    if s.engine.consentQueue.head? = some n then
      (if s.engine.consentQueue = [n] ∨ s.map.policy.consentTimeout = 0 then none
        else some (s.map.policy.consentTimeout * 1000))
    else s.engine.consentLeft
  void : t.engine.voidExpiries =
    if byTimer = false ∧ s.engine.consentQueue.head? = some n then s.pending.count .consentTimeout
    else s.engine.voidExpiries

/-- The queue without its head. -/
theorem filter_head {n : Nat} {q : List Nat} (hnd : q.Nodup) (hhead : q.head? = some n) :
    (q.filter (· != n)).isEmpty = true ↔ q = [n] := by
  obtain ⟨rest, rfl⟩ := List.head?_eq_some_iff.1 hhead
  have hrest : rest.filter (· != n) = rest := List.filter_eq_self.2 fun x hx => by
    simpa using fun h : x = n => (List.nodup_cons.1 hnd).1 (h ▸ hx)
  simp [hrest]

theorem leftConsent {n : Nat} {s : State} (hnd : s.engine.consentQueue.Nodup) (hn : n ∈ s.engine.consentQueue)
    (byTimer : Bool) : LeftConsent n byTimer s (leaveConsent n byTimer s) := by
  unfold leaveConsent
  rw [if_pos (List.contains_iff_mem.2 hn)]
  dsimp only
  split
  · next hhead =>
    have hfilter := filter_head hnd hhead
    have hleft : (if (s.engine.consentQueue.filter (· != n)).isEmpty then none else consentPreset s.map.policy)
        = if s.engine.consentQueue = [n] ∨ s.map.policy.consentTimeout = 0 then none
          else some (s.map.policy.consentTimeout * 1000) := by
      by_cases h1 : s.engine.consentQueue = [n]
      · exact (if_pos (hfilter.2 h1)).trans (if_pos (.inl h1)).symm
      · refine (if_neg fun h => h1 (hfilter.1 h)).trans ?_
        exact if_congr (or_iff_right h1).symm rfl rfl
    cases byTimer with
    | true => exact ⟨rfl, hleft.trans (if_pos hhead).symm, (if_neg fun h => nomatch h.1).symm⟩
    | false => exact ⟨rfl, hleft.trans (if_pos hhead).symm, (if_pos ⟨rfl, hhead⟩).symm⟩
  · next hhead =>
    exact ⟨rfl, (if_neg hhead).symm, (if_neg fun h => hhead h.2).symm⟩

/-! ### Consent resolved (03 R67, R68) -/

/-- The incident whose consent is resolved. -/
def Incident.resolved (inc : Incident) (c : ConsentState) (s : State) : Incident :=
  if c = .declined then { inc with consent := c, state := .uncontained, cause := some .declined }
  else if inc.released = true ∨ inc.group = 0 then ({ inc with consent := c } : Incident).closed s
  else { inc with consent := c, state := .armed }

/-- What a resolution leads to, before the step settles. -/
structure Resolved (k : Nat) (inc : Incident) (c : ConsentState) (byTimer : Bool) (s t : State) : Prop where
  slot : t.slot k = some (inc.resolved c s)
  left : LeftConsent inc.number byTimer s t
  holders : c ≠ .declined → inc.released = true ∨ inc.group = 0 → ∀ v ∈ inc.boundary, inc.number ∈ (t.dyn v).holders
  only : OnlyControl s t

theorem LeftConsent.of_engine {n : Nat} {byTimer : Bool} {s t u : State} (h : LeftConsent n byTimer s t)
    (he : u.engine = { t.engine with slots := u.engine.slots }) : LeftConsent n byTimer s u := by
  obtain ⟨hq, hl, hv⟩ := h
  refine ⟨?_, ?_, ?_⟩ <;> rw [he]
  · exact hq
  · exact hl
  · exact hv

theorem resolved_resolveConsent {inc : Incident} {s : State} (k : Nat)
    (hnd : s.engine.consentQueue.Nodup) (hn : inc.number ∈ s.engine.consentQueue) (c : ConsentState) (byTimer : Bool) :
    Resolved k inc c byTimer s (resolveConsent k inc c byTimer (decide (c ≠ .declined)) s)
      ∧ ∀ j ≠ k, (resolveConsent k inc c byTimer (decide (c ≠ .declined)) s).slot j = s.slot j := by
  have hleft := leftConsent hnd hn byTimer
  have hslot (j : Nat) := slot_leaveConsent inc.number byTimer s j
  have honly : OnlyControl s (leaveConsent inc.number byTimer s) := by
    rw [leaveConsent_only]
  have hdyn (v : Nat) : (leaveConsent inc.number byTimer s).dyn v = s.dyn v := by
    rw [State.dyn, (leaveConsent_fields inc.number byTimer s).2.1]; rfl
  unfold resolveConsent
  dsimp only
  generalize leaveConsent inc.number byTimer s = a at *
  have hput (x : Incident) (new : IncidentState) : OnlyNotices a (raiseConsentResolved inc c byTimer new (putSlot k x a)) := rfl
  have hputSlot (x : Incident) (new : IncidentState) (j : Nat) :
      (raiseConsentResolved inc c byTimer new (putSlot k x a)).slot j = if j = k then some x else s.slot j :=
    (slot_putSlot a k j x).trans (by rw [hslot])
  have hputEngine (x : Incident) (new : IncidentState) : (raiseConsentResolved inc c byTimer new (putSlot k x a)).engine
      = { a.engine with slots := (raiseConsentResolved inc c byTimer new (putSlot k x a)).engine.slots } := rfl
  have hstate (x : Incident) (new after : IncidentState) (hx : { x with state := after } = inc.resolved c s)
      (hheld : c ≠ .declined → inc.released = true ∨ inc.group = 0 → False) :
      Resolved k inc c byTimer s (enterState k after (raiseConsentResolved inc c byTimer new (putSlot k x a)))
        ∧ ∀ j ≠ k, (enterState k after (raiseConsentResolved inc c byTimer new (putSlot k x a))).slot j = s.slot j := by
    obtain ⟨hs, he, -⟩ := enterState_spec ((hputSlot x new k).trans (if_pos rfl)) after
    refine ⟨⟨(hs k).trans ((if_pos rfl).trans (by rw [hx])), hleft.of_engine ?_, fun h h' => (hheld h h').elim,
      honly.trans ((hput x new).trans (onlyNotices_enterState k after _)).onlyControl⟩,
      fun j hj => (hs j).trans ((if_neg hj).trans ((hputSlot x new j).trans (if_neg hj)))⟩
    rw [he, hputEngine]
  by_cases hc : c = .declined
  · have h : ¬decide (c ≠ .declined) = true := by simp [hc]
    rw [if_neg h]
    exact hstate _ _ _ (by rw [Incident.resolved, if_pos hc]) fun h => absurd hc h
  · rw [if_pos (decide_eq_true hc)]
    by_cases hgo : inc.released = true ∨ inc.group = 0
    · rw [if_pos (by simpa using hgo)]
      have hentered := entered_enterClosing ((hputSlot { inc with consent := c } .closing k).trans (if_pos rfl))
      refine ⟨⟨hentered.slot.trans ?_, hleft.of_engine ?_, fun _ _ v hv => ?_, ?_⟩, fun j hj => ?_⟩
      · rw [Incident.resolved, if_neg hc, if_pos hgo]
        simp only [Incident.closed, (hput _ _).dyn, hdyn]
      · rw [hentered.engine, hputEngine]
      · exact (hentered.holders _ v).2 (.inr ⟨hv, rfl⟩)
      · exact honly.trans ((hput _ _).onlyControl.trans hentered.only)
      · exact (hentered.other j hj).trans ((hputSlot _ _ j).trans (if_neg hj))
    · rw [if_neg (by simpa using hgo)]
      exact hstate _ _ _ (by rw [Incident.resolved, if_neg hc, if_neg hgo]) fun _ h => hgo h

theorem resolved_state (inc : Incident) (c : ConsentState) (s : State) : (inc.resolved c s).state ≠ .restoring := by
  unfold Incident.resolved
  split
  · exact fun h => nomatch h
  · split
    · change (if _ then IncidentState.isolated else .closing) ≠ .restoring
      split <;> exact fun h => nomatch h
    · exact fun h => nomatch h

/-- An incident that is not RESTORING, with a number of its own. -/
theorem State.SlotsSound.notRestoring {s t : State} (hs : s.SlotsSound) {k : Nat} {inc new : Incident} (hk : s.slot k = some inc)
    (hnew : t.slot k = some new) (hr : new.state ≠ .restoring) (hother : ∀ j ≠ k, t.slot j = s.slot j) :
    t.NotRestoring inc.number := fun j a ha har hn => by
  by_cases hj : j = k
  · subst hj
    rw [hnew] at ha; cases ha
    exact hr har
  · rw [hother j hj] at ha
    exact hj (hs.slot_inj ha hk hn)

/-- What a resolution leads to as the step settles. -/
theorem Resolved.settle {k : Nat} {inc : Incident} {c : ConsentState} {byTimer : Bool} {s t : State} (hs : s.SlotsSound)
    (hk : s.slot k = some inc) (h : Resolved k inc c byTimer s t) (hother : ∀ j ≠ k, t.slot j = s.slot j) :
    Resolved k inc c byTimer s (settle t) := by
  have hdriven := driven_settle t
  have hnot := hs.notRestoring hk h.slot (resolved_state inc c s) hother
  obtain ⟨hq, hl, hv⟩ := h.left
  refine ⟨hdriven.slots k _ h.slot (resolved_state inc c s), ⟨?_, ?_, ?_⟩, fun hc hgo v hv => ?_, h.only.trans hdriven.only⟩
  · rw [hdriven.consentQueue]; exact hq
  · rw [hdriven.consentLeft]; exact hl
  · rw [hdriven.voidExpiries]; exact hv
  · exact (mem_holders_settle hnot v).2 (h.holders hc hgo v hv)

/-- 03 R67: the timer resolves the oldest entry. -/
theorem resolveOldest_eq {s : State} {k : Nat} {inc : Incident} (hleft : s.engine.consentLeft ≠ none)
    (hhead : s.engine.consentQueue.head? = some inc.number) (hinc : s.incident inc.number = some (k, inc))
    (hstate : inc.state = .awaitConsent) : resolveOldest s = resolveByTimer k inc s := by
  obtain ⟨n, hn⟩ := Option.ne_none_iff_exists'.1 hleft
  obtain ⟨rest, hrest⟩ := List.head?_eq_some_iff.1 hhead
  unfold resolveOldest
  rw [hn, hrest]
  simp only [hinc, hstate, if_true]

/-- Settles O21: the answer and the expiry resolve the incident's consent, and the step settles. -/
theorem consentIsResolvedByHostOrTimer : Obligations.ConsentIsResolvedByHostOrTimer := by
  refine ⟨fun s hvoid => ?_, fun s k inc i c hs hcs hmem hstate hi => ?_⟩
  · change Host.Outcome.next (consentExpiry s) = _
    rw [consentExpiry, if_neg hvoid]
    rfl
  · have hk : s.slot k = some inc := Table.get_of_mem hs.wf hmem
    have hinc := incident_of_slot hs hk
    obtain ⟨hnd, -, hout⟩ := (consentSound_iff hs.wf).1 hcs
    have hn := hout k inc hk hstate
    have hresolved (byTimer : Bool) := (resolved_resolveConsent k hnd hn c byTimer).1.settle hs hk
      (resolved_resolveConsent k hnd hn c byTimer).2
    have hanswer (a : Nat) (ha : a ≤ 1) (hm : s.store.mode = .run) (hc : c = answerConsent a)
        (hp : decide (a = 0) = decide (c ≠ .declined)) :
        Answers (.consent inc.number a) s 0x31#8 .done []
          (settle (resolveConsent k inc c false (decide (c ≠ .declined)) s)) := by
      refine answers_of rfl ((gated_taken (by rw [hm]; rfl) (by simp [isFlag_of_le ha])).trans ?_)
      simp only [hinc, hstate, if_true]
      rw [← hc, hp]
      rfl
    have hby : ∃ byTimer : Bool, (byTimer = false ↔ i ≠ .consentTimeout)
        ∧ (if i = .consentTimeout then Yields i s (settle (resolveConsent k inc c byTimer (decide (c ≠ .declined)) s))
          else Answers i s 0x31#8 .done [] (settle (resolveConsent k inc c byTimer (decide (c ≠ .declined)) s))) := by
      obtain ⟨hm, rfl, rfl⟩ | ⟨hm, rfl, rfl⟩ | ⟨rfl, hvoid, hleft, hhead, hc⟩ := hi
      · exact ⟨false, by simp, (if_neg (by simp)).mpr (hanswer 0 (by decide) hm rfl rfl)⟩
      · exact ⟨false, by simp, (if_neg (by simp)).mpr (hanswer 1 (by decide) hm rfl rfl)⟩
      · refine ⟨true, by simp, (if_pos rfl).mpr ?_⟩
        change Host.Outcome.next (consentExpiry s) = _
        rw [consentExpiry, if_pos hvoid, resolveOldest_eq hleft hhead hinc hstate, resolveByTimer]
        obtain ⟨ha, rfl⟩ | ⟨ha, rfl⟩ := hc <;> rw [ha] <;> rfl
    obtain ⟨byTimer, hiff, hstep⟩ := hby
    obtain ⟨hslot, ⟨hq, hl, hv⟩, hholders, honly⟩ := hresolved byTimer
    refine ⟨_, hstep, hq, hl, ?_, fun hc => ?_, fun hc hrel hg => ?_, fun hc hgo => ⟨?_, hholders hc hgo⟩, honly⟩
    · rw [hv]
      exact if_congr (and_congr_left fun _ => hiff) rfl rfl
    · rw [hslot, Incident.resolved, if_pos hc]
    · rw [hslot, Incident.resolved, if_neg hc, if_neg (by simp [hrel, hg])]
    · rw [hslot, Incident.resolved, if_neg hc, if_pos hgo]
      rfl

/-! ### RELEASE (03 R71) -/

/-- A canonical table is counted key by key. -/
theorem Table.countP_keys {α : Type} (p : α → Bool) {ks : List Nat} (hks : ks.Pairwise (· < ·)) :
    ∀ {t : Table α}, Table.Wf t → Table.keys t ⊆ ks →
      (ks.countP fun k => (Table.get t k).any p) = t.countP fun e => p e.2 := by
  induction ks with
  | nil =>
    intro t _ hsub
    cases t with
    | nil => rfl
    | cons e t => exact absurd (hsub (show e.1 ∈ Table.keys (e :: t) from List.mem_cons_self)) (List.not_mem_nil)
  | cons k ks ih =>
    intro t ht hsub
    obtain ⟨hlt, hks⟩ := List.pairwise_cons.1 hks
    rw [List.countP_cons]
    cases t with
    | nil =>
      rw [ih hks ht (List.nil_subset _)]
      rfl
    | cons e t =>
      obtain ⟨k', x⟩ := e
      obtain ⟨hmin, hwf⟩ := List.pairwise_cons.1 ht
      have hsub' : Table.keys t ⊆ k :: ks := fun j hj => hsub (List.mem_cons_of_mem _ hj)
      by_cases hk : k = k'
      · subst hk
        have hrest : Table.keys t ⊆ ks := fun j hj =>
          (List.mem_cons.1 (hsub' hj)).resolve_left fun h => Nat.lt_irrefl k (h ▸ hmin j hj)
        have hget : ∀ j ∈ ks, Table.get ((k, x) :: t) j = Table.get t j := fun j hj => by
          exact if_neg fun h : j = k => Nat.lt_irrefl k (h ▸ hlt j hj)
        rw [List.countP_cons, ← ih hks hwf hrest]
        refine congrArg₂ (· + ·) (List.countP_congr fun j hj => by rw [hget j hj]) ?_
        simp [Table.get]
      · have hk' : k' ∈ ks := (List.mem_cons.1 (hsub List.mem_cons_self)).resolve_left fun h => hk h.symm
        have hkeys : k ∉ Table.keys ((k', x) :: t) := fun h => by
          obtain h | h := List.mem_cons.1 h
          · exact hk h
          · exact Nat.lt_irrefl k ((hlt k' hk').trans (hmin k h))
        have hrest : Table.keys ((k', x) :: t) ⊆ ks := fun j hj =>
          (List.mem_cons.1 (hsub hj)).resolve_left fun h => hkeys (h ▸ hj)
        rw [ih hks ht hrest, Table.get_none_of_not_mem hkeys]
        rfl

theorem releasedBy_iff (inc : Incident) (code : Nat) :
    inc.releasedBy code = decide (inc.state = .armed ∧ (inc.group = code ∨ code = 15)) := by
  simp [Incident.releasedBy]

theorem releaseCount_eq {s : State} (hs : s.SlotsSound) (code : Nat) : s.releaseCount code
    = s.engine.slots.countP fun e => decide (e.2.state = .armed ∧ (e.2.group = code ∨ code = 15)) := by
  simp only [← releasedBy_iff]
  refine Table.countP_keys (ks := allSlots) (fun inc => inc.releasedBy code) (by decide) hs.wf fun k hk => ?_
  obtain ⟨e, he, rfl⟩ := List.mem_map.1 hk
  have h3 := (hs.2.1 e he).1
  simp only [allSlots, List.mem_cons, List.not_mem_nil, or_false]
  omega

/-- 03 R71: what a release has come to as the slots are taken in turn: `t` has the incidents of `s`, those taken in CLOSING with
their valves held. -/
structure Releasing (code : Nat) (s t : State) : Prop where
  only : OnlyControl s t
  confirmed : ∀ v, (t.dyn v).confirmed = (s.dyn v).confirmed
  low : ∀ k a, t.slot k = some a → k ≤ 3
  held : ∀ k a, s.slot k = some a → a.releasedBy code = true →
    t.slot k = some a ∨ ∀ v ∈ a.boundary, a.number ∈ (t.dyn v).holders

/-- 03 R71: what a release makes of an incident. -/
def Incident.freed (code : Nat) (s : State) (inc : Incident) : Incident := if inc.releasedBy code then inc.closed s else inc

theorem Releasing.step {code : Nat} {s t : State} (h : Releasing code s t) {k : Nat} {inc : Incident}
    (hk : t.slot k = some inc) :
    Releasing code s (if inc.releasedBy code then enterClosing k t else t)
      ∧ ∀ j, (if inc.releasedBy code then enterClosing k t else t).slot j
          = if j = k then some (inc.freed code s) else t.slot j := by
  unfold Incident.freed
  by_cases hrel : inc.releasedBy code = true
  · rw [if_pos hrel, if_pos hrel]
    have he := entered_enterClosing hk
    have hclosed : inc.closed t = inc.closed s := by simp only [Incident.closed, h.confirmed]
    rw [← hclosed]
    refine ⟨⟨h.only.trans he.only, fun v => (he.confirmed v).trans (h.confirmed v), fun j a ha => ?_, fun j a ha har => ?_⟩,
      fun j => ?_⟩
    · by_cases hj : j = k
      · exact hj ▸ h.low k inc hk
      · exact h.low j a ((he.other j hj).symm.trans ha)
    · have hmore {v n : Nat} (hn : n ∈ (t.dyn v).holders) : n ∈ ((enterClosing k t).dyn v).holders :=
        (he.holders n v).2 (.inl hn)
      obtain hsame | hheld := h.held j a ha har
      · by_cases hj : j = k
        · subst hj
          obtain rfl : a = inc := Option.some.inj (hsame.symm.trans hk)
          exact .inr fun v hv => (he.holders _ v).2 (.inr ⟨hv, rfl⟩)
        · exact .inl ((he.other j hj).trans hsame)
      · exact .inr fun v hv => hmore (hheld v hv)
    · by_cases hj : j = k
      · rw [if_pos hj, hj]; exact he.slot
      · rw [if_neg hj]; exact he.other j hj
  · rw [if_neg hrel, if_neg hrel]
    refine ⟨h, fun j => ?_⟩
    by_cases hj : j = k
    · rw [if_pos hj, hj, hk]
    · rw [if_neg hj]

/-- What a release leads to. -/
structure Released (code : Nat) (s t : State) : Prop where
  freed : ∀ k a, s.slot k = some a → a.releasedBy code = true →
    t.slot k = some (a.closed s) ∧ ∀ v ∈ a.boundary, a.number ∈ (t.dyn v).holders
  others : ∀ k a, s.slot k = some a → a.releasedBy code = false → a.state ≠ .restoring → t.slot k = some a
  only : OnlyControl s t

theorem closed_state (inc : Incident) (s : State) : (inc.closed s).state = .isolated ∨ (inc.closed s).state = .closing := by
  unfold Incident.closed
  dsimp only
  split
  · exact .inl rfl
  · exact .inr rfl

theorem released_releaseArmed {s : State} (hs : s.SlotsSound) (code : Nat) : Released code s (releaseArmed code s) := by
  have hlow : ∀ k a, s.slot k = some a → k ≤ 3 := fun k a hk => (hs.2.1 (k, a) (Table.mem_of_get hk)).1
  obtain ⟨hdone, hslot⟩ := slot_forSlots (P := Releasing code s) (g := Incident.freed code s)
    (f := fun slot inc s => if inc.releasedBy code then enterClosing slot s else s)
    (fun k inc t ht hk => ht.step hk) (s := s) ⟨.refl s, fun _ => rfl, hlow, fun _ _ hk _ => .inl hk⟩
  unfold releaseArmed
  generalize forSlots _ s = t at hdone hslot ⊢
  have hdriven := driven_settle t
  have hfreed {k : Nat} {a : Incident} (hk : s.slot k = some a) (ha : a.releasedBy code = true) :
      t.slot k = some (a.closed s) := by
    rw [hslot k (hlow k a hk), hk, Option.map_some, Incident.freed, if_pos ha]
  refine ⟨fun k a hk ha => ⟨hdriven.slots k _ (hfreed hk ha) ?_, fun v hv => ?_⟩, fun k a hk ha hr => ?_,
    hdone.only.trans hdriven.only⟩
  · obtain h | h := closed_state a s <;> rw [h] <;> exact fun h => nomatch h
  · have hnot : t.NotRestoring a.number := fun j b hb hbr hn => by
      have hj3 := hdone.low j b hb
      rw [hslot j hj3] at hb
      obtain ⟨x, hx, hxb⟩ := Option.map_eq_some_iff.1 hb
      have hxn : x.number = b.number := by
        rw [← hxb, Incident.freed]; split <;> rfl
      have hjk : j = k := hs.slot_inj hx hk (hxn.trans hn)
      subst hjk
      obtain rfl : a = x := Option.some.inj (hk.symm.trans hx)
      rw [← hxb, Incident.freed, if_pos ha] at hbr
      obtain h | h := closed_state a s <;> rw [h] at hbr <;> cases hbr
    refine (mem_holders_settle hnot v).2 ?_
    obtain hsame | hheld := hdone.held k a hk ha
    · have harmed : a.state = .armed := by
        rw [releasedBy_iff, decide_eq_true_eq] at ha; exact ha.1
      have heq : a.closed s = a := Option.some.inj ((hfreed hk ha).symm.trans hsame)
      obtain h | h := closed_state a s <;> rw [heq, harmed] at h <;> cases h
    · exact hheld v hv
  · have hkeep : t.slot k = some a := by
      rw [hslot k (hlow k a hk), hk, Option.map_some, Incident.freed, if_neg (by simp [ha])]
    exact hdriven.slots k a hkeep hr

/-- Settles O22: the slots in turn, each by what its entry into CLOSING leaves of the others, and then the settling. -/
theorem releaseClosesArmedIncidents : Obligations.ReleaseClosesArmedIncidents := by
  intro s code hcode hs
  refine ⟨fun hm => ?_, fun hm => ?_⟩
  · change Host.Outcome.next (releaseBroadcast code s) = _
    rw [releaseBroadcast, if_neg fun h => hm h.1]
  · intro freed
    have h := released_releaseArmed hs code
    refine ⟨releaseArmed code s, ?_, ?_, fun e he hf => ?_, fun e he hf hr => ?_, h.only⟩
    · change Host.Outcome.next (releaseBroadcast code s) = _
      rw [releaseBroadcast, if_pos ⟨hm, hcode⟩]
    · rw [← releaseCount_eq hs code]
      exact answers_of rfl ((gated_taken (by rw [hm]; rfl) (by simp [inRange_of_atMost hcode])).trans rfl)
    · exact h.freed e.1 e.2 (Table.get_of_mem hs.wf he) ((releasedBy_iff _ _).trans hf)
    · exact h.others e.1 e.2 (Table.get_of_mem hs.wf he) ((releasedBy_iff _ _).trans hf) hr

end Sys2Proof.Machine
end

section
/-! PROOFS. Publication and merge: O27 and O28 (02 R28, R46, R47; 03 R59, R60, R73 to R77). -/

namespace Sys2Proof.Machine

open Sys2Proof

/-! ### The transition on a publication (03 R59, R60) -/

/-- 03 R60, R66: what quitting the consent queue leaves. -/
structure Quitted (k : Nat) (inc : Incident) (s t : State) : Prop where
  slot : ∃ c, ∀ j, t.slot j = if j = k then some { inc with consent := c } else s.slot j
  queue : t.engine.consentQueue = s.engine.consentQueue.filter (· != inc.number)
  planner : t.planner = s.planner
  drive : t.drive = s.drive
  reports : t.reports = s.reports
  only : OnlyControl s t

theorem Quitted.dyn {k : Nat} {inc : Incident} {s t : State} (h : Quitted k inc s t) (v : Nat) : t.dyn v = s.dyn v := by
  rw [State.dyn, h.drive]; rfl

theorem quitted_quitConsent {k : Nat} {inc : Incident} {s : State} (hk : s.slot k = some inc) :
    Quitted k inc s (quitConsent k s) := by
  unfold quitConsent
  rw [hk]
  dsimp only
  by_cases hn : inc.number ∈ s.engine.consentQueue
  · rw [if_pos (List.contains_iff_mem.2 hn)]
    have hfields := leaveConsent_fields inc.number false (putSlot k { inc with consent := inc.consent.unanswered } s)
    refine ⟨⟨inc.consent.unanswered, fun j => ?_⟩, leaveConsent_queue .., hfields.1, hfields.2.1, hfields.2.2.2.1, ?_⟩
    · rw [slot_leaveConsent]; exact slot_putSlot s k j _
    · rw [leaveConsent_only]; rfl
  · rw [if_neg fun h => hn (List.contains_iff_mem.1 h)]
    refine ⟨⟨inc.consent, fun j => ?_⟩, ?_, rfl, rfl, rfl, .refl s⟩
    · by_cases hj : j = k
      · rw [if_pos hj, hj, hk]
      · rw [if_neg hj]
    · exact (List.filter_eq_self.2 fun n hm => by simpa using fun h : n = inc.number => hn (h ▸ hm)).symm

/-- 03 R60: the state that a publication leads to. -/
def Incident.published (inc : Incident) (consentNeeded : Bool) (s : State) : IncidentState :=
  if inc.cause ≠ none then .uncontained
  else if consentNeeded = true then .awaitConsent
  else if inc.released = false ∧ inc.group ≠ 0 then .armed
  else if ∀ v ∈ inc.boundary, (s.dyn v).confirmed = true then .isolated
  else .closing

/-- What the transition on a publication leads to. -/
structure Acted (k : Nat) (inc : Incident) (consentNeeded : Bool) (s t : State) : Prop where
  slot : ∃ c r, t.slot k = some { inc with consent := c, released := r, state := inc.published consentNeeded s }
  other : ∀ j ≠ k, t.slot j = s.slot j
  queue : inc.number ∈ t.engine.consentQueue ↔ inc.published consentNeeded s = .awaitConsent
  queueOther : ∀ n ≠ inc.number, n ∈ t.engine.consentQueue ↔ n ∈ s.engine.consentQueue
  holders : ∀ n ≠ inc.number, ∀ v, n ∈ (t.dyn v).holders ↔ n ∈ (s.dyn v).holders
  held : ∀ v, inc.number ∈ (s.dyn v).holders → inc.number ∈ (t.dyn v).holders
  planQueue : t.planner.queue = s.planner.queue
  plan : t.planner.plan.map (·.incident) = s.planner.plan.map (·.incident)
  only : OnlyControl s t

/-- 03 R65: what joining the consent queue leaves, for an incident that may be in it. -/
structure Joined (k : Nat) (inc : Incident) (s t : State) : Prop where
  slot : ∃ c, ∀ j, t.slot j = if j = k then some { inc with consent := c } else s.slot j
  queue : inc.number ∈ t.engine.consentQueue
  queueOther : ∀ n ≠ inc.number, n ∈ t.engine.consentQueue ↔ n ∈ s.engine.consentQueue
  planner : t.planner = s.planner
  dyn : ∀ v, t.dyn v = s.dyn v
  only : OnlyControl s t

theorem joined {k : Nat} {inc : Incident} {s : State} (hk : s.slot k = some inc) :
    Joined k inc s (if s.engine.consentQueue.contains inc.number then s
      else joinConsent inc.number (setConsent k .pending s)) := by
  split
  · next h =>
    refine ⟨⟨inc.consent, fun j => ?_⟩, List.contains_iff_mem.1 h, fun _ _ => Iff.rfl, rfl, fun _ => rfl, .refl s⟩
    by_cases hj : j = k
    · rw [if_pos hj, hj, hk]
    · rw [if_neg hj]
  · have hset : setConsent k .pending s = putSlot k { inc with consent := .pending } s := by
      unfold setConsent; rw [hk]
    rw [hset]
    refine ⟨⟨.pending, fun j => slot_putSlot s k j _⟩, List.mem_append_right _ List.mem_cons_self, fun n hn => ?_, rfl,
      fun _ => rfl, rfl⟩
    exact List.mem_append.trans (or_iff_left fun h => hn (List.mem_singleton.1 h))

/-- What entering a state leaves of queue, planner and records. -/
theorem acted_enterState {k : Nat} {inc : Incident} {s a : State} {b : Bool} {c : ConsentState}
    (hslot : ∀ j, a.slot j = if j = k then some { inc with consent := c } else s.slot j)
    (hqueue : inc.number ∈ a.engine.consentQueue ↔ inc.published b s = .awaitConsent)
    (hother : ∀ n ≠ inc.number, n ∈ a.engine.consentQueue ↔ n ∈ s.engine.consentQueue) (hplanner : a.planner = s.planner)
    (hdyn : ∀ v, a.dyn v = s.dyn v) (honly : OnlyControl s a) {new : IncidentState} (hnew : inc.published b s = new) :
    Acted k inc b s (enterState k new a) := by
  obtain ⟨hs, he, hp⟩ := enterState_spec ((hslot k).trans (if_pos rfl)) new
  have hnote := onlyNotices_enterState k new a
  refine ⟨⟨c, inc.released, (hs k).trans ((if_pos rfl).trans (by rw [hnew]))⟩,
    fun j hj => (hs j).trans ((if_neg hj).trans ((hslot j).trans (if_neg hj))), ?_, fun n hn => ?_, fun n _ v => ?_,
    fun v hv => ?_, ?_, ?_, honly.trans hnote.onlyControl⟩
  · rw [he]; exact hqueue
  · rw [he]; exact hother n hn
  · rw [hnote.dyn, hdyn]
  · rw [hnote.dyn, hdyn]; exact hv
  · rw [hp, hplanner]
  · rw [hp, hplanner]

theorem not_mem_filter_ne {n : Nat} {q : List Nat} : n ∉ q.filter (· != n) := fun h => by
  simp at h

theorem mem_filter_ne {m n : Nat} {q : List Nat} (h : m ≠ n) : m ∈ q.filter (· != n) ↔ m ∈ q := by
  simp [h]

theorem setConsent_spec {k : Nat} {inc : Incident} {s : State} (hk : s.slot k = some inc) (c : ConsentState) :
    (∀ j, (setConsent k c s).slot j = if j = k then some { inc with consent := c } else s.slot j)
      ∧ OnlyNotices s (setConsent k c s) ∧ (setConsent k c s).planner = s.planner
      ∧ (setConsent k c s).engine.consentQueue = s.engine.consentQueue := by
  unfold setConsent
  rw [hk]
  exact ⟨fun j => slot_putSlot s k j _, rfl, rfl, rfl⟩

theorem acted_actOnPublication {k : Nat} {inc : Incident} {s : State} (hk : s.slot k = some inc) (b : Bool) :
    Acted k inc b s (actOnPublication k b s) := by
  have hquit := quitted_quitConsent hk
  obtain ⟨c, hslot⟩ := hquit.slot
  unfold actOnPublication
  rw [hk]
  dsimp only
  by_cases hcause : inc.cause = none
  · rw [if_neg (by simp [hcause])]
    by_cases hb : b = true
    · rw [if_pos hb]
      have hjoin := joined hk
      unfold awaitConsent
      rw [hk]
      dsimp only
      generalize (if s.engine.consentQueue.contains inc.number then s
        else joinConsent inc.number (setConsent k .pending s)) = a at hjoin ⊢
      obtain ⟨c, hslot⟩ := hjoin.slot
      have hpublished : inc.published b s = .awaitConsent := by
        rw [Incident.published, if_neg (by simp [hcause]), if_pos hb]
      have hacted : Acted k inc b s (enterState k .awaitConsent a) :=
        acted_enterState hslot (iff_of_true hjoin.queue hpublished) hjoin.queueOther hjoin.planner hjoin.dyn hjoin.only hpublished
      obtain ⟨c', r', hs'⟩ := hacted.slot
      rw [hs']
      exact { hacted with
        slot := ⟨c', r', hs'⟩
        only := hacted.only.trans rfl }
    · rw [if_neg hb]
      obtain ⟨hset, hnote, hplanner, hqueue⟩ := setConsent_spec ((hslot k).trans (if_pos rfl)) .notNeeded
      have hset' (j : Nat) : (setConsent k .notNeeded (quitConsent k s)).slot j
          = if j = k then some { inc with consent := .notNeeded } else s.slot j := by
        rw [hset, hslot]
        by_cases hj : j = k
        · rw [if_pos hj, if_pos hj]
        · rw [if_neg hj, if_neg hj, if_neg hj]
      have hqueue' := hqueue.trans hquit.queue
      have hdyn (v : Nat) : (setConsent k .notNeeded (quitConsent k s)).dyn v = s.dyn v :=
        (hnote.dyn v).trans (hquit.dyn v)
      have honly := hquit.only.trans hnote.onlyControl
      generalize setConsent k .notNeeded (quitConsent k s) = a at *
      have hgone : inc.number ∉ a.engine.consentQueue := by rw [hqueue']; exact not_mem_filter_ne
      have hother : ∀ n ≠ inc.number, n ∈ a.engine.consentQueue ↔ n ∈ s.engine.consentQueue := fun n hn => by
        rw [hqueue']; exact mem_filter_ne hn
      by_cases harmed : inc.released = false ∧ inc.group ≠ 0
      · rw [if_pos (by simp [harmed])]
        have hpublished : inc.published b s = .armed := by
          rw [Incident.published, if_neg (by simp [hcause]), if_neg hb, if_pos harmed]
        exact acted_enterState hset' (iff_of_false hgone (by rw [hpublished]; exact fun h => nomatch h)) hother
          (hplanner.trans hquit.planner) hdyn honly hpublished
      · rw [if_neg (by simpa using harmed)]
        have he := entered_enterClosing ((hset' k).trans (if_pos rfl))
        have hpublished : inc.published b s
            = if ∀ v ∈ inc.boundary, (s.dyn v).confirmed = true then .isolated else .closing := by
          rw [Incident.published, if_neg (by simp [hcause]), if_neg hb, if_neg harmed]
        have hnot : inc.published b s ≠ .awaitConsent := by
          rw [hpublished]; split <;> exact fun h => nomatch h
        refine ⟨⟨.notNeeded, true, he.slot.trans ?_⟩, fun j hj => (he.other j hj).trans ((hset' j).trans (if_neg hj)), ?_,
          fun n hn => ?_, fun n hn v => ?_, fun v hv => ?_, ?_, ?_, honly.trans he.only⟩
        · rw [hpublished]
          simp only [Incident.closed, hdyn]
        · rw [he.engine]; exact iff_of_false hgone hnot
        · rw [he.engine]; exact hother n hn
        · rw [he.holders, hdyn]
          exact or_iff_left fun h => hn h.2
        · rw [he.holders, hdyn]; exact .inl hv
        · rw [he.planQueue, hplanner, hquit.planner]
        · rw [he.plan, hplanner, hquit.planner]
  · rw [if_pos (Option.isSome_iff_ne_none.2 hcause)]
    have hpublished : inc.published b s = .uncontained := by
      rw [Incident.published, if_pos hcause]
    have hgone : inc.number ∉ (quitConsent k s).engine.consentQueue := by rw [hquit.queue]; exact not_mem_filter_ne
    exact acted_enterState hslot (iff_of_false hgone (by rw [hpublished]; exact fun h => nomatch h))
      (fun n hn => by rw [hquit.queue]; exact mem_filter_ne hn) hquit.planner hquit.dyn hquit.only hpublished

/-! ### Publication (02 R46 to R48) -/

theorem startNext_drop (recorded : Nat → List Nat) (q : List Nat) :
    (Planner.startNext recorded { queue := q, plan := none }).queue = q.drop 1
      ∧ (Planner.startNext recorded { queue := q, plan := none }).plan.map (·.incident) = q.head? := by
  cases q <;> exact ⟨rfl, rfl⟩

/-- 02 R26, R46: the plan in progress ends, and the next one starts. -/
theorem endPlan_spec (s : State) : (endPlan s).planner.queue = s.planner.queue.drop 1
    ∧ (endPlan s).planner.plan.map (·.incident) = s.planner.queue.head?
    ∧ endPlan s = { s with planner := (endPlan s).planner } :=
  ⟨(startNext_drop _ s.planner.queue).1, (startNext_drop _ s.planner.queue).2, rfl⟩

/-- The record of the slot as the engine's transition finds it. -/
def planWritten (k : Nat) (inc : Incident) (p : Plan) (s : State) : State :=
  raisePlanReady (inc.publish p) (endPlan (putSlot k (inc.publish p) s))

/-- What the writing of a plan leaves. -/
structure PlanWritten (k : Nat) (inc : Incident) (p : Plan) (s t : State) : Prop where
  slot : ∀ j, t.slot j = if j = k then some (inc.publish p) else s.slot j
  engine : t.engine = { s.engine with slots := t.engine.slots }
  planQueue : t.planner.queue = s.planner.queue.drop 1
  plan : t.planner.plan.map (·.incident) = s.planner.queue.head?
  notices : OnlyNotices s t

theorem planWritten_spec (k : Nat) (inc : Incident) (p : Plan) (s : State) :
    PlanWritten k inc p s (planWritten k inc p s) := by
  obtain ⟨hq, hp, he⟩ := endPlan_spec (putSlot k (inc.publish p) s)
  exact ⟨fun j => slot_putSlot s k j _, rfl, hq, hp, rfl⟩

theorem publish_eq {k : Nat} {inc : Incident} {s : State} (hk : s.slot k = some inc) (p : Plan) :
    publish k p s = actOnPublication k p.consentNeeded (planWritten k inc p s) := by
  unfold publish; rw [hk]; rfl

theorem acted_publish {k : Nat} {inc : Incident} {s : State} (hk : s.slot k = some inc) (p : Plan) :
    Acted k (inc.publish p) p.consentNeeded (planWritten k inc p s) (publish k p s) := by
  rw [publish_eq hk]
  exact acted_actOnPublication (((planWritten_spec k inc p s).slot k).trans (if_pos rfl)) _

theorem published_ne_restoring (inc : Incident) (b : Bool) (s : State) : inc.published b s ≠ .restoring := by
  unfold Incident.published
  split
  · exact fun h => nomatch h
  · split
    · exact fun h => nomatch h
    · split
      · exact fun h => nomatch h
      · split <;> exact fun h => nomatch h

/-- What a plan leads to that completes unstale and is its own survivor's, before the step settles. -/
structure PlanPublished (k : Nat) (inc : Incident) (p : Plan) (s t : State) : Prop where
  slot : ∃ c r, t.slot k
    = some { inc.publish p with consent := c, released := r, state := (inc.publish p).published p.consentNeeded s }
  queue : inc.number ∈ t.engine.consentQueue ↔ (inc.publish p).published p.consentNeeded s = .awaitConsent
  other : ∀ j ≠ k, t.slot j = s.slot j
  queueOther : ∀ n ≠ inc.number, n ∈ t.engine.consentQueue ↔ n ∈ s.engine.consentQueue
  holders : ∀ n ≠ inc.number, ∀ v, n ∈ (t.dyn v).holders ↔ n ∈ (s.dyn v).holders
  held : ∀ v, inc.number ∈ (s.dyn v).holders → inc.number ∈ (t.dyn v).holders
  planQueue : t.planner.queue = s.planner.queue.drop 1
  plan : t.planner.plan.map (·.incident) = s.planner.queue.head?
  only : OnlyControl s t

theorem planPublished {k : Nat} {inc : Incident} {s : State} (hk : s.slot k = some inc) (p : Plan) :
    PlanPublished k inc p s (publish k p s) := by
  have hacted := acted_publish hk p
  obtain ⟨hslot, hengine, hqueue, hplan, hnote⟩ := planWritten_spec k inc p s
  generalize planWritten k inc p s = a at *
  have hpublished : (inc.publish p).published p.consentNeeded a = (inc.publish p).published p.consentNeeded s := by
    simp only [Incident.published, hnote.dyn]
  obtain ⟨hs, hother, hq, hqo, hh, hheld, hpq, hpl, honly⟩ := hacted
  rw [hpublished] at hs hq
  refine ⟨hs, hq, fun j hj => (hother j hj).trans ((hslot j).trans (if_neg hj)), fun n hn => (hqo n hn).trans (by rw [hengine]),
    fun n hn v => (hh n hn v).trans (by rw [hnote.dyn]), fun v hv => hheld v (by rw [hnote.dyn]; exact hv),
    hpq.trans hqueue, hpl.trans hplan, hnote.onlyControl.trans honly⟩

/-! ### PLAN_COMPLETE (02 R28) -/

theorem deliverPlan_eq (k : Nat) (inc : Incident) {q : PlanInProgress} {s : State} (hq : s.planner.plan = some q) :
    deliverPlan k inc s = settle (if q.sets.noted.isEmpty then publish k q.sets s else merge inc.number q.sets s) := by
  unfold deliverPlan; rw [hq]

/-- 02 R28: an unstale plan completes for its incident. -/
theorem completePlan_eq {s : State} {k : Nat} {inc : Incident} {q : PlanInProgress} (hq : s.planner.plan = some q)
    (hn : q.incident = inc.number) (hstale : q.stale = false) (hinc : s.incident inc.number = some (k, inc))
    (hr : inc.state ≠ .restoring) : completePlan s
      = settle (if (s.makePlan inc).noted.isEmpty then publish k (s.makePlan inc) (workOutPlan inc q s)
          else merge inc.number (s.makePlan inc) (workOutPlan inc q s)) := by
  have hdeliver := deliverPlan_eq k inc (q := { q with sets := s.makePlan inc }) (s := workOutPlan inc q s) rfl
  unfold completePlan
  rw [hq]
  dsimp only
  rw [if_neg (by simp [hstale]), hn, hinc]
  dsimp only
  rw [if_neg hr, hdeliver]

/-- Settles O27: the plan is written and acted on, and the step settles. -/
theorem planCompletionPublishes : Obligations.PlanCompletionPublishes := by
  intro s
  refine ⟨fun hnone => ?_, fun p hp hstale => ?_, fun k inc q hq hn hstale hmem hs hr hnoted => ?_⟩
  · change Host.Outcome.next (completePlan s) = _
    rw [completePlan, hnone]
  · change Host.Outcome.next (completePlan s) = _
    rw [completePlan, hp]
    exact congrArg Host.Outcome.next (if_pos hstale)
  · intro p
    have hk : s.slot k = some inc := Table.get_of_mem hs.wf hmem
    have hstep := completePlan_eq hq hn hstale (incident_of_slot hs hk) hr
    rw [if_pos (by rw [hnoted]; rfl)] at hstep
    have hpub := planPublished (s := workOutPlan inc q s) hk p
    generalize publish k p (workOutPlan inc q s) = w at hstep hpub
    have hdriven := driven_settle w
    obtain ⟨c, r, hslot⟩ := hpub.slot
    have hstate := published_ne_restoring (inc.publish p) p.consentNeeded (workOutPlan inc q s)
    refine ⟨settle w, _, congrArg Host.Outcome.next hstep, hdriven.slots k _ hslot hstate, rfl, rfl, rfl, rfl,
      rfl, rfl, rfl, rfl, rfl, rfl, rfl, fun _ => ?_, ?_, ?_, ?_⟩
    · rw [hdriven.consentQueue]; exact hpub.queue
    · rw [hdriven.planQueue]; exact hpub.planQueue
    · rw [hdriven.plan]; exact hpub.plan
    · have hwork : OnlyControl s (workOutPlan inc q s) := rfl
      exact hwork.trans (hpub.only.trans hdriven.only)

end Sys2Proof.Machine
end

section
/-! PROOFS. The merge: O28 (02 R46; 03 R73 to R77). -/

namespace Sys2Proof.Machine

open Sys2Proof

/-! ### Planner queues -/

theorem startNext_queue_subset (recorded : Nat → List Nat) (p : Planner) : (p.startNext recorded).queue ⊆ p.queue := by
  unfold Planner.startNext
  split
  · next h => rw [h]; exact List.subset_cons_self _ _
  · exact List.Subset.refl _

/-- 02 R25: a plan request adds no number but its own to the plan queue. -/
theorem mem_queue_planRequest {m n : Nat} {s : State} (h : m ∈ (planRequest n s).planner.queue) :
    m ∈ s.planner.queue ∨ m = n := by
  obtain e | e | ⟨_, _, _, _, _, _, e⟩ := planRequest_cases n s <;> rw [e] at h
  · exact .inl h
  · exact .inl h
  · obtain h | h := List.mem_append.1 (startNext_queue_subset _ _ h)
    · exact .inl h
    · exact .inr (List.mem_singleton.1 h)

theorem mem_queue_endPlan {m : Nat} {s : State} (h : m ∈ (endPlan s).planner.queue) : m ∈ s.planner.queue := by
  rw [(endPlan_spec s).1] at h
  exact List.mem_of_mem_drop h

/-! ### FREE slots stay FREE as a step settles -/

/-- No FREE slot is taken. -/
def FreeKept (s t : State) : Prop := ∀ j, s.slot j = none → t.slot j = none

theorem freeKept_of_engine {s t : State} (h : t.engine = s.engine) : FreeKept s t := fun j hj => by
  rw [State.slot, h]; exact hj

theorem freeKept_settle (s : State) : FreeKept s (settle s) := by
  have hstarts : FreeKept (progressRestores s) (settle s) := freeKept_of_engine (by
    rw [show settle s = retimePolls (crewRequests (startMoves (progressRestores s))) from rfl, engine_retimePolls,
      engine_crewRequests, engine_startMoves])
  have hrestores : FreeKept s (progressRestores s) :=
    forSlots_rel (R := FreeKept) (fun _ _ h => h) (fun h h' j hj => h' j (h j hj)) (fun k inc s hk j hj => by
      split
      · have hjk : j ≠ k := fun e => by rw [e, hk] at hj; cases hj
        rw [slot_progressRestore_other hjk]; exact hj
      · exact hj) s
  exact fun j hj => hstarts j (hrestores j hj)

/-! ### How the survivor goes on (02 R46, 03 R74) -/

/-- What follows the merged state `s`: the survivor goes on in its slot, and the other incidents are left to themselves. -/
structure GoesOn (k : Nat) (w : Incident) (s t : State) : Prop where
  slot : ∃ u, t.slot k = some u ∧ u.number = w.number ∧ u.state ≠ .restoring
  other : ∀ j ≠ k, t.slot j = s.slot j
  consent : ∀ n ≠ w.number, n ∈ t.engine.consentQueue ↔ n ∈ s.engine.consentQueue
  queue : ∀ n ≠ w.number, n ∈ t.planner.queue → n ∈ s.planner.queue
  holders : ∀ n ≠ w.number, ∀ v, n ∈ (t.dyn v).holders ↔ n ∈ (s.dyn v).holders
  held : ∀ v, w.number ∈ (s.dyn v).holders → w.number ∈ (t.dyn v).holders
  only : OnlyControl s t

theorem PlanPublished.goesOn {k : Nat} {w : Incident} {p : Plan} {s t : State} (h : PlanPublished k w p s t) :
    GoesOn k w s t ∧ ∃ u, t.slot k = some u ∧ u.region = p.region := by
  obtain ⟨c, r, hslot⟩ := h.slot
  have hstate := published_ne_restoring (w.publish p) p.consentNeeded s
  refine ⟨⟨⟨_, hslot, rfl, hstate⟩, h.other, h.queueOther, fun n _ hn => ?_, h.holders, h.held, h.only⟩, _, hslot, rfl⟩
  rw [h.planQueue] at hn
  exact List.mem_of_mem_drop hn

theorem goesOn_requestReplan {k : Nat} {w : Incident} {s : State} (hr : w.state ≠ .restoring) :
    GoesOn k w s (endPlan (requestReplan k w s)) ∧ (endPlan (requestReplan k w s)).slot k = some { w with replanPending := true } := by
  have hnote : OnlyNotices s (endPlan (requestReplan k w s)) := by
    unfold requestReplan
    have h := planRequest_only w.number (putSlot k { w with replanPending := true } s)
    generalize planRequest w.number (putSlot k { w with replanPending := true } s) = a at h ⊢
    rw [h]; rfl
  have hengine : (endPlan (requestReplan k w s)).engine = (requestReplan k w s).engine := rfl
  have hconsent : (requestReplan k w s).engine.consentQueue = s.engine.consentQueue := by
    unfold requestReplan; rw [planRequest_only]; rfl
  have hslot (j : Nat) : (endPlan (requestReplan k w s)).slot j
      = if j = k then some { w with replanPending := true } else s.slot j := slot_requestReplan k w s j
  refine ⟨⟨⟨_, (hslot k).trans (if_pos rfl), rfl, hr⟩, fun j hj => (hslot j).trans (if_neg hj), fun n _ => ?_, fun n hn h => ?_,
    fun n _ v => by rw [hnote.dyn], fun v hv => by rw [hnote.dyn]; exact hv, hnote.onlyControl⟩, (hslot k).trans (if_pos rfl)⟩
  · rw [hengine, hconsent]
  · exact (mem_queue_planRequest (mem_queue_endPlan h)).resolve_right hn

/-- What a merge leads to as the step settles: `ys` are the incidents folded into the survivor `w`. -/
structure MergeSettled (s t : State) (k : Nat) (w : Incident) (ys : List (Nat × Incident)) : Prop where
  folded : ∀ y ∈ ys, t.slot y.1 = none ∧ y.2.number ∉ t.engine.consentQueue ∧ y.2.number ∉ t.planner.queue
    ∧ ∀ v, y.2.number ∉ (t.dyn v).holders ∧ (y.2.number ∈ (s.dyn v).holders → w.number ∈ (t.dyn v).holders)
  others : ∀ j a, j ≠ k → j ∉ ys.map (·.1) → s.slot j = some a → a.state ≠ .restoring → t.slot j = some a
  only : OnlyControl s t

theorem mergeSettled {s m a : State} (hs : s.SlotsSound) {k : Nat} {w x : Incident} {region ex : List Nat}
    {ys : List (Nat × Incident)} (hm : Merged s m k w region ex ys) (hx : x.number = w.number) (ha : GoesOn k x m a) :
    MergeSettled s (settle a) k w ys := by
  have hdriven := driven_settle a
  obtain ⟨u, hslot, hun, hur⟩ := ha.slot
  have hback {j : Nat} {b : Incident} (hb : a.slot j = some b) :
      (j = k ∧ b.state ≠ .restoring ∧ b.number = w.number) ∨ (j ≠ k ∧ j ∉ ys.map (·.1) ∧ s.slot j = some b) := by
    by_cases hj : j = k
    · subst hj
      rw [hslot] at hb; cases hb
      exact .inl ⟨rfl, hur, hun.trans hx⟩
    · rw [ha.other j hj] at hb
      obtain ⟨h, -⟩ | h := hm.backward hb
      · exact absurd h hj
      · exact .inr h
  have hsurvivor : a.NotRestoring w.number := fun j b hb hbr hn => by
    obtain ⟨-, h, -⟩ | ⟨hj, -, hb⟩ := hback hb
    · exact h hbr
    · exact hj (hs.slot_inj hb hm.held hn)
  have hnumbers := hm.number_notMem hs
  refine ⟨fun y hy => ?_, fun j b hj hjy hb hr => ?_, ?_⟩
  · obtain ⟨hyslot, hyk⟩ := hm.younger y hy
    have hmem : y.2.number ∈ numbersOf ys := List.mem_map_of_mem (f := (·.2.number)) hy
    have hne : y.2.number ≠ w.number := fun h => hnumbers (h ▸ hmem)
    have hne' : y.2.number ≠ x.number := fun h => hne (h.trans hx)
    have hyslots : y.1 ∈ ys.map (·.1) := List.mem_map_of_mem (f := (·.1)) hy
    have hnot : a.NotRestoring y.2.number := fun j b hb _ hn => by
      obtain ⟨-, -, h⟩ | ⟨-, hj, hb⟩ := hback hb
      · exact hne (hn.symm.trans h)
      · exact hj (hs.slot_inj hb hyslot hn ▸ hyslots)
    have hgone (v : Nat) : y.2.number ∉ (m.dyn v).holders := fun h => by
      obtain ⟨-, h⟩ | ⟨h, -⟩ := (hm.holders v _).1 h
      · exact h hmem
      · exact hne h
    refine ⟨freeKept_settle a y.1 ?_, ?_, ?_, fun v => ⟨?_, fun hv => ?_⟩⟩
    · rw [ha.other y.1 hyk, hm.slot, if_neg hyk, if_pos hyslots]
    · rw [hdriven.consentQueue, ha.consent _ hne', hm.consent]
      exact fun h => (of_decide_eq_true (List.mem_filter.1 h).2) hmem
    · rw [hdriven.planQueue]
      intro h
      have h := ha.queue _ hne' h
      rw [hm.queue] at h
      exact (of_decide_eq_true (List.mem_filter.1 h).2) hmem
    · rw [mem_holders_settle hnot, ha.holders _ hne']
      exact hgone v
    · rw [mem_holders_settle hsurvivor]
      refine hx ▸ ha.held v ?_
      rw [hx]
      exact (hm.holders v _).2 (.inr ⟨rfl, _, hmem, hv⟩)
  · refine hdriven.slots j b ?_ hr
    rw [ha.other j hj, hm.slot, if_neg hj, if_neg hjy]
    exact hb
  · have hmerged : OnlyControl s m := by rw [hm.only]
    exact hmerged.trans (ha.only.trans hdriven.only)

/-- Settles O28: the survivor goes on from the merged state, by publication or by a plan request, and the step settles. -/
theorem mergeLeavesTheEarliestIncident : Obligations.MergeLeavesTheEarliestIncident := by
  intro s k inc q hq hn hstale hmem hs hr hnoted
  have hk : s.slot k = some inc := Table.get_of_mem hs.wf hmem
  have hstep := completePlan_eq hq hn hstale (incident_of_slot hs hk) hr
  rw [if_neg (by simpa using hnoted)] at hstep
  have hsound := notedSound_makePlan hs hk hr
  generalize s.makePlan inc = p at *
  intro concerned
  obtain ⟨j, w, ex, hw, hfirst, hm, hmerge⟩ := merge_eq (s := workOutPlan inc q s) hs hk rfl p
  have hactive : w.state ≠ .restoring := hsound.active hs hk hr hw
  obtain ⟨hwmem, hconcerned⟩ := mem_concerned.1 hw
  have hgoes : ∃ a u, merge inc.number p (workOutPlan inc q s) = a
      ∧ GoesOn j { w with region := survivorRegion inc.number p w, excluded := ex }
          (mergedState j w (survivorRegion inc.number p w) ((workOutPlan inc q s).younger inc.number p.noted j)
            (workOutPlan inc q s)) a
      ∧ a.slot j = some u ∧ (w.number = inc.number → u.region = p.region)
      ∧ (w.number ≠ inc.number → w.region <+: u.region) := by
    by_cases hown : w.number = inc.number
    · rw [if_pos hown] at hmerge
      obtain ⟨hgo, u, hu, hregion⟩ := (planPublished hm.slot_same p).goesOn
      exact ⟨_, u, hmerge, hgo, hu, fun _ => hregion, fun h => absurd hown h⟩
    · rw [if_neg hown] at hmerge
      obtain ⟨hgo, hu⟩ := goesOn_requestReplan (k := j)
        (w := { w with region := survivorRegion inc.number p w, excluded := ex }) hactive
      refine ⟨_, _, hmerge, hgo, hu, fun h => absurd h hown, fun _ => ?_⟩
      change w.region <+: survivorRegion inc.number p w
      rw [survivorRegion, if_neg hown]
      exact (mergeRegions_sound _ _).1
  obtain ⟨a, u, ha, hgo, hu, hown, hother⟩ := hgoes
  obtain ⟨u', hu', hnumber, hstate⟩ := hgo.slot
  obtain rfl : u' = u := Option.some.inj (hu'.symm.trans hu)
  rw [ha] at hstep
  have hsettled := mergeSettled (s := workOutPlan inc q s) hs hm (by rfl) hgo
  refine ⟨(j, w), hwmem, hconcerned, fun e he hc => hfirst e (mem_concerned.2 ⟨he, hc⟩), settle a, u',
    congrArg Host.Outcome.next hstep, (driven_settle a).slots j u' hu hstate, hnumber, hown, hother, fun e he hc hne => ?_,
    fun e he hc hnr => ?_, ?_⟩
  · exact hsettled.folded e (List.mem_filter.2 ⟨mem_concerned.2 ⟨he, hc⟩, by simpa using hne⟩)
  · have hslot : s.slot e.1 = some e.2 := Table.get_of_mem hs.wf he
    refine hsettled.others e.1 e.2 (fun h => hc ?_) (fun h => hc ?_) hslot hnr
    · have hew : e.2 = w := by
        have hw' : s.slot j = some w := Table.get_of_mem hs.wf hwmem
        rw [h, hw'] at hslot
        exact (Option.some.inj hslot).symm
      exact hew ▸ hconcerned
    · obtain ⟨y, hy, hye⟩ := List.mem_map.1 h
      obtain ⟨hymem, hyc⟩ := mem_concerned.1 (List.mem_filter.1 hy).1
      have hy' : s.slot y.1 = some y.2 := Table.get_of_mem hs.wf hymem
      rw [hye, hslot] at hy'
      exact (Option.some.inj hy') ▸ hyc
  · have hwork : OnlyControl s (workOutPlan inc q s) := rfl
    exact hwork.trans hsettled.only

end Sys2Proof.Machine
end

section
/-! PROOFS. RESTORE: O24 (03 R78 to R81; 04 R90, R91). -/

namespace Sys2Proof.Machine

open Sys2Proof

/-! ### Opening moves (03 R80) -/

/-- Every move keeps its direction and its starter. -/
def SameStarters (s t : State) : Prop :=
  ∀ v, (t.dyn v).move.map (fun m => (m.direction, m.starter)) = (s.dyn v).move.map fun m => (m.direction, m.starter)

theorem SameStarters.refl (s : State) : SameStarters s s := fun _ => rfl

theorem SameStarters.trans {s t u : State} (h : SameStarters s t) (h' : SameStarters t u) : SameStarters s u :=
  fun v => (h' v).trans (h v)

theorem sameStarters_onDyn {v : Nat} {f : ValveDyn → ValveDyn} {s : State}
    (h : ∀ d, (f d).move.map (fun m => (m.direction, m.starter)) = d.move.map fun m => (m.direction, m.starter)) :
    SameStarters s (onDyn v f s) := fun u => by
  rw [dyn_onDyn]; split
  · next hu => rw [hu]; exact h _
  · rfl

theorem sameStarters_issueTimed (v : Nat) (p : ActuatedPart) (target rate preset : Nat) (s : State) :
    SameStarters s (issueTimed v p target rate preset s) := fun u => by
  rw [dyn_issueTimed]; split
  · next hu =>
    rw [hu, Option.map_map]
    rfl
  · rfl

/-- No opening move of an incident is new. -/
def NoNewOpens (n : Nat) (s t : State) : Prop := ∀ v, t.Opens n v → s.Opens n v

namespace NoNewOpens

variable {n : Nat} {s t u : State}

theorem refl (n : Nat) (s : State) : NoNewOpens n s s := fun _ h => h

theorem trans (h : NoNewOpens n s t) (h' : NoNewOpens n t u) : NoNewOpens n s u := fun v hv => h v (h' v hv)

theorem of_dyn (h : ∀ v, t.dyn v = s.dyn v) : NoNewOpens n s t := fun v hv => by
  unfold State.Opens at hv ⊢; rwa [h] at hv

end NoNewOpens

theorem opens_iff {s : State} {n v : Nat} :
    s.Opens n v ↔ (s.dyn v).move.map (fun m => (m.direction, m.starter)) = some (.openUp, some n) := by
  simp [State.Opens]

theorem SameStarters.noNewOpens {s t : State} (h : SameStarters s t) (n : Nat) : NoNewOpens n s t := fun v hv =>
  opens_iff.2 ((h v).symm.trans (opens_iff.1 hv))

/-- A valve's move that is started for another incident, or is a closing move, or ends, is no new opening move. -/
theorem noNewOpens_onDyn {n v : Nat} {f : ValveDyn → ValveDyn} {s : State}
    (h : (f (s.dyn v)).move.map (fun m => (m.direction, m.starter)) ≠ some (.openUp, some n)) :
    NoNewOpens n s (onDyn v f s) := fun u hu => by
  rw [opens_iff, dyn_onDyn] at hu
  split at hu
  · exact absurd hu h
  · exact opens_iff.2 hu

section release

variable {n m : Nat} (hne : m ≠ n) (v : Nat) (p : ActuatedPart) (s : State)

theorem noNewOpens_startClosing : NoNewOpens n s (startClosing v p m s) := by
  unfold startClosing; split
  · exact .refl n s
  · have hdrive (s : State) : SameStarters s (driveBand v p s) := by
      unfold driveBand; dsimp only
      split <;> exact (sameStarters_onDyn (by intro _; rfl)).trans (sameStarters_issueTimed v p _ _ _ _)
    refine NoNewOpens.trans (noNewOpens_onDyn ?_) ((hdrive _).noNewOpens n)
    exact fun h => by simp [newMove] at h

include hne in
theorem noNewOpens_startOpening : NoNewOpens n s (startOpening v p m s) := by
  have hdrive (s : State) : SameStarters s (driveOpening v p s) := by
    unfold driveOpening; dsimp only
    split <;> exact (sameStarters_onDyn (by intro _; rfl)).trans (sameStarters_issueTimed v p _ _ _ _)
  refine NoNewOpens.trans (noNewOpens_onDyn ?_) ((hdrive _).noNewOpens n)
  exact fun h => by simp [newMove, hne] at h

theorem noNewOpens_endAnyMove : NoNewOpens n s (endAnyMove v p s) := by
  unfold endAnyMove; split
  · refine NoNewOpens.trans (t := withdraw v p s) (.of_dyn fun _ => rfl) (noNewOpens_onDyn ?_)
    exact fun h => nomatch h
  · exact .refl n s

theorem sameStarters_requestCrew (d : Direction) : SameStarters s (requestCrew v d m s) := by
  refine SameStarters.trans (t := raise .crewRequest (.valve v) d.code
    [some m, some (s.rankOf v), some s.map.policy.crewTimeout] s) (fun _ => rfl) ?_
  exact sameStarters_onDyn (by intro _; rfl)

include hne in
theorem noNewOpens_releaseOrder : NoNewOpens n s (releaseOrder v m s) := by
  have hunstarted (s : State) : NoNewOpens n s (setStarter v none s) := noNewOpens_onDyn fun h => by
    cases hm : (s.dyn v).move <;> simp [hm] at h
  have hlast (s : State) : NoNewOpens n s (releaseLast v m s) := by
    unfold releaseLast; split
    · exact .refl n s
    · split
      · exact hunstarted s
      · next p _ _ =>
        unfold releaseActuated; split
        · split
          · exact noNewOpens_endAnyMove v p s
          · exact (noNewOpens_endAnyMove v p s).trans (noNewOpens_startOpening hne v p _)
        · exact .of_dyn fun _ => rfl
      · split
        · exact (sameStarters_requestCrew v s _).noNewOpens n
        · exact .refl n s
  have hhand (s : State) : NoNewOpens n s (handMove v m s) := by
    unfold handMove; split
    · next h =>
      refine noNewOpens_onDyn fun hopen => ?_
      cases hm : (s.dyn v).move with
      | none => simp [hm] at hopen
      | some mv => simp_all [ValveDyn.movesFor]
    · exact .refl n s
  unfold releaseOrder; split
  · have h : NoNewOpens n s (markStaleForOthers m (onDyn v (fun d => { d with holders := d.holders.filter (· != m) }) s)) :=
      ((sameStarters_onDyn (v := v) (f := fun d => { d with holders := d.holders.filter (· != m) })
        (by intro _; rfl)).noNewOpens n).trans (.of_dyn fun _ => rfl)
    dsimp only; split
    · exact h.trans (hlast _)
    · exact h.trans (hhand _)
  · exact .refl n s

end release

theorem noNewOpens_startMoves (n : Nat) (s : State) : NoNewOpens n s (startMoves s) := by
  have hrounds (k : Nat) : ∀ s, NoNewOpens n s (startRounds k s) := by
    induction k with
    | zero => exact .refl n
    | succ k ih =>
      intro s
      simp only [startRounds]
      split
      · next t ht =>
        obtain ⟨m, v, p, w, -, -, hw, rfl⟩ := startOne_eq_some ht
        refine NoNewOpens.trans ?_ (ih _)
        obtain rfl | rfl := hw
        · exact noNewOpens_startClosing v p _
        · exact NoNewOpens.trans (t := nextFree s) (.of_dyn fun _ => rfl) (noNewOpens_startClosing v p _)
      · exact .refl n s
  unfold startMoves; split
  · exact hrounds _ s
  · exact .refl n s

theorem noNewOpens_starts (n : Nat) (s : State) : NoNewOpens n s (retimePolls (crewRequests (startMoves s))) := by
  have hcrew (s : State) : SameStarters s (crewRequests s) :=
    crewRequests_rel .refl .trans (fun inc v s _ => sameStarters_requestCrew v s .close) s
  exact ((noNewOpens_startMoves n s).trans ((hcrew _).noNewOpens n)).trans (.of_dyn fun v => dyn_retimePolls _ v)

/-! ### A restore under way (03 R79 to R81) -/

/-- 03 R80, R81: what is left of a restore, by the valves released. -/
theorem progressRestore_spec {k : Nat} {s : State} {inc : Incident} (hk : s.slot k = some inc) :
    ∃ released rest, inc.restoreList = released ++ rest
      ∧ ((progressRestore k inc s).slot k = some { inc with restoreList := rest }
        ∨ (progressRestore k inc s).slot k = none ∧ rest = [] ∧ ∀ v, ¬(progressRestore k inc s).Opens inc.number v)
      ∧ ∀ m u, m ∈ ((progressRestore k inc s).dyn u).holders
          ↔ m ∈ (s.dyn u).holders ∧ ¬(u ∈ released ∧ m = inc.number) := by
  obtain ⟨released, rest, hsplit, hslot, hheld⟩ := releaseOrders_spec inc.restoreList.length hk
  have hcomplete : progressRestore k inc s
      = completeRestore k { inc with restoreList := rest } (releaseOrders inc.restoreList.length k s) := by
    unfold progressRestore; simp only [hslot]
  rw [hcomplete]
  generalize releaseOrders inc.restoreList.length k s = a at *
  refine ⟨released, rest, hsplit, ?_, fun m u => by rw [sameHolders_completeRestore]; exact hheld m u⟩
  rw [slot_completeRestore]
  by_cases hover : (rest.isEmpty && a.openingCount inc.number = 0) = true
  · rw [if_pos ⟨rfl, hover⟩]
    simp only [Bool.and_eq_true, List.isEmpty_iff, decide_eq_true_eq] at hover
    refine .inr ⟨rfl, hover.1, fun v hv => ?_⟩
    have hdyn : (completeRestore k { inc with restoreList := rest } a).dyn v = a.dyn v := by
      unfold completeRestore; split <;> rfl
    obtain ⟨m, hm, hdir, hstarter⟩ := hv
    rw [hdyn] at hm
    cases hg : Table.get a.drive.valves v with
    | none => rw [State.dyn, hg] at hm; cases hm
    | some d =>
      rw [State.dyn, hg] at hm
      refine List.countP_eq_zero.1 hover.2 (v, d) (Table.mem_of_get hg) ?_
      have hd : d.move = some m := hm
      simp [ValveDyn.movesFor, hd, hdir, hstarter]
  · rw [if_neg fun h => hover h.2]
    exact .inl hslot

theorem noNewOpens_progressRestore {n k : Nat} {s : State} {inc : Incident} (hk : s.slot k = some inc)
    (hne : inc.number ≠ n) : NoNewOpens n s (progressRestore k inc s) := by
  have horders (i : Nat) : ∀ s inc, s.slot k = some inc → inc.number ≠ n → NoNewOpens n s (releaseOrders i k s) := by
    induction i with
    | zero => exact fun s _ _ _ => .refl n s
    | succ i ih =>
      intro s inc hk hne
      simp only [releaseOrders, hk]
      split
      · next v rest _ =>
        split
        · have hslot : (releaseOrder v inc.number (putSlot k { inc with restoreList := rest } s)).slot k
              = some { inc with restoreList := rest } := by
            rw [State.slot, engine_releaseOrder]; exact slot_putSlot_same s k _
          have hput : NoNewOpens n s (putSlot k { inc with restoreList := rest } s) := .of_dyn fun _ => rfl
          exact (hput.trans (noNewOpens_releaseOrder hne v _)).trans (ih _ _ hslot hne)
        · exact .refl n s
      · exact .refl n s
  refine (horders inc.restoreList.length s inc hk hne).trans ?_
  unfold progressRestore; dsimp only
  split
  · unfold completeRestore
    split
    · exact .of_dyn fun _ => rfl
    · exact .refl n _
  · exact .refl n _

/-- A restore of the incident of a slot, with what it may still have on its list. -/
structure RestoreGoing (k n : Nat) (list : List Nat) (s : State) : Prop where
  slot : ∀ u, s.slot k = some u → u.number = n ∧ u.state = .restoring ∧ u.restoreList <:+ list
  held : ∀ v, n ∈ (s.dyn v).holders → ∃ u, s.slot k = some u ∧ v ∈ u.restoreList
  free : s.slot k = none → ∀ v, ¬s.Opens n v
  others : ∀ j ≠ k, ∀ a, s.slot j = some a → a.number ≠ n

theorem RestoreGoing.progressRestore {k n : Nat} {list : List Nat} {s : State} (h : RestoreGoing k n list s) {j : Nat}
    {inc : Incident} (hj : s.slot j = some inc) : RestoreGoing k n list (progressRestore j inc s) := by
  obtain ⟨released, rest, hsplit, hslot, hheld⟩ := progressRestore_spec hj
  have hother {i : Nat} (hi : i ≠ j) : (Machine.progressRestore j inc s).slot i = s.slot i := slot_progressRestore_other hi inc s
  by_cases hjk : j = k
  · subst hjk
    obtain ⟨hn, hr, hlist⟩ := h.slot inc hj
    have hrest : rest <:+ inc.restoreList := ⟨released, hsplit.symm⟩
    refine ⟨fun u hu => ?_, fun v hv => ?_, fun hnone v => ?_, fun i hi a ha => h.others i hi a ((hother hi).symm.trans ha)⟩
    · obtain hs | ⟨hs, -, -⟩ := hslot
      · rw [hs] at hu; cases hu
        exact ⟨hn, hr, hrest.trans hlist⟩
      · rw [hs] at hu; cases hu
    · obtain ⟨hv, hnot⟩ := (hheld n v).1 hv
      obtain ⟨u, hu, hmem⟩ := h.held v hv
      obtain rfl : inc = u := Option.some.inj (hj.symm.trans hu)
      rw [hsplit] at hmem
      have hmem : v ∈ rest := (List.mem_append.1 hmem).resolve_left fun hv => hnot ⟨hv, hn.symm⟩
      obtain hs | ⟨-, hnil, -⟩ := hslot
      · exact ⟨_, hs, hmem⟩
      · rw [hnil] at hmem; cases hmem
    · obtain hs | ⟨-, -, hno⟩ := hslot
      · rw [hs] at hnone; cases hnone
      · exact hn ▸ hno v
  · have hne := h.others j hjk inc hj
    have hkj : k ≠ j := fun e => hjk e.symm
    refine ⟨fun u hu => h.slot u ((hother hkj).symm.trans hu), fun v hv => ?_, fun hnone v hv => ?_, fun i hi a ha => ?_⟩
    · rw [hother hkj]
      exact h.held v ((hheld n v).1 hv).1
    · exact h.free ((hother hkj).symm.trans hnone) v (noNewOpens_progressRestore hj hne v hv)
    · by_cases hij : i = j
      · subst hij
        obtain hs | ⟨hs, -, -⟩ := hslot
        · rw [hs] at ha; cases ha; exact hne
        · rw [hs] at ha; cases ha
      · exact h.others i hi a ((hother hij).symm.trans ha)

theorem RestoreGoing.settle {k n : Nat} {list : List Nat} {s : State} (h : RestoreGoing k n list s) :
    RestoreGoing k n list (settle s) := by
  have hrestores : RestoreGoing k n list (progressRestores s) :=
    forSlots_rel (R := fun s t => RestoreGoing k n list s → RestoreGoing k n list t) (fun _ h => h)
      (fun h h' hs => h' (h hs)) (fun j inc s hj hs => by
        split
        · exact hs.progressRestore hj
        · exact hs) s h
  have hengine : (Machine.settle s).engine = (progressRestores s).engine := by
    rw [show Machine.settle s = retimePolls (crewRequests (startMoves (progressRestores s))) from rfl, engine_retimePolls,
      engine_crewRequests, engine_startMoves]
  have hslot (j : Nat) : (Machine.settle s).slot j = (progressRestores s).slot j := by rw [State.slot, hengine]; rfl
  refine ⟨fun u hu => hrestores.slot u ((hslot k).symm.trans hu), fun v hv => ?_, fun hnone v hv => ?_,
    fun j hj a ha => hrestores.others j hj a ((hslot j).symm.trans ha)⟩
  · rw [hslot]
    exact hrestores.held v ((sameHolders_starts (progressRestores s) v) ▸ hv)
  · exact hrestores.free ((hslot k).symm.trans hnone) v (noNewOpens_starts n _ v hv)

/-! ### A restore with nothing to release (03 R81) -/

/-- A restore of a slot whose list is empty, with no opening move in flight. -/
structure RestoreBare (k : Nat) (inc : Incident) (u : ReportUnit) (s : State) : Prop where
  slot : s.slot k = some inc
  opens : ∀ v, ¬s.Opens inc.number v
  others : ∀ j ≠ k, ∀ a, s.slot j = some a → a.number ≠ inc.number
  valves : s.ValvesSound
  reported : Reported u s.reports

/-- 03 R81: the slot is FREE, and that is reported. -/
structure RestoreOver (k : Nat) (inc : Incident) (u : ReportUnit) (s : State) : Prop where
  slot : s.slot k = none
  report : s.reports.Keeps ⟨.incidentState, u.timeBase, .incident inc.number, 0,
    [some inc.state.code, some inc.planCount, some inc.region.length, some inc.boundary.length]⟩

section bare

variable {k : Nat} {inc : Incident} {u : ReportUnit} {s : State}

theorem RestoreBare.other (h : RestoreBare k inc u s) {j : Nat} (hj : j ≠ k) {a : Incident} (ha : s.slot j = some a)
    (har : a.state = .restoring) : RestoreBare k inc u (progressRestore j a s) := by
  have hne := h.others j hj a ha
  obtain ⟨released, rest, -, hslot, -⟩ := progressRestore_spec ha
  refine ⟨(slot_progressRestore_other hj.symm a s).trans h.slot, fun v hv => h.opens v (noNewOpens_progressRestore ha hne v hv),
    fun i hi b hb => ?_, (keeps_progressRestore ha har).blocks.valves h.valves, h.reported.trans (reported_progressRestore j a s)⟩
  by_cases hij : i = j
  · subst hij
    obtain hs | ⟨hs, -, -⟩ := hslot
    · rw [hs] at hb; cases hb; exact hne
    · rw [hs] at hb; cases hb
  · rw [slot_progressRestore_other hij] at hb
    exact h.others i hi b hb

theorem RestoreBare.own (h : RestoreBare k inc u s) (hlist : inc.restoreList = []) :
    RestoreOver k inc u (progressRestore k inc s) := by
  have hcount : s.openingCount inc.number = 0 := by
    obtain ⟨moving, -, hlen, hopens⟩ := exists_opening h.valves.1 inc.number
    cases moving with
    | nil => exact hlen.symm
    | cons v _ => exact absurd (hopens v List.mem_cons_self) (h.opens v)
  have hover : (inc.restoreList.isEmpty && s.openingCount inc.number = 0) = true := by simp [hlist, hcount]
  have horders : releaseOrders inc.restoreList.length k s = s := by rw [hlist]; rfl
  have heq : progressRestore k inc s
      = markStaleForOthers inc.number (raiseState inc freeCode inc.state.code (freeSlot k s)) := by
    unfold progressRestore
    simp only [horders, h.slot]
    exact if_pos hover
  rw [heq]
  refine ⟨(slot_freeSlot s k k).trans (if_pos rfl), ?_⟩
  have hkeep := keeps_raise s.reports ⟨.incidentState, s.reports.timeBase, .incident inc.number, 0,
    [some inc.state.code, some inc.planCount, some inc.region.length, some inc.boundary.length]⟩
  rw [← h.reported.timeBase]
  exact hkeep

theorem RestoreOver.step (h : RestoreOver k inc u s) {j : Nat} {a : Incident} (ha : s.slot j = some a) :
    RestoreOver k inc u (progressRestore j a s) := by
  have hj : k ≠ j := fun e => by rw [← e, h.slot] at ha; cases ha
  exact ⟨(slot_progressRestore_other hj a s).trans h.slot, (reported_progressRestore j a s).keeps h.report⟩

/-- 03 R81: such a restore is over as the step settles. -/
theorem RestoreBare.settle (h : RestoreBare k inc u s) (hk3 : k ≤ 3) (hr : inc.state = .restoring)
    (hlist : inc.restoreList = []) : RestoreOver k inc u (settle s) := by
  obtain ⟨before, after, hsplit⟩ := List.append_of_mem (show k ∈ allSlots by
    simp only [allSlots, List.mem_cons, List.not_mem_nil, or_false]; omega)
  have hnodup : (before ++ k :: after).Nodup := by rw [← hsplit]; decide
  have hbefore : k ∉ before := fun hm => (List.nodup_append.1 hnodup).2.2 k hm k List.mem_cons_self rfl
  have hfold : ∀ js : List Nat, k ∉ js → ∀ w, RestoreBare k inc u w →
      RestoreBare k inc u (js.foldl (atSlot fun slot inc s =>
        if inc.state = .restoring then Machine.progressRestore slot inc s else s) w) := by
    intro js
    induction js with
    | nil => exact fun _ _ h => h
    | cons j js ih =>
      intro hjs w hw
      refine ih (fun hm => hjs (List.mem_cons_of_mem _ hm)) _ ?_
      have hj : j ≠ k := fun e => hjs (e ▸ List.mem_cons_self)
      unfold atSlot
      split
      · next a ha =>
        dsimp only
        split
        · next har => exact hw.other hj ha har
        · exact hw
      · exact hw
  have hover : ∀ js : List Nat, ∀ w, RestoreOver k inc u w →
      RestoreOver k inc u (js.foldl (atSlot fun slot inc s =>
        if inc.state = .restoring then Machine.progressRestore slot inc s else s) w) := by
    intro js
    induction js with
    | nil => exact fun _ h => h
    | cons j js ih =>
      intro w hw
      refine ih _ ?_
      unfold atSlot
      split
      · next a ha =>
        dsimp only
        split
        · exact hw.step ha
        · exact hw
      · exact hw
  have hall : RestoreOver k inc u (progressRestores s) := by
    unfold progressRestores
    rw [forSlots_eq, hsplit, List.foldl_append, List.foldl_cons]
    refine hover after _ ?_
    have hw := hfold before hbefore s h
    rw [atSlot_some hw.slot, if_pos hr]
    exact hw.own hlist
  have hengine : (Machine.settle s).engine = (progressRestores s).engine := by
    rw [show Machine.settle s = retimePolls (crewRequests (startMoves (progressRestores s))) from rfl, engine_retimePolls,
      engine_crewRequests, engine_startMoves]
  exact ⟨by rw [State.slot, hengine]; exact hall.slot, (quiet_starts (progressRestores s)).reported.keeps hall.report⟩

end bare

/-! ### The restore begins (03 R78, R79) -/

/-- 02 R29: a dropped plan leaves neither of its places to the incident. -/
theorem dropPlan_gone (n : Nat) (s : State) : n ∉ (dropPlan n s).planner.queue
    ∧ ∀ p, (dropPlan n s).planner.plan = some p → p.incident ≠ n := by
  have hqueue : n ∉ (dropQueuedPlan n s).planner.queue := by simp [dropQueuedPlan]
  unfold dropPlan
  dsimp only
  split
  · have hsub := startNext_queue_subset (dropQueuedPlan n s).recordedRegion
      { queue := (dropQueuedPlan n s).planner.queue, plan := none }
    refine ⟨fun h => hqueue (hsub h), fun p hp hn => hqueue ?_⟩
    have hhead := (startNext_drop (dropQueuedPlan n s).recordedRegion (dropQueuedPlan n s).planner.queue).2
    change (Planner.startNext (dropQueuedPlan n s).recordedRegion ⟨(dropQueuedPlan n s).planner.queue, none⟩).plan = some p at hp
    rw [hp, Option.map_some, hn] at hhead
    exact List.mem_of_mem_head? hhead.symm
  · next hno =>
    refine ⟨hqueue, fun p hp hn => hno ?_⟩
    rw [hp]
    simpa using hn

theorem markStaleForOthers_plan {n : Nat} {s : State} (h : ∀ p, s.planner.plan = some p → p.incident ≠ n) :
    ∀ p, (markStaleForOthers n s).planner.plan = some p → p.incident ≠ n ∧ p.stale = true := by
  intro p hp
  obtain ⟨q, hq, rfl⟩ := Option.map_eq_some_iff.1 hp
  rw [if_neg (h q hq)]
  exact ⟨h q hq, rfl⟩

/-- 03 R79: the restore list names every held valve. -/
theorem mem_restoreListOf_of_held {s : State} {inc : Incident} {v : Nat} (h : inc.number ∈ (s.dyn v).holders) :
    v ∈ s.restoreListOf inc := by
  refine mem_restoreListOf ?_
  cases hg : Table.get s.drive.valves v with
  | none => rw [State.dyn, hg] at h; cases h
  | some d =>
    rw [State.dyn, hg] at h
    exact List.mem_map.2 ⟨(v, d), List.mem_filter.2 ⟨Table.mem_of_get hg, List.contains_iff_mem.2 h⟩, rfl⟩

/-- What the beginning of a restore leaves. -/
structure RestoreBegun (k : Nat) (inc : Incident) (s t : State) : Prop where
  slot : ∃ c, ∀ j, t.slot j = if j = k then
    some { inc with consent := c, state := .restoring, restoreList := s.restoreListOf inc } else s.slot j
  consent : inc.number ∉ t.engine.consentQueue
  queue : inc.number ∉ t.planner.queue
  plan : ∀ p, t.planner.plan = some p → p.incident ≠ inc.number ∧ p.stale = true
  drive : t.drive = s.drive
  reports : t.reports = s.raised .incidentState (.incident inc.number) 7
    [some inc.state.code, some inc.planCount, some inc.region.length, some inc.boundary.length]
  only : OnlyControl s t

theorem restoreBegun {k : Nat} {inc : Incident} {s : State} (hk : s.slot k = some inc) :
    RestoreBegun k inc s (beginRestore k inc s) := by
  have hquit := quitted_quitConsent hk
  unfold beginRestore
  generalize quitConsent k s = a at hquit ⊢
  obtain ⟨c, hslot⟩ := hquit.slot
  have hdrop := dropPlan_only inc.number a
  obtain ⟨hgone, hplan⟩ := dropPlan_gone inc.number a
  generalize dropPlan inc.number a = b at hdrop hgone hplan ⊢
  have hslot' (j : Nat) : b.slot j = if j = k then some { inc with consent := c } else s.slot j := by
    rw [State.slot, hdrop]; exact hslot j
  have hdrive : b.drive = s.drive := by rw [hdrop]; exact hquit.drive
  have hlist : b.restoreListOf { inc with consent := c } = s.restoreListOf inc := by
    unfold State.restoreListOf State.heldBy; rw [hdrive]
  have henter : enterRestoring k b = raiseState { inc with consent := c } IncidentState.restoring.code inc.state.code
      (putSlot k { inc with consent := c, state := .restoring, restoreList := s.restoreListOf inc } b) := by
    unfold enterRestoring
    rw [hslot', if_pos rfl]
    dsimp only
    rw [hlist]
  rw [henter]
  have hreports : b.reports = s.reports := by rw [hdrop]; exact hquit.reports
  refine ⟨⟨c, fun j => (slot_putSlot b k j _).trans ?_⟩, ?_, hgone, markStaleForOthers_plan hplan, hdrive, ?_, ?_⟩
  · rw [hslot']
    by_cases hj : j = k
    · rw [if_pos hj, if_pos hj]
    · rw [if_neg hj, if_neg hj, if_neg hj]
  · change inc.number ∉ b.engine.consentQueue
    rw [hdrop]
    change inc.number ∉ a.engine.consentQueue
    rw [hquit.queue]
    exact not_mem_filter_ne
  · change b.reports.raise _ = _
    rw [State.raised, ← hreports]
    rfl
  · have hplanner : OnlyControl a b := by rw [hdrop]
    exact hquit.only.trans (hplanner.trans rfl)

/-- 03 R78: what discarding a PLANNING incident leaves. -/
theorem discardPlanning_only (k : Nat) (inc : Incident) (s : State) :
    discardPlanning k inc s = { s with
      engine := { s.engine with slots := Table.erase s.engine.slots k }
      planner := (discardPlanning k inc s).planner
      reports := s.raised .incidentState (.incident inc.number) 0
        [some inc.state.code, some inc.planCount, some inc.region.length, some inc.boundary.length] } := by
  unfold discardPlanning
  rw [dropPlan_only]
  rfl

theorem discardPlanning_planner (k : Nat) (inc : Incident) (s : State) :
    inc.number ∉ (discardPlanning k inc s).planner.queue
      ∧ ∀ p, (discardPlanning k inc s).planner.plan = some p → p.incident ≠ inc.number ∧ p.stale = true := by
  obtain ⟨hqueue, hplan⟩ := dropPlan_gone inc.number s
  exact ⟨hqueue, markStaleForOthers_plan hplan⟩

section begun

variable {k : Nat} {inc : Incident} {s t : State}

theorem RestoreBegun.others (h : RestoreBegun k inc s t) (hs : s.SlotsSound) (hk : s.slot k = some inc) :
    ∀ j ≠ k, ∀ a, t.slot j = some a → a.number ≠ inc.number := by
  obtain ⟨c, hslot⟩ := h.slot
  intro j hj a ha hn
  rw [hslot, if_neg hj] at ha
  exact hj (hs.slot_inj ha hk hn)

theorem RestoreBegun.going (h : RestoreBegun k inc s t) (hs : s.SlotsSound) (hk : s.slot k = some inc) :
    RestoreGoing k inc.number (s.restoreListOf inc) t := by
  obtain ⟨c, hslot⟩ := h.slot
  have hown := (hslot k).trans (if_pos rfl)
  refine ⟨fun u hu => ?_, fun v hv => ⟨_, hown, mem_restoreListOf_of_held ?_⟩, fun hnone => ?_, h.others hs hk⟩
  · rw [hown] at hu; cases hu
    exact ⟨rfl, rfl, List.suffix_rfl⟩
  · rwa [State.dyn, h.drive] at hv
  · rw [hown] at hnone; cases hnone

theorem RestoreBegun.one (h : RestoreBegun k inc s t) (hs : ∀ e ∈ s.engine.slots, e.2.state ≠ .restoring) :
    t.OneRestore := by
  obtain ⟨c, hslot⟩ := h.slot
  have hat {j : Nat} {a : Incident} (hj : t.slot j = some a) (ha : a.state = .restoring) : j = k := by
    by_contra hne
    rw [hslot, if_neg hne] at hj
    exact hs (j, a) (Table.mem_of_get hj) ha
  exact fun i j a b hi hj ha hb => (hat hi ha).trans (hat hj hb).symm

theorem RestoreBegun.bare (h : RestoreBegun k inc s t) (hs : s.SlotsSound) (hk : s.slot k = some inc)
    (hvalves : t.ValvesSound) (hno : ∀ v, ¬s.Opens inc.number v) (hheld : s.heldBy inc.number = []) :
    ∃ c, RestoreBare k { inc with consent := c, state := .restoring, restoreList := [] } s.reports t := by
  obtain ⟨c, hslot⟩ := h.slot
  have hlist : s.restoreListOf inc = [] := by simp [State.restoreListOf, hheld]
  refine ⟨c, ⟨?_, fun v hv => hno v ?_, h.others hs hk, hvalves, ?_⟩⟩
  · rw [← hlist]; exact (hslot k).trans (if_pos rfl)
  · rwa [State.Opens, State.dyn, h.drive] at hv
  · rw [h.reports]; exact .raise _ _

end begun

/-- Settles O24: the restore begins, and the settling takes it as far as it goes. -/
theorem restoreReleasesInReverseOrder : Obligations.RestoreReleasesInReverseOrder := by
  intro s k inc hm hs hcs hps hmem held
  have hk : s.slot k = some inc := Table.get_of_mem hs.wf hmem
  have hinc := incident_of_slot hs hk
  have hanswer {st : Status} {t : State}
      (h : (if inc.state = .restoring then done s
        else if inc.state = .planning ∧ (s.heldBy inc.number).isEmpty then done (discardPlanning k inc s)
        else ⟨settle (beginRestore k inc s), .accepted, []⟩) = (⟨t, st, []⟩ : Answer)) :
      Answers (.restore inc.number) s 0x34#8 st [] t := by
    refine answers_of rfl ((gated_taken (by rw [hm]; rfl) (by simp)).trans ?_)
    simp only [hinc]
    exact h
  refine ⟨fun hr => hanswer (by rw [if_pos hr]; rfl), fun hp hnil => ?_, fun hr hnot => ?_⟩
  · have honly := discardPlanning_only k inc s
    obtain ⟨hqueue, hplan⟩ := discardPlanning_planner k inc s
    refine ⟨discardPlanning k inc s, hanswer ?_, ?_, hqueue, hplan, ?_⟩
    · rw [if_neg (by simp [hp])]
      exact if_pos ⟨hp, List.isEmpty_iff.2 hnil⟩
    · rw [honly]
    · rw [hp] at honly
      generalize discardPlanning k inc s = t at honly ⊢
      rw [honly]
      rfl
  · have hbegun := restoreBegun hk
    have hkeeps := keeps_beginRestore hk hr
    have hgoing := (hbegun.going hs hk).settle
    have hdriven := driven_settle (beginRestore k inc s)
    have hstale := hdriven.all_stale fun p hp => (hbegun.plan p hp).2
    refine ⟨settle (beginRestore k inc s), hanswer ?_, ?_, ?_, fun p hp => ⟨?_, hstale p hp⟩, ?_, hgoing.slot, hgoing.held,
      fun hone hv u hu => ?_, fun hnone v => ⟨fun hv => ?_, hgoing.free hnone v⟩, fun hv hnil hno => ?_,
      hbegun.only.trans hdriven.only⟩
    · rw [if_neg hr]
      exact if_neg fun h => hnot ⟨h.1, List.isEmpty_iff.1 h.2⟩
    · rw [hdriven.consentQueue]; exact hbegun.consent
    · rw [hdriven.planQueue]; exact hbegun.queue
    · have hplan := hdriven.plan
      rw [hp, Option.map_some] at hplan
      obtain ⟨q, hq, hqn⟩ := Option.map_eq_some_iff.1 hplan.symm
      exact hqn ▸ (hbegun.plan q hq).1
    · rw [← hbegun.reports]; exact (reported_settle _).queue
    · exact restoreWaits_settle (hkeeps.engine hs).slots (hkeeps.blocks.valves hv) (hbegun.one hone) hu (hgoing.slot u hu).2.1
    · obtain ⟨u, hu, -⟩ := hgoing.held v hv
      rw [hnone] at hu; cases hu
    · obtain ⟨c, hbare⟩ := hbegun.bare hs hk (hkeeps.blocks.valves hv) hno hnil
      obtain ⟨hslot, hreport⟩ := hbare.settle (hs.2.1 _ hmem).1 rfl rfl
      exact ⟨hslot, hreport⟩

end Sys2Proof.Machine
end

section
/-! PROOFS. A good reply that ends an exchange, and a state in which it does not withdraw every command of a channel: O40 (05
R127, R128; 06 R150). -/

namespace Sys2Proof.Machine

open Sys2Proof

/-! ### The reply is judged good (05 R127) -/

theorem malformed_false {payload : List Byte} (hlen : payload.length = 14)
    (hcond : ∀ i ∈ [2, 5, 8, 11], ∀ b, payload[i]? = some b → b.toNat ≤ 7) : malformed 0x80#8 payload = false := by
  refine Bool.eq_false_iff.2 fun h => ?_
  obtain h | h | ⟨i, hi, b, hb, hbig⟩ := (malformed_iff _ _).1 h
  · exact h rfl
  · exact h hlen
  · have := hcond i hi b hb
    omega

/-- The statement's event completes the exchange in flight with a good reply. -/
theorem completes_with_good {s : State} {l : Line} {x : Exchange} {payload : List Byte}
    (hx : (s.control.get l).exchange = some x) (hb : x.replyBegun = true) (h16 : x.address ≤ 16)
    (hlen : payload.length = 14) (hcond : ∀ i ∈ [2, 5, 8, 11], ∀ b, payload[i]? = some b → b.toNat ≤ 7) :
    Yields (replyEnds l x payload) s (completeExchange l x (.good (readReply payload)) s) := by
  have hjudge : judgeReply x.address (charactersOf (frameOf 0xC3#8 x.address 0x80#8 payload)) = .good (readReply payload) := by
    rw [judgeReply_frameOf x.address _ (by omega) (by omega), if_neg (by simp), if_neg]
    simp [malformed_false hlen hcond]
  change Host.Outcome.next (replyEnd l _ s) = _
  rw [replyEnd, hx]
  refine congrArg Host.Outcome.next ((if_pos hb).trans ?_)
  rw [hjudge]

/-! ### A command offered to another line's controller

The clause of O40 on a channel gone to local control says that no command for the channel waits in the line's queue. The line's
list of refused valves may name a valve of another line of the same address and channel: `reofferRefused` then puts that valve's
command into this line's queue. -/

/-- Valves 1 and 2 differ in their line only: each is at channel 1 of station 3. -/
def twinMap : NetworkMap :=
  { emptyMap with
    valves := [(1, ⟨1, 2, .actuated ⟨.a, 3, 1, 240, 800, 4, 0, 0, 0, 2, 50, 60⟩, .normallyOpen, 1⟩),
      (2, ⟨2, 3, .actuated ⟨.b, 3, 1, 240, 800, 4, 0, 0, 0, 2, 50, 60⟩, .normallyOpen, 2⟩)]
    stations := [(3, ⟨.a, 40, 0, false⟩)] }

/-- A closing move whose STOP waits to be queued. -/
def stopping : Move := { newMove .close 1 0 with command := some ⟨.stop, 0, false⟩ }

def polling : Exchange := { address := 3, kind := .poll, sent := true, window := none, replyBegun := true }

/-- Line A is polled, and its list of refused valves names line B's valve 2. -/
def misfiled : State :=
  { State.reset with
    store := { State.reset.store with mode := .run }
    map := twinMap
    stations := [(3, freshStation)]
    control := ⟨{ resetControl with exchange := some polling, enabled := true, refused := [2] },
      resetControl, resetControl, resetControl⟩
    supply := ⟨{ resetSupply with state := .on }, resetSupply, resetSupply, resetSupply⟩
    drive := ⟨[(2, { blankDyn with move := some stopping })], 1⟩ }

/-- The reply shows channel 1 in local control. -/
def localReply : List Byte := [0#8, 0#8, 4#8, 0#8, 0#8, 0#8, 0#8, 0#8, 0#8, 0#8, 0#8, 0#8, 0#8, 0#8]

theorem queue_misfiled :
    ((completeExchange .a polling (.good (readReply localReply)) misfiled).control.get .a).queue = [⟨3, 1, .stop, 2, 0⟩] := by
  decide

/-- Refutes O40: valve 1's channel comes to show local control, and the command of valve 2, of another line, still waits for
that channel. -/
theorem not_goodReplyIsTaken : ¬ Obligations.GoodReplyIsTaken := by
  unfold Obligations.GoodReplyIsTaken
  intro h
  have hcond : ∀ i ∈ [2, 5, 8, 11], ∀ b, localReply[i]? = some b → b.toNat ≤ 7 := by decide
  obtain ⟨t, ht, -, -, -, -, -, -, -, -, -, -, -, -, -, hlocal, -⟩ :=
    h misfiled .a polling localReply rfl rfl (by decide) (by decide) rfl hcond (by decide)
  have hyields : Yields (replyEnds .a polling localReply) misfiled
      (completeExchange .a polling (.good (readReply localReply)) misfiled) :=
    completes_with_good rfl rfl (by decide) rfl hcond
  obtain rfl : t = completeExchange .a polling (.good (readReply localReply)) misfiled :=
    Host.Outcome.next.inj (ht.symm.trans hyields)
  obtain ⟨-, -, hgone, -⟩ := hlocal (by decide) (by decide) (by decide) 1 1 _ (by decide) (by decide) rfl (by decide)
    (by decide) (by decide)
  exact hgone ⟨3, 1, .stop, 2, 0⟩ (queue_misfiled ▸ List.mem_singleton.2 rfl) ⟨rfl, rfl⟩

end Sys2Proof.Machine
end

section
/-! PROOFS. What the valve drive can do to a state as it takes a channel's report or the loss of a valve: a closure of the few
changes that it makes, all of one valve (04, sections 4.6 to 4.12; R89). -/

namespace Sys2Proof.Machine

open Sys2Proof

/-! ### The changes of one valve's turn -/

/-- A record keeps position and holders, and its move goes on or ends; no move begins. -/
structure ValveDyn.Follows (d d' : ValveDyn) : Prop where
  position : d'.position = d.position
  holders : d'.holders = d.holders
  move : ∀ m', d'.move = some m' → ∃ m, d.move = some m ∧ m'.direction = m.direction ∧ m'.starter = m.starter

namespace ValveDyn.Follows

variable {d d' d'' : ValveDyn}

theorem refl (d : ValveDyn) : d.Follows d := ⟨rfl, rfl, fun m h => ⟨m, h, rfl, rfl⟩⟩

theorem trans (h : d.Follows d') (h' : d'.Follows d'') : d.Follows d'' where
  position := h'.position.trans h.position
  holders := h'.holders.trans h.holders
  move m'' hm := by
    obtain ⟨m', hm', hd', hs'⟩ := h'.move m'' hm
    obtain ⟨m, hm, hd, hs⟩ := h.move m' hm'
    exact ⟨m, hm, hd'.trans hd, hs'.trans hs⟩

theorem unmoved (h : d.Follows d') (hm : d.move = none) : d'.move = none :=
  Option.eq_none_iff_forall_ne_some.2 fun m' hm' => by
    obtain ⟨m, h, -⟩ := h.move m' hm'
    rw [hm] at h; cases h

end ValveDyn.Follows

/-- What the valve drive does in a valve's turn: its record and commands, its reports, the planner told, the incidents with the
valve in their boundary set moved on, and those that rely on it replanned. -/
inductive Turn (v : Nat) (p : ActuatedPart) : State → State → Prop where
  | refl (s : State) : Turn v p s s
  | trans {s t u : State} : Turn v p s t → Turn v p t u → Turn v p s u
  | record {f : ValveDyn → ValveDyn} {s : State} (h : ∀ d : ValveDyn, d.Follows (f d)) : Turn v p s (onDyn v f s)
  | offer (kind : CommandKind) (serial : Nat) (s : State) : Turn v p s (offer p.line (entryFor v p kind serial) s)
  | serial (s : State) : Turn v p s (takeSerial s)
  | withdraw (s : State) : Turn v p s (withdraw v p s)
  | stale (s : State) : Turn v p s (markStale s)
  | raise (k : ReportKind) (d : Nat) (vs : List (Option Nat)) (s : State) : Turn v p s (raise k (.valve v) d vs s)
  | isolate (k : Nat) (s : State) : Turn v p s (isolationTest k s)
  | reopen {k : Nat} {inc : Incident} {s : State} (hk : s.slot k = some inc) (hi : inc.state = .isolated) :
      Turn v p s (enterState k .closing s)
  | replan (s : State) : Turn v p s (replanRequest v s)

section turns

variable {v : Nat} {p : ActuatedPart} {s : State}

theorem turn_forSlots {f : Nat → Incident → State → State} (h : ∀ k inc s, s.slot k = some inc → Turn v p s (f k inc s))
    (s : State) : Turn v p s (forSlots f s) := forSlots_rel .refl .trans h s

theorem turn_onMove {f : Move → Move} (h : ∀ m, (f m).direction = m.direction ∧ (f m).starter = m.starter) :
    Turn v p s (onMove v f s) :=
  .record fun d => ⟨rfl, rfl, fun m' hm' => by
    obtain ⟨m, hm, rfl⟩ := Option.map_eq_some_iff.1 hm'
    exact ⟨m, hm, h m⟩⟩

theorem turn_setMotion (motion : Motion) (s : State) : Turn v p s (setMotion v motion s) :=
  .record (by intro _; exact ⟨rfl, rfl, fun m h => ⟨m, h, rfl, rfl⟩⟩)

theorem turn_clearMove (s : State) : Turn v p s (clearMove v s) := by
  unfold clearMove
  exact .record (by intro d; exact ⟨rfl, rfl, fun m h => (Option.some_ne_none m h.symm).elim⟩)

theorem turn_endMove (s : State) : Turn v p s (endMove v p s) := (Turn.withdraw s).trans (turn_clearMove _)

theorem turn_issue (kind : CommandKind) (s : State) : Turn v p s (issue v p kind s) :=
  ((Turn.serial s).trans (turn_onMove (by intro _; exact ⟨rfl, rfl⟩))).trans (.offer kind _ _)

theorem turn_issueTimed (target rate preset : Nat) (s : State) : Turn v p s (issueTimed v p target rate preset s) :=
  Turn.trans (turn_onMove (by intro _; exact ⟨rfl, rfl⟩)) (turn_issue _ _)

theorem turn_issueUntimed (target rate : Nat) (s : State) : Turn v p s (issueUntimed v p target rate s) :=
  Turn.trans (turn_onMove (by intro _; exact ⟨rfl, rfl⟩)) (turn_issue _ _)

theorem turn_setOperability (value : Operability) (s : State) : Turn v p s (setOperability v value s) := by
  unfold setOperability; split
  · exact .refl s
  · exact Turn.trans (.record (by intro _; exact ⟨rfl, rfl, fun m h => ⟨m, h, rfl, rfl⟩⟩)) (.stale _)

theorem turn_redeem (s : State) : Turn v p s (redeem v s) := by
  unfold redeem; split
  · exact turn_setOperability _ s
  · exact .refl s

theorem turn_failedMove (m : Move) (detail : Nat) (s : State) : Turn v p s (failedMove v m detail s) := by
  unfold failedMove; dsimp only; split
  · exact Turn.trans (.raise _ _ _ s) (.replan _)
  · exact .raise _ _ _ s

/-! ### The phases of a move -/

theorem turn_driveBand (s : State) : Turn v p s (driveBand v p s) := by
  unfold driveBand; dsimp only
  split <;> exact (turn_setMotion _ s).trans (turn_issueTimed _ _ _ _)

theorem turn_completeClosing (m : Move) (s : State) : Turn v p s (completeClosing v p m s) :=
  ((turn_endMove s).trans (turn_redeem _)).trans (.raise _ _ _ _)

theorem turn_resumeClosing (m : Move) (s : State) : Turn v p s (resumeClosing v p m s) := by
  unfold resumeClosing; split
  · exact turn_completeClosing m s
  · exact turn_driveBand s

theorem turn_changeBand (s : State) : Turn v p s (changeBand v p s) := (turn_setMotion _ s).trans (turn_issueUntimed _ _ _)

theorem turn_holdMove (m : Move) (pressure : Nat) (s : State) : Turn v p s (holdMove v p m pressure s) :=
  (((turn_setMotion _ s).trans (turn_onMove (by intro _; exact ⟨rfl, rfl⟩))).trans (turn_issue _ _)).trans (.raise _ _ _ _)

theorem turn_driveOpen (n : Nat) (s : State) : Turn v p s (driveOpen v p n s) :=
  (turn_setMotion _ s).trans (turn_issueTimed _ _ _ _)

theorem turn_driveOpening (s : State) : Turn v p s (driveOpening v p s) := by
  unfold driveOpening; dsimp only
  split
  · exact (turn_setMotion _ s).trans (turn_issueTimed _ _ _ _)
  · exact turn_driveOpen _ s

theorem turn_endDwell (s : State) : Turn v p s (endDwell v p s) :=
  Turn.trans (turn_onMove (by intro _; exact ⟨rfl, rfl⟩)) (turn_driveOpen _ _)

theorem turn_completeCharge (s : State) : Turn v p s (completeCharge v p s) := by
  unfold completeCharge; split
  · exact Turn.trans (turn_onMove (by intro _; exact ⟨rfl, rfl⟩)) (turn_endDwell _)
  · exact ((Turn.withdraw s).trans (turn_setMotion _ _)).trans (turn_onMove (by intro _; exact ⟨rfl, rfl⟩))

theorem turn_completeOpening (m : Move) (s : State) : Turn v p s (completeOpening v p m s) :=
  ((turn_endMove s).trans (turn_redeem _)).trans (.raise _ _ _ _)

theorem turn_torqueTrip (m : Move) (s : State) : Turn v p s (torqueTrip v p m s) := by
  unfold torqueTrip; split
  · exact ((turn_setMotion _ s).trans (turn_onMove (by intro _; exact ⟨rfl, rfl⟩))).trans (turn_issueUntimed _ _ _)
  · exact ((turn_setOperability _ s).trans (turn_endMove _)).trans (turn_failedMove m _ _)

theorem turn_endBackoff (m : Move) (s : State) : Turn v p s (endBackoff v p m s) := by
  refine Turn.trans (turn_onMove (f := fun m => { m with resume := none }) (by intro _; exact ⟨rfl, rfl⟩)) ?_
  cases hm : m.direction with
  | close => rw [show endBackoff v p m s = _ from by unfold endBackoff; rw [hm]]; exact turn_resumeClosing m _
  | openUp => rw [show endBackoff v p m s = _ from by unfold endBackoff; rw [hm]]; exact turn_driveOpening _

/-! ### A good reply -/

theorem turn_judgeHolding (m : Move) (r : ChannelReport) (x : Reading) (s : State) :
    Turn v p s (judgeHolding v p m r x s) := by
  unfold judgeHolding; dsimp only
  split
  · refine Turn.trans (turn_onMove (f := fun m => { m with tripNoted := false }) (by intro _; exact ⟨rfl, rfl⟩)) ?_
    split
    · exact turn_torqueTrip m _
    · exact (Turn.raise _ _ _ _).trans (turn_resumeClosing m _)
  · exact turn_onMove (by intro _; exact ⟨rfl, rfl⟩)

theorem turn_judgeClosing (m : Move) (r : ChannelReport) (x : Reading) (s : State) :
    Turn v p s (judgeClosing v p m r x s) := by
  unfold judgeClosing
  split
  · exact turn_torqueTrip m s
  split
  · exact turn_completeClosing m s
  split
  · exact turn_holdMove m _ s
  split
  · exact turn_resumeClosing m s
  split
  · exact turn_changeBand s
  · exact .refl s

theorem turn_judgeBackoff (m : Move) (r : ChannelReport) (s : State) : Turn v p s (judgeBackoff v p m r s) := by
  unfold judgeBackoff
  split
  · exact turn_torqueTrip m s
  split
  · exact turn_endBackoff m s
  split
  · exact turn_issueTimed _ _ _ s
  · exact .refl s

theorem turn_judgeCharging (m : Move) (r : ChannelReport) (s : State) : Turn v p s (judgeCharging v p m r s) := by
  unfold judgeCharging
  split
  · exact turn_torqueTrip m s
  split
  · exact turn_completeCharge s
  split
  · exact turn_driveOpening s
  · exact .refl s

theorem turn_judgeOpening (m : Move) (r : ChannelReport) (s : State) : Turn v p s (judgeOpening v p m r s) := by
  unfold judgeOpening
  split
  · exact turn_torqueTrip m s
  split
  · exact turn_completeOpening m s
  split
  · exact turn_driveOpening s
  · exact .refl s

theorem turn_judgeMove (r : ChannelReport) (x : Reading) (s : State) : Turn v p s (judgeMove v p r x s) := by
  unfold judgeMove
  cases (s.dyn v).move with
  | none => exact .refl s
  | some m =>
    cases (s.dyn v).motion with
    | closingFast => exact turn_judgeClosing m r x s
    | closingSlow => exact turn_judgeClosing m r x s
    | holding => exact turn_judgeHolding m r x s
    | backoff => exact turn_judgeBackoff m r s
    | charging => exact turn_judgeCharging m r s
    | opening => exact turn_judgeOpening m r s
    | dwell => exact .refl s
    | idle => exact .refl s
    | crewClose => exact .refl s
    | crewOpen => exact .refl s

theorem turn_failUnreachable (s : State) : Turn v p s (failUnreachable v s) :=
  (Turn.trans (.record (by intro _; exact ⟨rfl, rfl, fun m h => ⟨m, h, rfl, rfl⟩⟩)) (.raise _ _ _ _)).trans (.replan _)

theorem turn_confirmedNotice (value : Bool) (s : State) : Turn v p s (confirmedNotice v value s) :=
  turn_forSlots (fun k inc s hk => by
    split
    · exact .refl s
    · split
      · exact .isolate k s
      · split
        · next hi => exact .reopen hk hi
        · exact .refl s) s

theorem turn_setConfirmed (value : Bool) (s : State) : Turn v p s (setConfirmed v value s) := by
  unfold setConfirmed
  split
  · exact .refl s
  · dsimp only
    have hwrite : Turn v p s (markStale (writeConfirmed v value s)) :=
      Turn.trans (.record (by intro _; exact ⟨rfl, rfl, fun m h => ⟨m, h, rfl, rfl⟩⟩)) (.stale _)
    generalize markStale (writeConfirmed v value s) = w at hwrite
    have hraise : Turn v p w (if !value && (w.dyn v).move.isNone && !(w.dyn v).holders.isEmpty then
        raiseOffNormal v reopened w else w) := by
      split
      · exact .raise _ _ _ w
      · exact .refl w
    have h := (hwrite.trans hraise).trans (turn_confirmedNotice value _)
    generalize confirmedNotice v value _ = x at h ⊢
    split
    · exact h.trans (turn_failUnreachable _)
    · exact h

/-- 04 R85: a valve takes its position from a reading. -/
def showPosition (v : Nat) (r : Reading) (s : State) : State := onDyn v (fun d => { d with position := r }) s

/-- 04 R86: the closed-confirmed flag follows a known position. -/
def showConfirmed (v : Nat) (r : Reading) (s : State) : State :=
  match r with
  | some n => setConfirmed v (decide (closedFrom ≤ n)) s
  | none => s

theorem takeReport_eq (r : ChannelReport) (x : Reading) (s : State) :
    takeReport v p r x s = judgeMove v p r x (showConfirmed v r.position (showPosition v r.position s)) := by
  cases hr : r.position <;> simp only [takeReport, showConfirmed, showPosition, hr]

theorem turn_showConfirmed (r : Reading) (s : State) : Turn v p s (showConfirmed v r s) := by
  cases r with
  | none => exact .refl s
  | some n => exact turn_setConfirmed _ s

theorem turn_takeReport (r : ChannelReport) (x : Reading) (s : State) :
    Turn v p (showPosition v r.position s) (takeReport v p r x s) := by
  rw [takeReport_eq]
  exact (turn_showConfirmed r.position _).trans (turn_judgeMove r x _)

theorem turn_becomeUnreachable (s : State) : Turn v p s (becomeUnreachable v p s) := by
  have htell (b : Bool) (s : State) : Turn v p s (tellUnreachable v b s) :=
    .record (by intro _; exact ⟨rfl, rfl, fun m h => ⟨m, h, rfl, rfl⟩⟩)
  cases hm : (s.dyn v).move with
  | some m =>
    rw [becomeUnreachable_move hm]
    exact ((htell true s).trans (turn_endMove _)).trans (turn_failedMove m _ _)
  | none =>
    rw [becomeUnreachable_idle hm]
    split
    · exact turn_failUnreachable s
    · exact htell false s

theorem turn_acknowledge (e : QueueEntry) (s : State) : Turn e.valve p s (acknowledge e s) :=
  turn_onMove (by intro _; exact ⟨rfl, rfl⟩)

end turns

/-! ### What a turn leaves -/

/-- A turn leaves the records of other valves, and what the lines do. -/
structure TurnLeft (v : Nat) (s t : State) : Prop where
  lines : LinesKept s t
  serial : s.drive.serial ≤ t.drive.serial
  other : ∀ u ≠ v, t.dyn u = s.dyn u
  own : (s.dyn v).Follows (t.dyn v)

namespace TurnLeft

variable {v : Nat} {s t u : State}

theorem trans (h : TurnLeft v s t) (h' : TurnLeft v t u) : TurnLeft v s u where
  lines := h.lines.trans h'.lines
  serial := h.serial.trans h'.serial
  other w hw := (h'.other w hw).trans (h.other w hw)
  own := h.own.trans h'.own

theorem of_dyn (hl : LinesKept s t) (hs : s.drive.serial ≤ t.drive.serial) (hd : ∀ u, t.dyn u = s.dyn u) : TurnLeft v s t :=
  ⟨hl, hs, fun u _ => hd u, by rw [hd]; exact .refl _⟩

theorem of_notices (h : OnlyNotices s t) : TurnLeft v s t :=
  .of_dyn h.linesKept (le_of_eq (by rw [h.fields.1])) h.dyn

end TurnLeft

theorem turnLeft {v : Nat} {p : ActuatedPart} {s t : State} (h : Turn v p s t) : TurnLeft v s t := by
  induction h with
  | refl s => exact .of_dyn (.refl s) le_rfl fun _ => rfl
  | trans _ _ ih ih' => exact ih.trans ih'
  | @record f s h =>
    refine ⟨linesKept_onDyn v f s, le_rfl, fun u hu => (dyn_onDyn s v u f).trans (if_neg hu), ?_⟩
    rw [dyn_onDyn_same]; exact h _
  | offer kind serial s => exact .of_dyn (driven_offer _ _ s).linesKept le_rfl fun _ => rfl
  | serial s => exact .of_dyn (driven_takeSerial s).linesKept (Nat.le_succ _) fun _ => rfl
  | withdraw s => exact .of_dyn (driven_withdraw v p s).linesKept le_rfl fun _ => rfl
  | stale s => exact .of_dyn (driven_markStale s).linesKept le_rfl fun _ => rfl
  | raise k d vs s => exact .of_notices rfl
  | isolate k s => exact .of_notices (onlyNotices_isolationTest k s)
  | @reopen k _ s _ _ => exact .of_notices (onlyNotices_enterState k _ s)
  | replan s => exact .of_notices (onlyNotices_replanRequest v s)

/-- 03 R63: a request to replan leaves number, state and boundary set of every incident. -/
theorem slot_replanRequest_same (v : Nat) (s : State) {k : Nat} {a : Incident} (hk : s.slot k = some a) :
    ∃ b, (replanRequest v s).slot k = some b ∧ b.number = a.number ∧ b.state = a.state ∧ b.boundary = a.boundary :=
  forSlots_rel (R := fun s t => ∀ a, s.slot k = some a →
      ∃ b, t.slot k = some b ∧ b.number = a.number ∧ b.state = a.state ∧ b.boundary = a.boundary)
    (fun _ a h => ⟨a, h, rfl, rfl, rfl⟩)
    (fun h h' a ha => by
      obtain ⟨b, hb, hn, hs, hm⟩ := h a ha
      obtain ⟨c, hc, hn', hs', hm'⟩ := h' b hb
      exact ⟨c, hc, hn'.trans hn, hs'.trans hs, hm'.trans hm⟩)
    (fun j inc s hj a ha => by
      split
      · rw [slot_requestReplan]
        split
        · next hkj =>
          rw [hkj, hj] at ha; cases ha
          exact ⟨_, rfl, rfl, rfl, rfl⟩
        · exact ⟨a, ha, rfl, rfl, rfl⟩
      · exact ⟨a, ha, rfl, rfl, rfl⟩) s a hk

/-- 03 R70, R72: an incident in CLOSING with another valve unconfirmed in its boundary set stays in CLOSING. -/
theorem turn_closing {v w k : Nat} {p : ActuatedPart} {s t : State} (h : Turn v p s t) (hw : w ≠ v) {n : Nat}
    (hconf : (s.dyn w).confirmed = false)
    (hslot : ∃ a, s.slot k = some a ∧ a.number = n ∧ a.state = .closing ∧ w ∈ a.boundary) :
    ∃ b, t.slot k = some b ∧ b.number = n ∧ b.state = .closing ∧ w ∈ b.boundary := by
  induction h with
  | refl s => exact hslot
  | trans h _ ih ih' => exact ih' (by rw [(turnLeft h).other w hw]; exact hconf) (ih hconf hslot)
  | record _ => exact hslot
  | offer _ _ _ => exact hslot
  | serial _ => exact hslot
  | withdraw _ => exact hslot
  | stale _ => exact hslot
  | raise _ _ _ _ => exact hslot
  | isolate j s =>
    obtain ⟨a, hk, hn, hs, hm⟩ := hslot
    cases hj : s.slot j with
    | none => exact ⟨a, by rw [isolationTest, hj]; exact hk, hn, hs, hm⟩
    | some b =>
      by_cases hb : b.state = .closing
      · have hslot := (isolationTest_spec hj hb).1 k
        by_cases hkj : k = j
        · subst hkj
          rw [hk] at hj; cases hj
          rw [if_pos rfl, if_neg fun h => by rw [h w hm] at hconf; cases hconf] at hslot
          exact ⟨_, hslot, hn, rfl, hm⟩
        · exact ⟨a, (hslot.trans (if_neg hkj)).trans hk, hn, hs, hm⟩
      · refine ⟨a, ?_, hn, hs, hm⟩
        have hsame : isolationTest j s = s := by
          unfold isolationTest; rw [hj]; exact if_neg fun h => hb h.1
        rw [hsame]; exact hk
  | @reopen j b s hj hi =>
    obtain ⟨a, hk, hn, hs, hm⟩ := hslot
    have hslot := (enterState_spec hj .closing).1 k
    by_cases hkj : k = j
    · subst hkj
      rw [hk] at hj; cases hj
      rw [hs] at hi; cases hi
    · exact ⟨a, (hslot.trans (if_neg hkj)).trans hk, hn, hs, hm⟩
  | replan s =>
    obtain ⟨a, hk, hn, hs, hm⟩ := hslot
    obtain ⟨b, hb, hbn, hbs, hbb⟩ := slot_replanRequest_same v s hk
    exact ⟨b, hb, hbn.trans hn, hbs.trans hs, hbb ▸ hm⟩

/-- An incident that is ISOLATED or CLOSING goes on to be one of the two, under its number and with its boundary set. -/
def Engaged (s t : State) : Prop :=
  ∀ k a, s.slot k = some a → a.state = .isolated ∨ a.state = .closing →
    ∃ b, t.slot k = some b ∧ b.number = a.number ∧ b.boundary = a.boundary ∧ (b.state = .isolated ∨ b.state = .closing)

namespace Engaged

variable {s t u : State}

theorem of_engine (h : t.engine = s.engine) : Engaged s t := fun k a hk hs =>
  ⟨a, by rw [State.slot, h]; exact hk, rfl, rfl, hs⟩

theorem refl (s : State) : Engaged s s := .of_engine rfl

theorem trans (h : Engaged s t) (h' : Engaged t u) : Engaged s u := fun k a hk hs => by
  obtain ⟨b, hb, hn, hm, hs⟩ := h k a hk hs
  obtain ⟨c, hc, hn', hm', hs'⟩ := h' k b hb hs
  exact ⟨c, hc, hn'.trans hn, hm'.trans hm, hs'⟩

/-- The incident of one slot enters one of the two states. -/
theorem of_slot {j : Nat} {new : IncidentState} {inc : Incident} (hj : s.slot j = some inc)
    (hslot : ∀ k, t.slot k = if k = j then some { inc with state := new } else s.slot k)
    (hnew : new = .isolated ∨ new = .closing) : Engaged s t := fun k a hk hs => by
  by_cases hkj : k = j
  · subst hkj
    obtain rfl : inc = a := Option.some.inj (hj.symm.trans hk)
    exact ⟨_, (hslot k).trans (if_pos rfl), rfl, rfl, hnew⟩
  · exact ⟨a, ((hslot k).trans (if_neg hkj)).trans hk, rfl, rfl, hs⟩

end Engaged

theorem engaged_isolationTest (j : Nat) (s : State) : Engaged s (isolationTest j s) := by
  cases hj : s.slot j with
  | none => rw [show isolationTest j s = s from by unfold isolationTest; rw [hj]]; exact .refl s
  | some inc =>
    by_cases hc : inc.state = .closing
    · refine .of_slot hj (isolationTest_spec hj hc).1 ?_
      split
      · exact .inl rfl
      · exact .inr rfl
    · have hsame : isolationTest j s = s := by
        unfold isolationTest; rw [hj]; exact if_neg fun h => hc h.1
      rw [hsame]; exact .refl s

/-- 03 R70, R72: a valve's turn leaves an ISOLATED or CLOSING incident one of the two. -/
theorem turn_engaged {v : Nat} {p : ActuatedPart} {s t : State} (h : Turn v p s t) : Engaged s t := by
  induction h with
  | trans _ _ ih ih' => exact ih.trans ih'
  | isolate j s => exact engaged_isolationTest j s
  | @reopen j inc s hj _ => exact .of_slot hj (enterState_spec hj .closing).1 (.inr rfl)
  | replan s =>
    intro k a hk hs
    obtain ⟨b, hb, hn, hst, hm⟩ := slot_replanRequest_same v s hk
    exact ⟨b, hb, hn, hm, by rw [hst]; exact hs⟩
  | _ => exact .of_engine rfl

end Sys2Proof.Machine
end

section
/-! PROOFS. A good reply at the station supervisor: score, probe run, pressure and flags, and what they make of the reachability
of the station's valves (06 R144 to R150). -/

namespace Sys2Proof.Machine

open Sys2Proof

/-! ### What the supervisor leaves -/

/-- The part of a valve that a channel names. -/
theorem valveOfChannel_part {s : State} {l : Line} {a c v : Nat} {p : ActuatedPart}
    (h : s.valveOfChannel l a c = some (v, p)) : p.line = l ∧ p.address = a ∧ p.channel = c := by
  have hp := List.find?_some h
  simp only [Bool.and_eq_true, decide_eq_true_eq] at hp
  exact ⟨hp.1.1, hp.1.2, hp.2⟩

/-- The supervisor writes records of stations, line controllers and reports; the same lines are enabled. -/
structure SupervisorOnly (s t : State) : Prop where
  only : t = { s with stations := t.stations, control := t.control, reports := t.reports }
  enabled : ∀ l, (t.control.get l).enabled = (s.control.get l).enabled
  reported : Reported s.reports t.reports

namespace SupervisorOnly

variable {s t u : State}

theorem refl (s : State) : SupervisorOnly s s := ⟨rfl, fun _ => rfl, .refl _⟩

theorem trans (h : SupervisorOnly s t) (h' : SupervisorOnly t u) : SupervisorOnly s u where
  only := by rw [h'.only, h.only]
  enabled l := (h'.enabled l).trans (h.enabled l)
  reported := h.reported.trans h'.reported

theorem foldl {α : Type} {f : State → α → State} (h : ∀ s x, SupervisorOnly s (f s x)) (xs : List α) (s : State) :
    SupervisorOnly s (xs.foldl f s) := by
  induction xs generalizing s with
  | nil => exact .refl s
  | cons x xs ih => exact (h s x).trans (ih _)

theorem setStation (l : Line) (a : Nat) (r : StationRec) (s : State) : SupervisorOnly s (setStation l a r s) :=
  ⟨rfl, fun _ => rfl, .refl _⟩

theorem raise (k : ReportKind) (x : Subject) (d : Nat) (vs : List (Option Nat)) (s : State) :
    SupervisorOnly s (raise k x d vs s) := ⟨rfl, fun _ => rfl, .raise _ _⟩

end SupervisorOnly

theorem enabled_onControl {l : Line} {f : LineControl → LineControl} (hf : ∀ c, (f c).enabled = c.enabled) (s : State)
    (k : Line) : ((onControl l f s).control.get k).enabled = (s.control.get k).enabled := by
  simp only [onControl_fields, PerLine.get_set]
  split
  · next hk => rw [hf, hk]
  · rfl

theorem enabled_onPollEntry (l : Line) (a : Nat) (f : PollEntry → PollEntry) (s : State) (k : Line) :
    ((onPollEntry l a f s).control.get k).enabled = (s.control.get k).enabled :=
  enabled_onControl (by intro _; rfl) s k

theorem supervised_onPollEntry (l : Line) (a : Nat) (f : PollEntry → PollEntry) (s : State) :
    SupervisorOnly s (onPollEntry l a f s) := ⟨rfl, enabled_onPollEntry l a f s, .refl _⟩

theorem supervised_withdraw (v : Nat) (p : ActuatedPart) (s : State) : SupervisorOnly s (withdraw v p s) :=
  ⟨rfl, enabled_onControl (by intro _; rfl) s, .refl _⟩

theorem supervised_dropStationCommands (l : Line) (a : Nat) (s : State) : SupervisorOnly s (dropStationCommands l a s) :=
  ⟨rfl, enabled_onControl (by intro _; rfl) s, .refl _⟩

/-- A station's record is written, and nothing else of the stations. -/
structure StationSet (l : Line) (a : Nat) (r : StationRec) (s t : State) : Prop where
  supervised : SupervisorOnly s t
  stations : t.stations = Table.put s.stations (stationKey l a) r

theorem StationSet.station {l : Line} {a : Nat} {r : StationRec} {s t : State} (h : StationSet l a r s t) :
    t.station l a = r := by
  rw [State.station, h.stations, Table.get_put_same]; rfl

theorem StationSet.after {l : Line} {a : Nat} {r : StationRec} {s t u : State} (h : StationSet l a r s t) (h' : SupervisorOnly t u)
    (hu : u.stations = t.stations) : StationSet l a r s u := ⟨h.supervised.trans h', hu.trans h.stations⟩

theorem StationSet.trans {l : Line} {a : Nat} {r r' : StationRec} {s t u : State} (h : StationSet l a r s t)
    (h' : StationSet l a r' t u) : StationSet l a r' s u :=
  ⟨h.supervised.trans h'.supervised, by rw [h'.stations, h.stations, Table.put_put]⟩

theorem stationSet_setStation (l : Line) (a : Nat) (r : StationRec) (s : State) : StationSet l a r s (setStation l a r s) :=
  ⟨.setStation l a r s, rfl⟩

/-! ### Local control (06 R149) -/

/-- 06 R149: what the flags of a good reply make of the station's record. -/
def StationRec.flagged (r : StationRec) (reply : StationReply) : StationRec :=
  { r with localControl := ⟨reply.channels.c1.localControl, reply.channels.c2.localControl, reply.channels.c3.localControl,
      reply.channels.c4.localControl⟩ }

theorem supervised_raiseLocal (l : Line) (a : Nat) (former : PerChannel Bool) (reply : StationReply) (s : State) (c : Nat) :
    SupervisorOnly s (raiseLocal l a former reply s c) ∧ (raiseLocal l a former reply s c).stations = s.stations := by
  unfold raiseLocal; dsimp only
  split
  · exact ⟨.refl s, rfl⟩
  · split
    · next v p _ =>
      split
      · exact ⟨(supervised_withdraw v p s).trans (.raise ..), rfl⟩
      · exact ⟨.raise .., rfl⟩
    · exact ⟨.refl s, rfl⟩

theorem stationSet_takeLocal (l : Line) (a : Nat) (reply : StationReply) (s : State) :
    StationSet l a ((s.station l a).flagged reply) s (takeLocal l a reply s) := by
  have hflags := supervised_raiseLocal l a (s.station l a).localControl reply
  have hsame (cs : List Nat) : ∀ w, (cs.foldl (raiseLocal l a (s.station l a).localControl reply) w).stations = w.stations := by
    induction cs with
    | nil => exact fun _ => rfl
    | cons c cs ih => exact fun w => (ih _).trans (hflags w c).2
  exact (stationSet_setStation l a _ s).after (SupervisorOnly.foldl (fun s c => (hflags s c).1) allChannels _) (hsame allChannels _)

/-! ### Score and probe run (06 R144 to R147) -/

/-- 06 R144 to R147: a station's record after a good reply. -/
def StationRec.heard (r : StationRec) : StationRec :=
  if r.state = .offline then
    if 8 ≤ r.probeRun + 1 then { r with score := 0, state := .online, probeRun := 0 }
    else { r with probeRun := r.probeRun + 1 }
  else
    { r with
      score := r.score - 1
      state := stateOfScore (r.score - 1)
      probeRun := if stateOfScore (r.score - 1) = .offline then 0 else r.probeRun }

theorem stationSet_supervise (l : Line) (a : Nat) (s : State) :
    StationSet l a (s.station l a).heard s (supervise l a .none s) := by
  have hset := stationSet_setStation l a (s.station l a).heard s
  have hraised (new : StationState) (score cause : Nat) :=
    hset.after (SupervisorOnly.raise .stationHealth (.station l a) new.code
      [some (s.station l a).state.code, some score, some cause] _) rfl
  unfold supervise
  dsimp only
  split
  · next hoff =>
    unfold superviseProbe
    rw [if_pos rfl]
    split
    · next h8 =>
      have hheard : { s.station l a with score := 0, state := .online, probeRun := 0 } = (s.station l a).heard :=
        ((if_pos hoff).trans (if_pos h8)).symm
      rw [hheard]
      exact (hraised .online 0 causeProbeRun).after (supervised_onPollEntry l a _ _) rfl
    · next h8 =>
      have hheard : { s.station l a with probeRun := (s.station l a).probeRun + 1 } = (s.station l a).heard :=
        ((if_pos hoff).trans (if_neg h8)).symm
      rw [hheard]
      exact hset
  · next hon =>
    have hheard : (s.station l a).heard = { s.station l a with
        score := (s.station l a).score - 1
        state := stateOfScore ((s.station l a).score - 1)
        probeRun := if stateOfScore ((s.station l a).score - 1) = .offline then 0 else (s.station l a).probeRun } := if_neg hon
    unfold superviseScore
    dsimp only
    rw [show scoreAfter (s.station l a).score .none = (s.station l a).score - 1 from rfl]
    split
    · next hsame =>
      rw [hsame, if_neg hon] at hheard
      rw [← hheard]
      exact hset
    · rw [← hheard]
      split
      · exact (hraised _ _ _).after
          ((supervised_dropStationCommands l a _).trans (supervised_onPollEntry l a _ _)) rfl
      · exact hraised _ _ _

/-! ### The whole record (06 R144 to R149) -/

theorem heard_flagged (r : StationRec) (reply : StationReply) : (r.flagged reply).heard = r.heard.flagged reply := by
  unfold StationRec.heard StationRec.flagged
  split
  · split <;> rfl
  · rfl

/-- 06 R144 to R149: a station's record after a good reply, with the pressure as the part takes it. -/
def StationRec.replied (r : StationRec) (reply : StationReply) (pressure : Reading) : StationRec :=
  { r.heard.flagged reply with
    pressure := pressure
    moving := reply.channels.c1.moving || reply.channels.c2.moving || reply.channels.c3.moving || reply.channels.c4.moving }

theorem get_flagged (r : StationRec) (reply : StationReply) (pressure : Reading) (c : Nat) :
    (r.replied reply pressure).localControl.get c = (reply.channels.get c).localControl := by
  change PerChannel.get ⟨_, _, _, _⟩ c = _
  unfold PerChannel.get
  split <;> rfl

/-- 06 R144 to R149: the supervisor takes a good reply, up to the change of reachability. -/
def superviseGood (l : Line) (a : Nat) (reply : StationReply) (s : State) : State :=
  takePressure l a reply (supervise l a .none (takeLocal l a reply s))

theorem stationSet_superviseGood (l : Line) (a : Nat) (reply : StationReply) (s : State) :
    StationSet l a ((s.station l a).replied reply (s.pressureOf l a reply)) s (superviseGood l a reply s) := by
  have hlocal := stationSet_takeLocal l a reply s
  have hheard := stationSet_supervise l a (takeLocal l a reply s)
  rw [hlocal.station, heard_flagged] at hheard
  have hboth := hlocal.trans hheard
  unfold superviseGood
  generalize supervise l a .none (takeLocal l a reply s) = u at hboth ⊢
  have hpressure : u.pressureOf l a reply = s.pressureOf l a reply := by rw [hboth.supervised.only]; rfl
  have hset := stationSet_setStation l a ((s.station l a).replied reply (s.pressureOf l a reply)) u
  have hpress : takePressure l a reply u = setStation l a ((s.station l a).replied reply (s.pressureOf l a reply)) u := by
    unfold takePressure; rw [hboth.station, hpressure]; rfl
  rw [hpress]
  exact hboth.trans hset

/-- 06 R150: the parts of the station asked are reachable by what the reply shows. -/
theorem partReachable_superviseGood (l : Line) (reply : StationReply) (s : State) (p : ActuatedPart) (hl : p.line = l) :
    (superviseGood l p.address reply s).partReachable p = ((s.control.get l).enabled && decide ((s.supply.get l).state = .on)
      && Table.has s.map.stations (stationKey l p.address) && (s.station l p.address).heard.state != .offline
      && !(reply.channels.get p.channel).localControl) := by
  subst hl
  have hset := stationSet_superviseGood p.line p.address reply s
  have hmap : (superviseGood p.line p.address reply s).map = s.map := by rw [hset.supervised.only]
  have hsupply : (superviseGood p.line p.address reply s).supply = s.supply := by rw [hset.supervised.only]
  unfold State.partReachable
  rw [hset.supervised.enabled, hset.station, get_flagged, hmap, hsupply]
  rfl

end Sys2Proof.Machine
end

section
/-! PROOFS. A good reply at the valve drive: the channels taken one after the other, and the acknowledgement of a command (04 R85,
R94; 06 R150). -/

namespace Sys2Proof.Machine

open Sys2Proof

/-! ### Turns of several valves -/

/-- Every move was there before, with its direction and its starter. -/
def MovesGoOn (s t : State) : Prop :=
  ∀ v m', (t.dyn v).move = some m' → ∃ m, (s.dyn v).move = some m ∧ m'.direction = m.direction ∧ m'.starter = m.starter

/-- What the turns of several valves leave. -/
structure Turns (s t : State) : Prop where
  lines : LinesKept s t
  serial : s.drive.serial ≤ t.drive.serial
  moves : MovesGoOn s t
  holders : SameHolders s t
  engaged : Engaged s t

namespace Turns

variable {s t u : State}

theorem refl (s : State) : Turns s s := ⟨.refl s, le_rfl, fun _ m h => ⟨m, h, rfl, rfl⟩, .refl s, .refl s⟩

theorem trans (h : Turns s t) (h' : Turns t u) : Turns s u where
  lines := h.lines.trans h'.lines
  serial := h.serial.trans h'.serial
  moves v m'' hm := by
    obtain ⟨m', hm', hd', hs'⟩ := h'.moves v m'' hm
    obtain ⟨m, hm, hd, hs⟩ := h.moves v m' hm'
    exact ⟨m, hm, hd'.trans hd, hs'.trans hs⟩
  holders := h.holders.trans h'.holders
  engaged := h.engaged.trans h'.engaged

theorem foldl {α : Type} {f : State → α → State} (h : ∀ s x, Turns s (f s x)) (xs : List α) (s : State) :
    Turns s (xs.foldl f s) := by
  induction xs generalizing s with
  | nil => exact .refl s
  | cons x xs ih => exact (h s x).trans (ih _)

theorem map (h : Turns s t) : t.map = s.map := by rw [h.lines.only]

theorem valveOfChannel (h : Turns s t) (l : Line) (a c : Nat) : t.valveOfChannel l a c = s.valveOfChannel l a c := by
  unfold State.valveOfChannel State.actuatedValves; rw [h.map]

end Turns

theorem Turn.turns {v : Nat} {p : ActuatedPart} {s t : State} (hturn : Turn v p s t) : Turns s t := by
  have h := turnLeft hturn
  refine ⟨h.lines, h.serial, fun u m' hm => ?_, fun u => ?_, turn_engaged hturn⟩
  · by_cases hu : u = v
    · subst hu; exact h.own.move m' hm
    · rw [h.other u hu] at hm; exact ⟨m', hm, rfl, rfl⟩
  · by_cases hu : u = v
    · rw [hu]; exact h.own.holders
    · rw [h.other u hu]

theorem turns_showPosition (v : Nat) (r : Reading) (s : State) : Turns s (showPosition v r s) where
  lines := linesKept_onDyn v _ s
  serial := le_rfl
  moves u m hm := by
    refine ⟨m, ?_, rfl, rfl⟩
    rw [showPosition, dyn_onDyn] at hm
    split at hm
    · next hu => rw [hu]; exact hm
    · exact hm
  holders := by
    apply sameHolders_onDyn
    exact fun _ => rfl
  engaged := .of_engine rfl

theorem turns_takeReport (v : Nat) (p : ActuatedPart) (r : ChannelReport) (x : Reading) (s : State) :
    Turns s (takeReport v p r x s) := (turns_showPosition v r.position s).trans (turn_takeReport r x s).turns

theorem turn_handOne (before s : State) (e : Nat × ActuatedPart) : Turn e.1 e.2 s (handOne before s e) := by
  unfold handOne
  split
  · exact .refl s
  · split
    · exact .stale s
    · exact (Turn.stale s).trans (turn_becomeUnreachable _)

theorem turns_handReach (l : Line) (before s : State) : Turns s (handReach l before s) :=
  Turns.foldl (fun s e => (turn_handOne before s e).turns) _ s

/-! ### The channels of a station -/

/-- 04 R85: the report of one channel of a reply, for the valve that names it. -/
def takeChannel (l : Line) (a : Nat) (reply : StationReply) (pressure : Reading) (s : State) (c : Nat) : State :=
  match s.valveOfChannel l a c with
  | some (v, p) => takeReport v p (reply.channels.get c) pressure s
  | none => s

/-- 04 R94: the acknowledgement of an exchange's command. -/
def acknowledges (kind : ExchangeKind) (s : State) : State :=
  match kind with
  | .command e => acknowledge e s
  | _ => s

theorem driveTakes_eq (l : Line) (x : Exchange) (reply : StationReply) (s : State) : driveTakes l x reply s
    = acknowledges x.kind
        (allChannels.foldl (takeChannel l x.address reply (s.pressureOf l x.address reply)) s) := rfl

theorem turns_acknowledges (kind : ExchangeKind) (s : State) : Turns s (acknowledges kind s) := by
  cases kind with
  | command e =>
    exact (turn_acknowledge (p := ⟨.a, 0, 0, 0, 0, 0, 0, 0, 0, 0, 0, 0⟩) e s).turns
  | poll => exact .refl s
  | probe => exact .refl s

/-- 04 R94: a record after the acknowledgement of an exchange's command. -/
def ValveDyn.acked (d : ValveDyn) (kind : ExchangeKind) (v : Nat) : ValveDyn :=
  match kind with
  | .command e => if e.valve = v then { d with move := d.move.map (·.acknowledged e.kind e.serial) } else d
  | _ => d

theorem dyn_acknowledges (kind : ExchangeKind) (s : State) (v : Nat) :
    (acknowledges kind s).dyn v = (s.dyn v).acked kind v := by
  cases kind with
  | command e =>
    change (onMove e.valve (fun m => m.acknowledged e.kind e.serial) s).dyn v = _
    rw [dyn_onMove]
    by_cases h : v = e.valve
    · subst h; rw [if_pos rfl]; exact (if_pos rfl).symm
    · rw [if_neg h]; exact (if_neg fun e => h e.symm).symm
  | poll => rfl
  | probe => rfl

theorem engine_acknowledges (kind : ExchangeKind) (s : State) : (acknowledges kind s).engine = s.engine := by
  cases kind <;> rfl

section channels

variable (l : Line) (a : Nat) (reply : StationReply) (x : Reading)

theorem turns_takeChannel (s : State) (c : Nat) : Turns s (takeChannel l a reply x s c) := by
  unfold takeChannel
  split
  · exact turns_takeReport _ _ _ x s
  · exact .refl s

theorem turns_takeChannels (cs : List Nat) (s : State) : Turns s (cs.foldl (takeChannel l a reply x) s) :=
  Turns.foldl (turns_takeChannel l a reply x) cs s

theorem calm_takeChannels (hr : reply.Fits) (cs : List Nat) (s : State) :
    Calm s (cs.foldl (takeChannel l a reply x) s) :=
  Calm.foldl (fun s c => by
    unfold takeChannel
    split
    · exact calm_takeReport _ _ (hr.position c) x s
    · exact .refl s) cs s

/-- What the reports of other channels leave of a valve. -/
structure Untouched (v : Nat) (s t : State) : Prop where
  record : t.dyn v = s.dyn v
  closing : ∀ k n, (s.dyn v).confirmed = false →
    (∃ i, s.slot k = some i ∧ i.number = n ∧ i.state = .closing ∧ v ∈ i.boundary) →
    ∃ i, t.slot k = some i ∧ i.number = n ∧ i.state = .closing ∧ v ∈ i.boundary

namespace Untouched

variable {v : Nat} {s t u : State}

theorem refl (v : Nat) (s : State) : Untouched v s s := ⟨rfl, fun _ _ _ h => h⟩

theorem trans (h : Untouched v s t) (h' : Untouched v t u) : Untouched v s u where
  record := h'.record.trans h.record
  closing k n hconf hi := h'.closing k n (by rw [h.record]; exact hconf) (h.closing k n hconf hi)

end Untouched

variable {l a reply x}

theorem untouched_takeReport {v w : Nat} {p : ActuatedPart} (hw : w ≠ v) (r : ChannelReport) (s : State) :
    Untouched v s (takeReport w p r x s) := by
  have hturn := turn_takeReport (v := w) (p := p) r x s
  have hshow : Untouched v s (showPosition w r.position s) :=
    ⟨(dyn_onDyn s w v _).trans (if_neg hw.symm), fun _ _ _ h => h⟩
  exact hshow.trans ⟨(turnLeft hturn).other v hw.symm, fun k n hconf hi => turn_closing hturn hw.symm hconf hi⟩

/-- 04 R85: the reports of channels that the valve does not name. -/
theorem untouched_takeChannels {v : Nat} {cs : List Nat} {s : State}
    (h : ∀ c' ∈ cs, ∀ p, s.valveOfChannel l a c' ≠ some (v, p)) :
    Untouched v s (cs.foldl (takeChannel l a reply x) s) := by
  induction cs generalizing s with
  | nil => exact .refl v s
  | cons c' cs ih =>
    have hturns := turns_takeChannel l a reply x s c'
    refine Untouched.trans ?_ (ih fun c'' hm p => by
      rw [hturns.valveOfChannel]; exact h c'' (List.mem_cons_of_mem _ hm) p)
    have hno := h c' List.mem_cons_self
    unfold takeChannel
    split
    · next w p hw => exact untouched_takeReport (fun e => by subst e; exact hno p hw) _ s
    · exact .refl v s

theorem valveOfChannel_actuated {s : State} (hm : Table.Wf s.map.valves) {c v : Nat} {p : ActuatedPart}
    (h : s.valveOfChannel l a c = some (v, p)) : s.actuated v = some p ∧ (v, p) ∈ s.valvesOfLine l := by
  have hact := (mem_actuatedValves hm).1 (List.mem_of_find?_eq_some h)
  exact ⟨hact, (mem_valvesOfLine hm).2 ⟨hact, (valveOfChannel_part h).1⟩⟩

/-- A valve names one channel. -/
theorem valveOfChannel_inj {s : State} (hm : Table.Wf s.map.valves) {c c' v : Nat} {p p' : ActuatedPart}
    (h : s.valveOfChannel l a c = some (v, p)) (h' : s.valveOfChannel l a c' = some (v, p')) : c = c' := by
  have hact := (valveOfChannel_actuated hm h).1
  rw [(valveOfChannel_actuated hm h').1] at hact
  cases hact
  exact (valveOfChannel_part h).2.2.symm.trans (valveOfChannel_part h').2.2

/-- The channels before and after one. -/
theorem channels_split {c : Nat} (h1 : 1 ≤ c) (h4 : c ≤ 4) :
    ∃ before after, allChannels = before ++ c :: after ∧ c ∉ before ∧ c ∉ after := by
  obtain ⟨before, after, hsplit⟩ := List.append_of_mem (show c ∈ allChannels by
    simp only [allChannels, List.mem_cons, List.not_mem_nil, or_false]; omega)
  have hnodup : (before ++ c :: after).Nodup := by rw [← hsplit]; decide
  exact ⟨before, after, hsplit, fun hm => (List.nodup_append.1 hnodup).2.2 c hm c List.mem_cons_self rfl,
    (List.nodup_cons.1 (List.nodup_append.1 hnodup).2.1).1⟩

/-- 04 R85: a valve's own report among those of its station's channels. -/
theorem takeChannels_own {s : State} (hm : Table.Wf s.map.valves) {c v : Nat} {p : ActuatedPart} (h1 : 1 ≤ c) (h4 : c ≤ 4)
    (hv : s.valveOfChannel l a c = some (v, p)) :
    ∃ b, Untouched v s b ∧ Turns s b ∧ (reply.Fits → Calm s b)
      ∧ Untouched v (takeReport v p (reply.channels.get c) x b) (allChannels.foldl (takeChannel l a reply x) s)
      ∧ Turns (takeReport v p (reply.channels.get c) x b) (allChannels.foldl (takeChannel l a reply x) s)
      ∧ (reply.Fits → Calm (takeReport v p (reply.channels.get c) x b) (allChannels.foldl (takeChannel l a reply x) s)) := by
  obtain ⟨before, after, hsplit, hbefore, hafter⟩ := channels_split h1 h4
  have hno {c' : Nat} (hne : c' ≠ c) (p' : ActuatedPart) : s.valveOfChannel l a c' ≠ some (v, p') :=
    fun h => hne (valveOfChannel_inj hm h hv)
  have hpre : Untouched v s (before.foldl (takeChannel l a reply x) s) :=
    untouched_takeChannels fun c' hc' => hno fun e => hbefore (e ▸ hc')
  have hturns := turns_takeChannels l a reply x before s
  have hcalm := fun hr => calm_takeChannels l a reply x hr before s
  rw [hsplit, List.foldl_append, List.foldl_cons]
  generalize before.foldl (takeChannel l a reply x) s = b at hpre hturns hcalm
  have hown : takeChannel l a reply x b c = takeReport v p (reply.channels.get c) x b := by
    unfold takeChannel; rw [hturns.valveOfChannel, hv]
  rw [hown]
  have hboth := hturns.trans (turns_takeReport v p (reply.channels.get c) x b)
  refine ⟨b, hpre, hturns, hcalm, ?_, turns_takeChannels l a reply x after _, fun hr => calm_takeChannels l a reply x hr after _⟩
  refine untouched_takeChannels fun c' hc' p' => ?_
  rw [hboth.valveOfChannel]
  exact hno (fun e => hafter (e ▸ hc')) p'

end channels

/-- 04 R98: the report of a valve without a move issues no command. -/
theorem takeReport_unmoved {v : Nat} {p : ActuatedPart} {r : ChannelReport} {x : Reading} {s : State}
    (h : (s.dyn v).move = none) :
    takeReport v p r x s = showConfirmed v r.position (showPosition v r.position s) := by
  have hshow : ((showPosition v r.position s).dyn v).move = none := by rw [showPosition, dyn_onDyn_same]; exact h
  have hmove := (turnLeft (turn_showConfirmed (p := p) r.position (showPosition v r.position s))).own.unmoved hshow
  rw [takeReport_eq]
  unfold judgeMove
  rw [hmove]

/-! ### The closed-confirmed flag (04 R86, R116) -/

/-- 04 R86: the flag is written, and the planner told. -/
def flagWritten (v : Nat) (value : Bool) (s : State) : State := markStale (writeConfirmed v value s)

/-- 04 R116: a held valve without a move loses the flag. -/
def State.losesClosed (s : State) (v : Nat) (value : Bool) : Bool :=
  !value && (s.dyn v).move.isNone && !(s.dyn v).holders.isEmpty

theorem dyn_flagWritten (v : Nat) (value : Bool) (s : State) : (flagWritten v value s).dyn v
    = { s.dyn v with
        confirmed := value
        toldUnreachable := (s.dyn v).toldUnreachable && !(value && !s.reachable v) } :=
  dyn_onDyn_same s v fun d => { d with
    confirmed := value, toldUnreachable := d.toldUnreachable && !(value && !s.reachable v) }

section flag

variable {v : Nat} {value : Bool} {s : State}

theorem losesClosed_flagWritten : (flagWritten v value s).losesClosed v value = s.losesClosed v value := by
  unfold State.losesClosed; rw [dyn_flagWritten]

/-- 04 R116: the engine has the change, after the report of a lost flag. -/
def flagTold (v : Nat) (value : Bool) (s : State) : State :=
  confirmedNotice v value
    (if s.losesClosed v value then raiseOffNormal v reopened (flagWritten v value s) else flagWritten v value s)

theorem setConfirmed_eq : setConfirmed v value s
    = if (s.dyn v).confirmed = value then s
      else if (s.losesClosed v value && (flagTold v value s).inLocalControl v
          && !((flagTold v value s).dyn v).toldUnreachable) = true then failUnreachable v (flagTold v value s)
      else flagTold v value s := by
  unfold flagTold
  rw [← losesClosed_flagWritten]
  rfl

theorem onlyNotices_flagTold : OnlyNotices (flagWritten v value s) (flagTold v value s) := by
  unfold flagTold
  refine OnlyNotices.trans ?_ (onlyNotices_confirmedNotice v value _)
  split
  · rfl
  · rfl

theorem dyn_flagTold : (flagTold v value s).dyn v
    = { s.dyn v with
        confirmed := value
        toldUnreachable := (s.dyn v).toldUnreachable && !(value && !s.reachable v) } :=
  (onlyNotices_flagTold.dyn v).trans (dyn_flagWritten v value s)

end flag

end Sys2Proof.Machine
end

section
/-! PROOFS. What the supervisor hands on of a good reply, and what the valve drive and the line controller then take (05 R128;
06 R150). -/

namespace Sys2Proof.Machine

open Sys2Proof

/-! ### What the supervisor hands on (06 R150) -/

/-- 05 R128: a good reply as the supervisor takes it, with the change of reachability handed on. -/
def goodHanded (l : Line) (x : Exchange) (reply : StationReply) (s : State) : State :=
  handReach l (exchangeOver l s) (superviseGood l x.address reply (exchangeOver l s))

/-- 05 R128: a good reply as the valve drive and the line controller take it. -/
def goodTaken (l : Line) (x : Exchange) (reply : StationReply) (s : State) : State :=
  reofferRefused l (reschedule l x true (driveTakes l x reply (goodHanded l x reply s)))

theorem completeExchange_good (l : Line) (x : Exchange) (reply : StationReply) (s : State) :
    completeExchange l x (.good reply) s = quiesceDone (settle (goodTaken l x reply s)) := rfl

theorem quiet_exchangeOver (l : Line) (s : State) : Quiet s (exchangeOver l s) := by
  unfold exchangeOver
  exact quiet_onControl_same (fun _ => rfl) (fun _ => rfl) fun _ => rfl

/-- What the supervisor and the change of reachability make of a good reply. -/
structure GoodHanded (l : Line) (x : Exchange) (reply : StationReply) (s t : State) : Prop where
  map : t.map = s.map
  store : t.store = s.store
  station : t.station l x.address = (s.station l x.address).replied reply (s.pressureOf l x.address reply)
  serial : s.drive.serial ≤ t.drive.serial
  moves : MovesGoOn s t
  engaged : Engaged s t
  parts : ∀ p : ActuatedPart, p.line = l → p.address = x.address → t.partReachable p
    = ((s.control.get l).enabled && decide ((s.supply.get l).state = .on)
      && Table.has s.map.stations (stationKey l x.address) && (s.station l x.address).heard.state != .offline
      && !(reply.channels.get p.channel).localControl)
  kept : ∀ v, (s.reachable v = true → t.reachable v = true) → t.dyn v = s.dyn v
  lost : s.SlotsSound → Table.Wf s.map.valves → ∀ v p, (v, p) ∈ s.valvesOfLine l → s.reachable v = true →
    t.reachable v = false → t.dyn v = s.lostDyn v
  calm : reply.Fits → Calm s t

theorem goodHanded_spec (l : Line) (x : Exchange) (reply : StationReply) (s : State) :
    GoodHanded l x reply s (goodHanded l x reply s) := by
  have hset := stationSet_superviseGood l x.address reply (exchangeOver l s)
  have hpart := partReachable_superviseGood (reply := reply) (s := exchangeOver l s) l
  have hcalm (hr : reply.Fits) : Calm s (goodHanded l x reply s) :=
    (Calm.quiet (quiet_exchangeOver l s)).trans
      (calm_superviseCompletion l x.address (c := .good reply) (fun _ e => by cases e; exact hr) (exchangeOver l s))
  have henabled : ((exchangeOver l s).control.get l).enabled = (s.control.get l).enabled := by simp [exchangeOver]
  have hreachable := reachable_exchangeOver l s
  have h0 : exchangeOver l s = { s with control := (exchangeOver l s).control } := rfl
  unfold goodHanded at *
  generalize exchangeOver l s = s0 at *
  obtain ⟨hdrive, hengine, hmap, hstore⟩ : (superviseGood l x.address reply s0).drive = s.drive
      ∧ (superviseGood l x.address reply s0).engine = s.engine ∧ (superviseGood l x.address reply s0).map = s.map
      ∧ (superviseGood l x.address reply s0).store = s.store := by
    rw [hset.supervised.only, h0]; exact ⟨rfl, rfl, rfl, rfl⟩
  have hstation : (superviseGood l x.address reply s0).station l x.address
      = (s.station l x.address).replied reply (s.pressureOf l x.address reply) := by
    rw [hset.station, h0]; rfl
  have hparts (p : ActuatedPart) (hl : p.line = l) (ha : p.address = x.address) :
      (superviseGood l x.address reply s0).partReachable p
        = ((s.control.get l).enabled && decide ((s.supply.get l).state = .on)
          && Table.has s.map.stations (stationKey l x.address) && (s.station l x.address).heard.state != .offline
          && !(reply.channels.get p.channel).localControl) := by
    rw [← ha, hpart p hl, henabled, h0]; rfl
  generalize superviseGood l x.address reply s0 = u at *
  have hdyn (v : Nat) : u.dyn v = s.dyn v := by rw [State.dyn, hdrive]; rfl
  have hturns := turns_handReach l s0 u
  have hlines := hturns.lines
  refine ⟨hturns.map.trans hmap, ?_, ?_, ?_, fun v m hm => ?_, (Engaged.of_engine hengine).trans hturns.engaged,
    fun p hl ha => ?_, fun v h => ?_, fun hs hm v p hv hr hnow => ?_, hcalm⟩
  · rw [hlines.only]; exact hstore
  · rw [← hstation, hlines.only]; rfl
  · rw [← hdrive]; exact hturns.serial
  · obtain ⟨m', hm', h⟩ := hturns.moves v m hm
    exact ⟨m', by rw [← hdyn]; exact hm', h⟩
  · rw [hlines.partReachable]; exact hparts p hl ha
  · rw [← hdyn]
    exact handReach_same fun hb => (hlines.reachable v).symm.trans (h ((hreachable v).symm.trans hb))
  · have hv' : (v, p) ∈ u.valvesOfLine l := by rw [State.valvesOfLine, State.actuatedValves, hmap]; exact hv
    obtain ⟨hlost, -⟩ := handReach_lost (before := s0) (s := u) (by rw [State.SlotsSound, hengine]; exact hs)
      (by rw [hmap]; exact hm) hv' ((hreachable v).trans hr) ((hlines.reachable v).symm.trans hnow)
    exact hlost.trans (lostDyn_of_eq hdrive hengine v)

end Sys2Proof.Machine
end

section
/-! PROOFS. A good reply at one valve: what comes before the valve's own report and what follows it to the end of the step (04
R85, R94; 05 R135). -/

namespace Sys2Proof.Machine

open Sys2Proof

theorem acked_unmoved {d : ValveDyn} (h : d.move = none) (kind : ExchangeKind) (v : Nat) : d.acked kind v = d := by
  cases kind with
  | command e =>
    unfold ValveDyn.acked
    dsimp only
    split
    · rw [h, Option.map_none, ← h]
    · rfl
  | poll => rfl
  | probe => rfl

theorem acked_follows (d : ValveDyn) (kind : ExchangeKind) (v : Nat) : (d.acked kind v).move.isSome = d.move.isSome
    ∧ (d.acked kind v).confirmed = d.confirmed ∧ (d.acked kind v).operability = d.operability
    ∧ (d.acked kind v).holders = d.holders := by
  cases kind with
  | command e =>
    unfold ValveDyn.acked
    dsimp only
    split
    · exact ⟨Option.isSome_map, rfl, rfl, rfl⟩
    · exact ⟨rfl, rfl, rfl, rfl⟩
  | poll => exact ⟨rfl, rfl, rfl, rfl⟩
  | probe => exact ⟨rfl, rfl, rfl, rfl⟩

/-- 05 R135, R94: the controller times the poll entry anew and offers commands again. -/
def rescheduled (l : Line) (x : Exchange) (s : State) : State := reofferRefused l (reschedule l x true s)

/-- The controller's part leaves everything but the line controllers, and which lines are enabled. -/
theorem rescheduled_spec (l : Line) (x : Exchange) (s : State) : rescheduled l x s = { s with control := (rescheduled l x s).control }
    ∧ ∀ v, (rescheduled l x s).reachable v = s.reachable v := by
  have hresch := reschedule_only l x true s
  have henabled : ∀ k, ((reschedule l x true s).control.get k).enabled = (s.control.get k).enabled := by
    intro k
    unfold reschedule; dsimp only
    split
    · exact enabled_onPollEntry l _ _ s k
    · exact enabled_onPollEntry l _ _ s k
    · split
      · exact enabled_onPollEntry l _ _ s k
      · rfl
  have hreach (v : Nat) : (reschedule l x true s).reachable v = s.reachable v := by
    have hact : (reschedule l x true s).actuated v = s.actuated v := by rw [hresch]; rfl
    unfold State.reachable
    rw [hact]
    cases s.actuated v with
    | none => rfl
    | some p =>
      change (reschedule l x true s).partReachable p = s.partReachable p
      unfold State.partReachable
      rw [henabled, hresch]
      rfl
  have hoffer := queuesOnly_reofferRefused l (reschedule l x true s)
  refine ⟨?_, fun v => ((driven_reofferRefused l _).reachable v).trans (hreach v)⟩
  unfold rescheduled
  rw [hoffer.only, hresch]

theorem quiet_rescheduled (l : Line) (x : Exchange) (s : State) : Quiet s (rescheduled l x s) :=
  (quiet_reschedule _ _ _ _).trans (quiet_reofferRefused _ _)

theorem quiet_acknowledges (kind : ExchangeKind) (s : State) : Quiet s (acknowledges kind s) := by
  cases kind with
  | command e => exact quiet_onMove _ _ _
  | poll => exact .refl s
  | probe => exact .refl s

/-- A valve's own report in the course of a good reply: `b` is the state that it finds, `w` the state to which the step then
settles. -/
structure OwnReport (l : Line) (x : Exchange) (reply : StationReply) (c v : Nat) (p : ActuatedPart) (s b w : State) : Prop where
  found : b.dyn v = (goodHanded l x reply s).dyn v
  turns : Turns (goodHanded l x reply s) b
  before : Calm s b
  engaged : Engaged s b
  moves : MovesGoOn s b
  record : w.dyn v = ((takeReport v p (reply.channels.get c) (s.pressureOf l x.address reply) b).dyn v).acked x.kind v
  after : Calm (takeReport v p (reply.channels.get c) (s.pressureOf l x.address reply) b) w
  goOn : MovesGoOn (takeReport v p (reply.channels.get c) (s.pressureOf l x.address reply) b) w
  only : w.map = s.map ∧ w.store = s.store
  reachable : ∀ u, w.reachable u = (goodHanded l x reply s).reachable u
  closing : ∀ k n, ((takeReport v p (reply.channels.get c) (s.pressureOf l x.address reply) b).dyn v).confirmed = false →
    (∃ i, (takeReport v p (reply.channels.get c) (s.pressureOf l x.address reply) b).slot k = some i ∧ i.number = n
      ∧ i.state = .closing ∧ v ∈ i.boundary) →
    ∃ i, w.slot k = some i ∧ i.number = n ∧ i.state = .closing ∧ v ∈ i.boundary

theorem ownReport {l : Line} {x : Exchange} {reply : StationReply} (hfits : reply.Fits) {c v : Nat} {p : ActuatedPart} {s : State}
    (hm : Table.Wf s.map.valves) (h1 : 1 ≤ c) (h4 : c ≤ 4) (hv : s.valveOfChannel l x.address c = some (v, p)) :
    ∃ b, OwnReport l x reply c v p s b (goodTaken l x reply s) := by
  have hhand := goodHanded_spec l x reply s
  have htaken : goodTaken l x reply s = rescheduled l x (driveTakes l x reply (goodHanded l x reply s)) := rfl
  rw [htaken, driveTakes_eq]
  have hcalm := hhand.calm hfits
  have hmap := hhand.map
  have hstore := hhand.store
  have hpressure : (goodHanded l x reply s).pressureOf l x.address reply = s.pressureOf l x.address reply := by
    unfold State.pressureOf; rw [hmap]
  have hmoves := hhand.moves
  have hengaged := hhand.engaged
  have hchannel : (goodHanded l x reply s).valveOfChannel l x.address c = some (v, p) := by
    rw [← hv]; unfold State.valveOfChannel State.actuatedValves; rw [hmap]
  rw [hpressure]
  generalize hg : goodHanded l x reply s = g at *
  obtain ⟨b, hbefore, hturns, hb, hafter, hturns', hw⟩ := takeChannels_own (reply := reply)
    (x := s.pressureOf l x.address reply) (by rw [hmap]; exact hm) h1 h4 hchannel
  have hown := turns_takeReport v p (reply.channels.get c) (s.pressureOf l x.address reply) b
  generalize hk : takeReport v p (reply.channels.get c) (s.pressureOf l x.address reply) b = k at *
  generalize allChannels.foldl (takeChannel l x.address reply (s.pressureOf l x.address reply)) g = w at *
  have hack := turns_acknowledges x.kind w
  obtain ⟨honly, hreach⟩ := rescheduled_spec l x (acknowledges x.kind w)
  have hresched := quiet_rescheduled l x (acknowledges x.kind w)
  have hdyn (u : Nat) : (rescheduled l x (acknowledges x.kind w)).dyn u = (w.dyn u).acked x.kind u := by
    rw [honly]; exact dyn_acknowledges x.kind w u
  have hall := ((hturns.trans hown).trans hturns').trans hack
  subst hg hk
  refine ⟨b, hbefore.record, hturns, hcalm.trans (hb hfits), hengaged.trans hturns.engaged, fun u m hu => ?_, ?_, ?_, ?_, ?_,
    fun u => ?_, fun j n hconf hi => ?_⟩
  · obtain ⟨m', hm', hd, hs⟩ := hturns.moves u m hu
    obtain ⟨m'', hm'', hd', hs'⟩ := hmoves u m' hm'
    exact ⟨m'', hm'', hd.trans hd', hs.trans hs'⟩
  · rw [hdyn, hafter.record]
  · exact (hw hfits).trans (.quiet ((quiet_acknowledges x.kind w).trans hresched))
  · intro u m hu
    have hu' : ((acknowledges x.kind w).dyn u).move = some m := by rw [honly] at hu; exact hu
    exact (hturns'.trans hack).moves u m hu'
  · rw [honly]
    have hwstore : (acknowledges x.kind w).store = (goodHanded l x reply s).store := by rw [hall.lines.only]
    exact ⟨hall.map.trans hmap, hwstore.trans hstore⟩
  · exact (hreach u).trans (hall.lines.reachable u)
  · obtain ⟨i, hi, hn⟩ := hafter.closing j n hconf hi
    refine ⟨i, ?_, hn⟩
    rw [honly, ← hi]
    unfold State.slot
    exact congrArg (fun e => Table.get e.slots j) (engine_acknowledges x.kind w)

end Sys2Proof.Machine
end

section
/-! PROOFS. What a good reply makes of the record of a valve with a move, phase by phase (04 R98 to R112, R117). -/

namespace Sys2Proof.Machine

open Sys2Proof

/-! ### The records of a move judged by a reply -/

/-- 04 R85, R86: a record that has taken a known position. -/
def ValveDyn.shown (d : ValveDyn) (n : Nat) : ValveDyn := { d with position := some n, confirmed := decide (995 ≤ n) }

/-- 04 R101: a record whose move has a DRIVE with a timer of its own. -/
def ValveDyn.onDrive (d : ValveDyn) (motion : Motion) (target rate preset serial : Nat) (m : Move) : ValveDyn :=
  { d with
    motion := motion
    move := some { m with
      phaseTarget := target, rate := rate, standing := .stopped, command := some ⟨.drive target rate, serial, false⟩
      setsTimer := some (serial, preset) } }

/-- 04 R98: a record whose closing move is driven in the band of a position. -/
def ValveDyn.onBand (d : ValveDyn) (p : ActuatedPart) (n serial : Nat) (m : Move) : ValveDyn :=
  if n < p.throttlePoint then d.onDrive .closingFast p.throttlePoint p.fast (timerOf (p.closeTime n)) serial m
  else d.onDrive .closingSlow 1000 p.slow (timerOf (p.closeTime n)) serial m

/-- 04 R111: a record whose opening move is driven in the phase of a position. -/
def ValveDyn.onOpening (d : ValveDyn) (p : ActuatedPart) (n serial : Nat) (m : Move) : ValveDyn :=
  if 1000 - p.chargeOpening < n then
    d.onDrive .charging (1000 - p.chargeOpening) p.slow (timerOf (p.chargeTime n)) serial m
  else d.onDrive .opening 0 p.fast (timerOf (ceilDiv n p.fast)) serial m

/-- 04 R106: a record whose move backs off from a position. -/
def ValveDyn.onBackoff (d : ValveDyn) (p : ActuatedPart) (n serial : Nat) (m : Move) : ValveDyn :=
  { d with
    motion := .backoff
    move := some { m with
      retriesUsed := m.retriesUsed + 1
      resume := if d.motion = .backoff then m.resume else some d.motion
      standing := if m.standing = .frozen then .running else m.standing
      phaseTarget := backoffTarget m.direction (some n), rate := p.fast
      command := some ⟨.drive (backoffTarget m.direction (some n)) p.fast, serial, false⟩ } }

/-- 04 R100, R112: a record whose move has completed. -/
def ValveDyn.done (d : ValveDyn) : ValveDyn :=
  { d with motion := .idle, move := none, operability := d.operability.redeemed }

/-- 04 R107: a record whose move has failed. -/
def ValveDyn.failed (d : ValveDyn) : ValveDyn := { d with motion := .idle, move := none, operability := .inoperable }

theorem ValveDyn.onDrive_moved (d : ValveDyn) (x : Option Move) (motion : Motion) (target rate preset serial : Nat) (m : Move) :
    ({ d with move := x } : ValveDyn).onDrive motion target rate preset serial m
      = d.onDrive motion target rate preset serial m := rfl

theorem ValveDyn.onBand_moved (d : ValveDyn) (x : Option Move) (p : ActuatedPart) (n serial : Nat) (m : Move) :
    ({ d with move := x } : ValveDyn).onBand p n serial m = d.onBand p n serial m := by
  unfold ValveDyn.onBand; split <;> rfl

theorem ValveDyn.onOpening_moved (d : ValveDyn) (x : Option Move) (p : ActuatedPart) (n serial : Nat) (m : Move) :
    ({ d with move := x } : ValveDyn).onOpening p n serial m = d.onOpening p n serial m := by
  unfold ValveDyn.onOpening; split <;> rfl

theorem ValveDyn.done_moved (d : ValveDyn) (x : Option Move) : ({ d with move := x } : ValveDyn).done = d.done := rfl

theorem ValveDyn.onBackoff_moved (d : ValveDyn) (x : Option Move) (p : ActuatedPart) (n serial : Nat) (m : Move) :
    ({ d with move := x } : ValveDyn).onBackoff p n serial m = d.onBackoff p n serial m := rfl

theorem ValveDyn.driven_eq {d : ValveDyn} {m : Move} (hm : d.move = some m) (motion : Motion)
    (target rate preset serial : Nat) : d.driven motion target rate serial preset = d.onDrive motion target rate preset serial m := by
  unfold ValveDyn.driven; rw [hm]; rfl

/-! ### The steps of a judgement -/

section steps

variable {v : Nat} {p : ActuatedPart} {m : Move} {s : State}

theorem dyn_onMove_of (hm : (s.dyn v).move = some m) (f : Move → Move) :
    (onMove v f s).dyn v = { s.dyn v with move := some (f m) } := by
  rw [dyn_onMove, if_pos rfl, hm]; rfl

theorem dyn_driveBand {n : Nat} (hm : (s.dyn v).move = some m) (hn : (s.dyn v).position = some n) :
    (driveBand v p s).dyn v = (s.dyn v).onBand p n s.drive.serial m := by
  have hget : (s.dyn v).position.getD 0 = n := by rw [hn]; rfl
  unfold ValveDyn.onBand
  split
  · next h => rw [dyn_driveBand_fast (hget.symm ▸ h), hget]; exact ValveDyn.driven_eq hm ..
  · next h => rw [dyn_driveBand_slow (hget.symm ▸ Nat.not_lt.1 h), hget]; exact ValveDyn.driven_eq hm ..

theorem dyn_resumeClosing {n : Nat} (hm : (s.dyn v).move = some m) (hn : (s.dyn v).position = some n) (m' : Move) :
    (resumeClosing v p m' s).dyn v = if 995 ≤ n then (s.dyn v).done else (s.dyn v).onBand p n s.drive.serial m := by
  have hget : (s.dyn v).position.getD 0 = n := by rw [hn]; rfl
  split
  · next h => rw [resumeClosing_closed (hget.symm ▸ h)]; exact dyn_completeClosing v p m' s
  · next h => rw [resumeClosing_open (hget.symm ▸ Nat.not_le.1 h)]; exact dyn_driveBand hm hn

theorem dyn_changeBand (hm : (s.dyn v).move = some m) : (changeBand v p s).dyn v
    = { s.dyn v with
        motion := .closingSlow
        move := some { m with
          phaseTarget := 1000, rate := p.slow, command := some ⟨.drive 1000 p.slow, s.drive.serial, false⟩ } } := by
  unfold changeBand
  rw [dyn_issueUntimed, if_pos rfl, setMotion, dyn_onDyn_same]
  dsimp only
  rw [hm]
  rfl

theorem dyn_holdMove (hm : (s.dyn v).move = some m) (m' : Move) (q : Nat) : (holdMove v p m' q s).dyn v
    = { s.dyn v with
        motion := .holding
        move := some { m with
          standing := .frozen, setsTimer := none, holdStart := s.reports.timeBase, holdElapsed := 0
          stallReported := false, tripNoted := false, notesTrips := m.driveAcked
          command := some ⟨.stop, s.drive.serial, false⟩ } } := by
  have hset : ((setMotion v .holding s).dyn v) = { s.dyn v with motion := .holding } := dyn_onDyn_same s v _
  unfold holdMove
  dsimp only
  rw [dyn_raise, dyn_issue, if_pos rfl, dyn_onMove_of (m := m) (by rw [hset]; exact hm), hset]
  rfl

theorem dyn_driveOpen (n : Nat) (hm : (s.dyn v).move = some m) : (driveOpen v p n s).dyn v
    = (s.dyn v).onDrive .opening 0 p.fast (timerOf (ceilDiv n p.fast)) s.drive.serial m :=
  (dyn_drivePhase v p _ _ _ _ s).trans (ValveDyn.driven_eq hm ..)

theorem dyn_driveOpening {n : Nat} (hm : (s.dyn v).move = some m) (hn : (s.dyn v).position = some n) :
    (driveOpening v p s).dyn v = (s.dyn v).onOpening p n s.drive.serial m := by
  have hget : (s.dyn v).position.getD 1000 = n := by rw [hn]; rfl
  have hcharge : (driveCharge v p s).dyn v
      = (s.dyn v).onDrive .charging (1000 - p.chargeOpening) p.slow (timerOf (p.chargeTime n)) s.drive.serial m := by
    unfold driveCharge
    dsimp only
    rw [hget]
    exact (dyn_drivePhase v p _ _ _ _ s).trans (ValveDyn.driven_eq hm ..)
  have hopen := dyn_driveOpen (p := p) n hm
  have htarget : p.chargeTarget = 1000 - p.chargeOpening := rfl
  unfold driveOpening ValveDyn.onOpening
  dsimp only
  rw [hget, ← hcharge, ← hopen, htarget]
  exact apply_ite (fun t : State => t.dyn v) _ _ _

theorem dyn_completeCharge {n : Nat} (hm : (s.dyn v).move = some m) (hn : (s.dyn v).position = some n) :
    (completeCharge v p s).dyn v
      = if p.chargeDwell = 0 then
          (s.dyn v).onDrive .opening 0 p.fast (timerOf (ceilDiv (min n (1000 - p.chargeOpening)) p.fast)) s.drive.serial
            { m with timerLeft := 0, dwellLeft := 0 }
        else { s.dyn v with
          motion := .dwell
          move := some { m with
            command := none, timerLeft := 0, standing := .stopped, setsTimer := none, dwellLeft := p.chargeDwell * 1000 } } := by
  unfold completeCharge
  split
  · have h1 := dyn_onMove_of hm fun m => { m with timerLeft := 0 }
    have h2 := dyn_onMove_of (s := onMove v (fun m => { m with timerLeft := 0 }) s) (m := { m with timerLeft := 0 })
      (by rw [h1]) fun m => { m with dwellLeft := 0 }
    unfold endDwell
    have hget : ((onMove v (fun m => { m with timerLeft := 0 }) s).dyn v).position.getD 1000 = n := by rw [h1, hn]; rfl
    rw [hget, dyn_driveOpen (m := { m with timerLeft := 0, dwellLeft := 0 }) _ (by rw [h2]), h2, h1, ValveDyn.onDrive_moved,
      ValveDyn.onDrive_moved]
    rfl
  · unfold beginDwell
    have hset : ((setMotion v .dwell (withdraw v p s)).dyn v) = { s.dyn v with motion := .dwell } :=
      dyn_onDyn_same (withdraw v p s) v _
    rw [dyn_onMove_of (m := m) (by rw [hset]; exact hm), hset]

theorem dyn_completeOpening (m' : Move) : (completeOpening v p m' s).dyn v = (s.dyn v).done := by
  unfold completeOpening
  dsimp only
  rw [dyn_raise, (redeem_spec v _).same, endMove, clearMove, dyn_onDyn_same]
  rfl

theorem dyn_torqueTrip_retry {n : Nat} {m' : Move} (hm : (s.dyn v).move = some m) (hn : (s.dyn v).position = some n)
    (hdir : m'.direction = m.direction) (hused : m'.retriesUsed = m.retriesUsed)
    (h : m.retriesUsed < p.torqueRetries) :
    (torqueTrip v p m' s).dyn v = (s.dyn v).onBackoff p n s.drive.serial m := by
  have hset : ((setMotion v .backoff s).dyn v) = { s.dyn v with motion := .backoff } := dyn_onDyn_same s v _
  unfold torqueTrip
  rw [if_pos (hused ▸ h)]
  dsimp only
  rw [dyn_issueUntimed, if_pos rfl, dyn_onMove_of (m := m) (by rw [hset]; exact hm), hset]
  dsimp only
  rw [hn, hdir, Option.map_some]
  unfold ValveDyn.onBackoff
  rw [← hn]
  rfl

theorem dyn_torqueTrip_fail {m' : Move} (h : ¬m'.retriesUsed < p.torqueRetries) :
    (torqueTrip v p m' s).dyn v = (s.dyn v).failed := by
  unfold torqueTrip
  rw [if_neg h, (onlyNotices_failedMove v m' _ _).dyn, endMove, clearMove, dyn_onDyn_same]
  change { (setOperability v .inoperable s).dyn v with move := none, motion := .idle } = _
  rw [(setOperability_spec v .inoperable s).1.same]
  rfl

theorem dyn_endBackoff_close {n : Nat} (hm : (s.dyn v).move = some m) (hn : (s.dyn v).position = some n)
    (hdir : m.direction = .close) : (endBackoff v p m s).dyn v
      = if 995 ≤ n then (s.dyn v).done else (s.dyn v).onBand p n s.drive.serial { m with resume := none } := by
  have h := dyn_onMove_of hm fun m => { m with resume := none }
  rw [show endBackoff v p m s = resumeClosing v p m (onMove v (fun m => { m with resume := none }) s) from by
      unfold endBackoff; rw [hdir],
    dyn_resumeClosing (m := { m with resume := none }) (by rw [h]) (by rw [h]; exact hn), h, ValveDyn.onBand_moved,
    ValveDyn.done_moved]
  rfl

theorem dyn_endBackoff_open {n : Nat} (hm : (s.dyn v).move = some m) (hn : (s.dyn v).position = some n)
    (hdir : m.direction = .openUp) : (endBackoff v p m s).dyn v
      = (s.dyn v).onOpening p n s.drive.serial { m with resume := none } := by
  have h := dyn_onMove_of hm fun m => { m with resume := none }
  rw [show endBackoff v p m s = driveOpening v p (onMove v (fun m => { m with resume := none }) s) from by
      unfold endBackoff; rw [hdir],
    dyn_driveOpening (m := { m with resume := none }) (by rw [h]) (by rw [h]; exact hn), h, ValveDyn.onOpening_moved]
  rfl

end steps

/-! ### The tests of a judgement -/

/-- 04 R106: the move's DRIVE was acknowledged before, and the reply shows a trip. -/
def Move.Seen (m : Move) (trip : Bool) : Prop :=
  trip = true ∧ ∃ target rate serial, m.command = some ⟨.drive target rate, serial, true⟩

theorem seesTrip_iff (m : Move) (n : Reading) (moving trip lc : Bool) :
    m.seesTrip ⟨n, moving, trip, lc⟩ = true ↔ m.Seen trip := by
  unfold Move.seesTrip Move.Seen
  rw [Bool.and_eq_true]
  refine and_congr_right fun _ => ?_
  cases m.command with
  | none => simp
  | some c =>
    obtain ⟨kind, serial, acked⟩ := c
    cases kind with
    | stop => simp
    | drive target rate => cases acked <;> simp

/-- 04 R102: the surge condition of a guarded valve. -/
def State.Surges (s : State) (p : ActuatedPart) (pressure : Reading) : Prop :=
  s.guarded p = true ∧ ∃ q, pressure = some q ∧ p.surgeCeiling < q

theorem surges_iff (s : State) (p : ActuatedPart) (pressure : Reading) :
    (s.guarded p && surging p pressure) = true ↔ s.Surges p pressure := by
  unfold State.Surges surging Reading.atLeast
  rw [Bool.and_eq_true]
  refine and_congr_right fun _ => ?_
  cases pressure <;> simp

theorem settled_iff (p : ActuatedPart) (pressure : Reading) :
    settled p pressure = true ↔ ∃ q, pressure = some q ∧ q ≤ p.surgeCeiling - p.surgeHysteresis := by
  unfold settled Reading.below
  cases pressure <;> simp

theorem near_iff (n target : Nat) (moving : Bool) :
    (Reading.near (some n) target && !moving) = true ↔ n ≤ target + 5 ∧ target ≤ n + 5 ∧ moving = false := by
  change ((decide (n ≤ target + 5) && decide (target ≤ n + 5)) && !moving) = true ↔ _
  simp [and_assoc]

theorem atLeast_and_iff (n bound : Nat) (moving : Bool) :
    (Reading.atLeast (some n) bound && !moving) = true ↔ bound ≤ n ∧ moving = false := by
  simp [Reading.atLeast]

theorem lostDrive_iff (m : Move) : m.lostDrive = true ↔ m.command = none := by
  simp [Move.lostDrive]

end Sys2Proof.Machine
end

section
/-! PROOFS. From the judgement of a valve's report to the end of the step (04 R85, R86, R94; 06 R150). -/

namespace Sys2Proof.Machine

open Sys2Proof

/-! ### The valve before its report (06 R150) -/

theorem heard_online {r : StationRec} (h : r.Sound) (hon : r.state ≠ .offline) : r.heard.state ≠ .offline := by
  have hscore : r.score ≤ 160 := h.1
  unfold StationRec.heard
  rw [if_neg hon]
  exact fun h => by
    have := (stateOfScore_offline _).1 h
    omega

/-- 06 R150: a reachable valve whose channel is in remote control is reachable still, and its record stands. -/
theorem goodHanded_remote {l : Line} {x : Exchange} {reply : StationReply} {s : State} {c v : Nat} {p : ActuatedPart}
    (hm : Table.Wf s.map.valves) (hst : s.StationsSound) (hv : s.valveOfChannel l x.address c = some (v, p))
    (hr : s.reachable v = true) (hremote : (reply.channels.get c).localControl = false) :
    (goodHanded l x reply s).reachable v = true ∧ (goodHanded l x reply s).dyn v = s.dyn v := by
  have hhand := goodHanded_spec l x reply s
  obtain ⟨rfl, ha, hc⟩ := valveOfChannel_part hv
  have hact := (valveOfChannel_actuated hm hv).1
  have hmap := hhand.map
  have hactNow : (goodHanded p.line x reply s).actuated v = some p := by
    rw [State.actuated, hmap]; exact hact
  have hpart : s.partReachable p = true := by
    unfold State.reachable at hr
    rwa [hact] at hr
  have hstill : (goodHanded p.line x reply s).reachable v = true := by
    unfold State.reachable
    rw [hactNow]
    change (goodHanded p.line x reply s).partReachable p = true
    rw [hhand.parts p rfl ha]
    unfold State.partReachable at hpart
    rw [ha] at hpart
    simp only [Bool.and_eq_true, bne_iff_ne, ne_eq, Bool.not_eq_true'] at hpart ⊢
    obtain ⟨⟨⟨⟨hen, hon⟩, hhas⟩, hstate⟩, -⟩ := hpart
    exact ⟨⟨⟨⟨hen, hon⟩, hhas⟩, heard_online (hst.get _ _) hstate⟩, by rw [hc]; exact hremote⟩
  exact ⟨hstill, hhand.kept v fun _ => hstill⟩

/-! ### The flag of a valve with a move (04 R86) -/

theorem reachable_showPosition (v : Nat) (r : Reading) (s : State) (u : Nat) :
    (showPosition v r s).reachable u = s.reachable u := rfl

theorem setConfirmed_of_not_loses {v : Nat} {value : Bool} {s : State} (h : s.losesClosed v value = false) :
    setConfirmed v value s = if (s.dyn v).confirmed = value then s else flagTold v value s := by
  rw [setConfirmed_eq, h]
  rfl

/-- 04 R85, R86: the record of a reachable valve with a move, as the judgement of its move finds it. -/
theorem showConfirmed_moved {v n : Nat} {m : Move} {b : State} (hm : (b.dyn v).move = some m) (hr : b.reachable v = true) :
    (showConfirmed v (some n) (showPosition v (some n) b)).dyn v = (b.dyn v).shown n
      ∧ (showConfirmed v (some n) (showPosition v (some n) b)).drive.serial = b.drive.serial := by
  have hshow : (showPosition v (some n) b).dyn v = { b.dyn v with position := some n } := dyn_onDyn_same b v _
  have hloses : (showPosition v (some n) b).losesClosed v (decide (closedFrom ≤ n)) = false := by
    unfold State.losesClosed
    rw [hshow, hm]
    simp
  change (setConfirmed v (decide (closedFrom ≤ n)) (showPosition v (some n) b)).dyn v = _
    ∧ (setConfirmed v (decide (closedFrom ≤ n)) (showPosition v (some n) b)).drive.serial = _
  rw [setConfirmed_of_not_loses hloses]
  split
  · next h =>
    refine ⟨?_, rfl⟩
    rw [hshow] at h ⊢
    unfold ValveDyn.shown
    rw [show decide (995 ≤ n) = (b.dyn v).confirmed from h.symm]
  · refine ⟨?_, ?_⟩
    · rw [dyn_flagTold, reachable_showPosition, hr, hshow, Bool.not_true, Bool.and_false, Bool.not_false, Bool.and_true]
      rfl
    · rw [onlyNotices_flagTold.fields.1]
      rfl

/-! ### The judgement and what follows it -/

/-- 04 R96, R97: nothing is to be started for a valve with such a record. -/
def ValveDyn.Rests (d : ValveDyn) : Prop :=
  d.move.isSome = true ∨ d.confirmed = true ∨ d.operability = .inoperable ∨ d.holders = []

theorem acked_rests {d : ValveDyn} (h : d.Rests) (kind : ExchangeKind) (v : Nat) : (d.acked kind v).Rests := by
  obtain ⟨hm, hc, ho, hh⟩ := acked_follows d kind v
  unfold ValveDyn.Rests
  rwa [hm, hc, ho, hh]

theorem resting_of_rests {s : State} {v : Nat} {p : ActuatedPart} (ha : s.actuated v = some p) (h : (s.dyn v).Rests) :
    s.Resting v := by
  obtain h | h | h | h := h
  · exact resting_of ha (.inl h)
  · exact resting_of ha (.inr (.inl h))
  · exact resting_of ha (.inr (.inr (.inl h)))
  · refine ⟨by simp [ha], fun n => ?_⟩
    unfold State.startable
    simp [h]

/-- `k` is the state that judges a valve's move by a reply, `j` what the judgement makes of it, and `t` the end of the step. -/
structure Judged (kind : ExchangeKind) (v n : Nat) (p : ActuatedPart) (s k j t : State) : Prop where
  record : k.dyn v = (s.dyn v).shown n
  serial : s.drive.serial ≤ k.drive.serial
  timeBase : k.reports.timeBase = s.reports.timeBase
  guarded : k.guarded p = s.guarded p
  calm : Calm s k
  settled : (j.dyn v).Rests → t.dyn v = (j.dyn v).acked kind v
  reported : Reported j.reports t.reports
  replans : ∀ e ∈ s.engine.slots, e.2.state ≠ .restoring → j.Replans e → t.Replans e
  opened : (j.dyn v).move = none → s.ValvesSound → ∀ e ∈ s.engine.slots, e.2.state = .restoring → e.2.restoreList = [] →
    (∀ u, s.Opens e.2.number u → u = v) → t.slot e.1 = none

/-- 04 R85: the report of a reachable valve with a move, in remote control. -/
theorem judged {s : State} {l : Line} {x : Exchange} {reply : StationReply} {c v n : Nat} {p : ActuatedPart} {m : Move}
    {moving trip : Bool} (hfits : reply.Fits) (h1 : 1 ≤ c) (h4 : c ≤ 4) (hv : s.valveOfChannel l x.address c = some (v, p))
    (hs : s.SlotsSound) (hst : s.StationsSound) (hlist : s.Unlisted v) (hw : Table.Wf s.map.valves) (hr : s.reachable v = true)
    (hm : (s.dyn v).move = some m) (hreply : reply.channels.get c = ⟨some n, moving, trip, false⟩) :
    ∃ k, Judged x.kind v n p s k (judgeMove v p ⟨some n, moving, trip, false⟩ (s.pressureOf l x.address reply) k)
      (completeExchange l x (.good reply) s) := by
  obtain ⟨hreach, hkept⟩ := goodHanded_remote (reply := reply) hw hst hv hr (by rw [hreply])
  obtain ⟨b, hown⟩ := ownReport hfits hw h1 h4 hv
  obtain ⟨hfound, hturns, hbefore, -, hmoves, hrecord, hafter, hgo, ⟨hmap, -⟩, hwreach, -⟩ := hown
  rw [hreply] at hrecord hafter hgo
  have hbdyn : b.dyn v = s.dyn v := hfound.trans hkept
  have hbreach : b.reachable v = true := (hturns.lines.reachable v).trans hreach
  obtain ⟨hshown, hserial⟩ := showConfirmed_moved (n := n) (by rw [hbdyn]; exact hm) hbreach
  have hposition : (some n : Reading).getD 0 ≤ 1000 := by
    have h := hfits.position c
    rwa [hreply] at h
  have hcalmk : Calm b (showConfirmed v (some n) (showPosition v (some n) b)) :=
    (Calm.quiet (quiet_setPosition v hposition b)).trans (calm_setConfirmed v _ _)
  rw [takeReport_eq] at hrecord hafter hgo
  dsimp only at hrecord hafter hgo
  have hleft := (turn_showConfirmed (v := v) (p := p) (some n) (showPosition v (some n) b)).trans
    (turn_judgeMove (v := v) ⟨some n, moving, trip, false⟩ (s.pressureOf l x.address reply)
      (showConfirmed v (some n) (showPosition v (some n) b)))
  have hother (u : Nat) (hu : u ≠ v) : (judgeMove v p ⟨some n, moving, trip, false⟩ (s.pressureOf l x.address reply)
      (showConfirmed v (some n) (showPosition v (some n) b))).dyn u = b.dyn u :=
    ((turnLeft hleft).other u hu).trans ((dyn_onDyn b v u _).trans (if_neg hu))
  generalize showConfirmed v (some n) (showPosition v (some n) b) = k at *
  rw [hbdyn] at hshown
  have hk := hbefore.trans hcalmk
  have hjudge := calm_judgeMove v p ⟨some n, moving, trip, false⟩ (s.pressureOf l x.address reply) k
  refine ⟨k, ?_⟩
  generalize judgeMove v p ⟨some n, moving, trip, false⟩ (s.pressureOf l x.address reply) k = j at *
  have hwhole := (hk.trans hjudge).trans hafter
  obtain ⟨-, hkmap, -⟩ := hk.fields
  rw [completeExchange_good]
  have hend (u : State) : (quiesceDone u).engine = u.engine ∧ (quiesceDone u).drive = u.drive := by
    rw [quiesceDone_only]; exact ⟨rfl, rfl⟩
  have hact : (goodTaken l x reply s).actuated v = some p := by
    rw [State.actuated, hmap]; exact (valveOfChannel_actuated hw hv).1
  generalize goodTaken l x reply s = w at *
  have hslot (i : Nat) : (quiesceDone (settle w)).slot i = (settle w).slot i := by
    rw [State.slot, (hend _).1]; rfl
  refine ⟨hshown, ?_, hk.reported.timeBase, ?_, hk, fun hrests => ?_,
    (hafter.reported.trans (reported_settle w)).trans (reported_quiesceDone _), fun e he hne hrep => ?_,
    fun hnone hvalves e he hrest hempty hopens => ?_⟩
  · rw [hserial]; exact (goodHanded_spec l x reply s).serial.trans hturns.serial
  · rw [State.guarded, hkmap]; rfl
  · rw [State.dyn, (hend _).2]
    change (settle w).dyn v = _
    rw [← hrecord]
    exact dyn_settle (hlist.of_calm hs hwhole) (resting_of_rests hact (by rw [hrecord]; exact acked_rests hrests x.kind v))
  · obtain ⟨u, hu, hn⟩ := hwhole.replans_settle (Table.get_of_mem hs.wf he) hne (hafter.replans hrep)
    exact ⟨u, (hslot e.1).trans hu, hn⟩
  · have hk' : s.slot e.1 = some e.2 := Table.get_of_mem hs.wf he
    obtain ⟨a, ha, hcar⟩ := (hwhole.slots e.1).1 e.2 hk'
    have hws := (hwhole.keeps.engine hs).slots
    have hbare : RestoreBare e.1 a w.reports w := by
      refine ⟨ha, fun u hu => ?_, fun i hi a' ha' hn => hi (hws.slot_inj ha' ha hn), hwhole.keeps.blocks.valves hvalves, .refl _⟩
      obtain ⟨m', hm', hd', hst'⟩ := hu
      obtain ⟨m1, hm1, hd1, hst1⟩ := hgo u m' hm'
      have huv : u ≠ v := fun h => by rw [h, hnone] at hm1; cases hm1
      rw [hother u huv] at hm1
      obtain ⟨m2, hm2, hd2, hst2⟩ := hmoves u m1 hm1
      refine huv (hopens u ⟨m2, hm2, ?_, ?_⟩)
      · exact hd2.symm.trans (hd1.symm.trans hd')
      · exact (hst2.symm.trans (hst1.symm.trans hst')).trans (by rw [hcar.number])
    have hover := hbare.settle (hs.2.1 e he).1 (hcar.restoring_iff.2 hrest) (by rw [hcar.restoreList]; exact hempty)
    exact (hslot e.1).trans hover.slot

end Sys2Proof.Machine
end

section
/-! PROOFS. The cases of a good reply for a valve with a move: O41's first part (04 R98 to R112, R117). -/

namespace Sys2Proof.Machine

open Sys2Proof

/-! ### The judgement by motion state (04 R98) -/

section judge

variable {v n : Nat} {p : ActuatedPart} {m : Move} {x : Reading} {s : State} {moving trip : Bool}

theorem judgeMove_closing (hm : (s.dyn v).move = some m)
    (h : (s.dyn v).motion = .closingFast ∨ (s.dyn v).motion = .closingSlow) (r : ChannelReport) :
    judgeMove v p r x s = judgeClosing v p m r x s := by
  unfold judgeMove
  obtain h | h := h <;> rw [hm, h]

theorem judgeMove_holding (hm : (s.dyn v).move = some m) (h : (s.dyn v).motion = .holding) (r : ChannelReport) :
    judgeMove v p r x s = judgeHolding v p m r x s := by
  unfold judgeMove; rw [hm, h]

theorem judgeMove_backoff (hm : (s.dyn v).move = some m) (h : (s.dyn v).motion = .backoff) (r : ChannelReport) :
    judgeMove v p r x s = judgeBackoff v p m r s := by
  unfold judgeMove; rw [hm, h]

theorem judgeMove_charging (hm : (s.dyn v).move = some m) (h : (s.dyn v).motion = .charging) (r : ChannelReport) :
    judgeMove v p r x s = judgeCharging v p m r s := by
  unfold judgeMove; rw [hm, h]

theorem judgeMove_opening (hm : (s.dyn v).move = some m) (h : (s.dyn v).motion = .opening) (r : ChannelReport) :
    judgeMove v p r x s = judgeOpening v p m r s := by
  unfold judgeMove; rw [hm, h]

/-- 04 R106: a trip seen in a driving phase. -/
theorem judgeMove_trip (hm : (s.dyn v).move = some m) (h : (s.dyn v).motion = .closingFast ∨ (s.dyn v).motion = .closingSlow
      ∨ (s.dyn v).motion = .charging ∨ (s.dyn v).motion = .opening ∨ (s.dyn v).motion = .backoff) {r : ChannelReport}
    (hseen : m.seesTrip r = true) : judgeMove v p r x s = torqueTrip v p m s := by
  obtain h | h | h | h | h := h
  · rw [judgeMove_closing hm (.inl h)]; exact if_pos hseen
  · rw [judgeMove_closing hm (.inr h)]; exact if_pos hseen
  · rw [judgeMove_charging hm h]; exact if_pos hseen
  · rw [judgeMove_opening hm h]; exact if_pos hseen
  · rw [judgeMove_backoff hm h]; exact if_pos hseen

theorem judgeClosing_completes {r : ChannelReport} (hseen : ¬m.seesTrip r = true)
    (h : (r.position.atLeast closedFrom && !r.moving) = true) : judgeClosing v p m r x s = completeClosing v p m s := by
  unfold judgeClosing; rw [if_neg hseen, if_pos h]

theorem judgeClosing_holds {r : ChannelReport} (hseen : ¬m.seesTrip r = true)
    (h : ¬(r.position.atLeast closedFrom && !r.moving) = true) (hsurge : (s.guarded p && surging p x) = true) :
    judgeClosing v p m r x s = holdMove v p m (x.getD 0) s := by
  unfold judgeClosing; rw [if_neg hseen, if_neg h, if_pos hsurge]

theorem judgeClosing_lost {r : ChannelReport} (hsurge : ¬(s.guarded p && surging p x) = true) (hlost : m.command = none)
    (hseen : ¬m.seesTrip r = true) : judgeClosing v p m r x s
      = if (r.position.atLeast closedFrom && !r.moving) = true then completeClosing v p m s else resumeClosing v p m s := by
  unfold judgeClosing; rw [if_neg hseen, if_neg hsurge, if_pos ((lostDrive_iff m).2 hlost)]

theorem judgeClosing_goesOn {r : ChannelReport} (hseen : ¬m.seesTrip r = true)
    (h : ¬(r.position.atLeast closedFrom && !r.moving) = true) (hsurge : ¬(s.guarded p && surging p x) = true)
    (hcommand : m.command ≠ none) : judgeClosing v p m r x s
      = if ((s.dyn v).motion = .closingFast && r.position.atLeast (p.throttlePoint - tolerance)) = true then changeBand v p s
        else s := by
  unfold judgeClosing; rw [if_neg hseen, if_neg h, if_neg hsurge, if_neg fun h => hcommand ((lostDrive_iff m).1 h)]

theorem judgeBackoff_ends {r : ChannelReport} (hseen : ¬m.seesTrip r = true)
    (h : (r.position.near m.phaseTarget && !r.moving) = true) : judgeBackoff v p m r s = endBackoff v p m s := by
  unfold judgeBackoff; rw [if_neg hseen, if_pos h]

theorem judgeBackoff_lost {r : ChannelReport} (hseen : ¬m.seesTrip r = true)
    (h : ¬(r.position.near m.phaseTarget && !r.moving) = true) (hlost : m.command = none) :
    judgeBackoff v p m r s = reissueBackoff v p m s := by
  unfold judgeBackoff; rw [if_neg hseen, if_neg h, if_pos ((lostDrive_iff m).2 hlost)]

theorem judgeCharging_ends {r : ChannelReport} (hseen : ¬m.seesTrip r = true)
    (h : (r.position.near p.chargeTarget && !r.moving) = true) : judgeCharging v p m r s = completeCharge v p s := by
  unfold judgeCharging; rw [if_neg hseen, if_pos h]

theorem judgeCharging_lost {r : ChannelReport} (hseen : ¬m.seesTrip r = true)
    (h : ¬(r.position.near p.chargeTarget && !r.moving) = true) (hlost : m.command = none) :
    judgeCharging v p m r s = driveOpening v p s := by
  unfold judgeCharging; rw [if_neg hseen, if_neg h, if_pos ((lostDrive_iff m).2 hlost)]

theorem judgeOpening_ends {r : ChannelReport} (hseen : ¬m.seesTrip r = true)
    (h : (r.position.below (openUpTo + 1) && !r.moving) = true) : judgeOpening v p m r s = completeOpening v p m s := by
  unfold judgeOpening; rw [if_neg hseen, if_pos h]

theorem judgeOpening_lost {r : ChannelReport} (hseen : ¬m.seesTrip r = true)
    (h : ¬(r.position.below (openUpTo + 1) && !r.moving) = true) (hlost : m.command = none) :
    judgeOpening v p m r s = driveOpening v p s := by
  unfold judgeOpening; rw [if_neg hseen, if_neg h, if_pos ((lostDrive_iff m).2 hlost)]

theorem below_and_iff (n bound : Nat) (moving : Bool) :
    (Reading.below (some n) bound && !moving) = true ↔ n < bound ∧ moving = false := by
  simp [Reading.below]

/-- 04 R103: the record as a hold ends by resumption. -/
theorem dyn_endHold (hm : (s.dyn v).move = some m) (hn : (s.dyn v).position = some n) (m' : Move) :
    (endHold v p m' x s).dyn v = if 995 ≤ n then (s.dyn v).done else (s.dyn v).onBand p n s.drive.serial m :=
  dyn_resumeClosing (s := raise .surgeResume (.valve v) 0 [x, some (tenthsPassed m'.holdElapsed), (s.dyn v).position] s) hm hn m'

theorem keeps_endHold (v : Nat) (p : ActuatedPart) (m' : Move) (x : Reading) (s : State) :
    (endHold v p m' x s).reports.Keeps ⟨.surgeResume, s.reports.timeBase, .valve v, 0,
      [x, some (m'.holdElapsed / 100), (s.dyn v).position]⟩ :=
  (quiet_resumeClosing v p m' _).reported.keeps (keeps_raise s.reports
    ⟨.surgeResume, s.reports.timeBase, .valve v, 0, [x, some (m'.holdElapsed / 100), (s.dyn v).position]⟩)

theorem not_seen_of_lost {trip : Bool} (h : m.command = none) : ¬m.Seen trip := fun ⟨_, _, _, _, hc⟩ => by
  rw [h] at hc; cases hc

end judge

/-! ### From the judgement to the end of the step -/

namespace Judged

variable {kind : ExchangeKind} {v n : Nat} {p : ActuatedPart} {m : Move} {x : Reading} {s k j t : State} {moving trip : Bool}

theorem move (h : Judged kind v n p s k j t) (hm : (s.dyn v).move = some m) : (k.dyn v).move = some m := by
  rw [h.record]; exact hm

theorem position (h : Judged kind v n p s k j t) : (k.dyn v).position = some n := by rw [h.record]; rfl

theorem motion (h : Judged kind v n p s k j t) : (k.dyn v).motion = (s.dyn v).motion := by rw [h.record]; rfl

/-- A move that goes on is acknowledged after the judgement. -/
theorem goesOn (h : Judged kind v n p s k j t) {d : ValveDyn} (hj : j.dyn v = d) (hd : d.move.isSome = true) :
    t.dyn v = d.acked kind v := by
  rw [h.settled (.inl (by rw [hj]; exact hd)), hj]

/-- A move that has ended has nothing to acknowledge. -/
theorem ends (h : Judged kind v n p s k j t) {d : ValveDyn} (hj : j.dyn v = d) (hmove : d.move = none) (hrests : d.Rests) :
    t.dyn v = d := by
  rw [h.settled (by rw [hj]; exact hrests), hj, acked_unmoved hmove]

/-- 04 R100: a closing move that has completed. -/
theorem closed (h : Judged kind v n p s k j t) (hn : 995 ≤ n) (hj : j.dyn v = (k.dyn v).done) :
    t.dyn v = ((s.dyn v).shown n).done :=
  h.ends (hj.trans (by rw [h.record])) rfl (.inr (.inl (decide_eq_true hn)))

/-- 04 R107: a move that has failed, and what its failure asks for. -/
theorem tripFails (h : Judged kind v n p s k j t) (hs : s.SlotsSound) {q : State} (hq : q.engine = k.engine)
    {y : Option Move} (hqd : q.dyn v = { k.dyn v with move := y }) (hj : j = torqueTrip v p m q)
    (hused : ¬m.retriesUsed < p.torqueRetries) : t.dyn v = ((s.dyn v).shown n).failed
      ∧ (m.direction = .close → m.starter ≠ none →
        ∀ e ∈ s.engine.slots, e.2.state ≠ .restoring → e.2.number ∈ (s.dyn v).holders → t.Replans e) := by
  have hfail : j.dyn v = ((s.dyn v).shown n).failed := by
    rw [hj, dyn_torqueTrip_fail hused, hqd, h.record]
    rfl
  refine ⟨h.ends hfail rfl (.inr (.inr (.inl rfl))), fun hdir hstarter e he hr hheld => h.replans e he hr ?_⟩
  obtain ⟨b, hb, hcar⟩ := (h.calm.slots e.1).1 e.2 (Table.get_of_mem hs.wf he)
  have hbr : b.state ≠ .restoring := fun hb => hr (hcar.restoring_iff.1 hb)
  have hquiet := (quiet_setOperability v .inoperable q).trans (quiet_endMove v p _)
  have hslot : (endMove v p (setOperability v .inoperable q)).slot e.1 = some b := by
    rw [hquiet.slot, State.slot, hq]; exact hb
  have hholders : ((endMove v p (setOperability v .inoperable q)).dyn v).holders = (s.dyn v).holders := by
    rw [endMove, clearMove, dyn_onDyn_same]
    change ((setOperability v .inoperable q).dyn v).holders = _
    rw [(setOperability_spec v .inoperable q).1.same, hqd, h.record]
    rfl
  refine ⟨{ b with replanPending := true }, ?_, hcar.number, rfl⟩
  rw [hj]
  unfold torqueTrip
  rw [if_neg hused]
  exact replans_failedMove hdir hstarter (hs.2.1 e he).1 hslot
    (reliesOn_of hbr (.inl (by rw [hholders, hcar.number]; exact hheld)))

/-! ### Closing (04 R98 to R102, R117) -/

section closing

variable (h : Judged kind v n p s k (judgeMove v p ⟨some n, moving, trip, false⟩ x k) t) (hm : (s.dyn v).move = some m)
  (hclosing : (s.dyn v).motion = .closingFast ∨ (s.dyn v).motion = .closingSlow)

include h hm hclosing

theorem judged_closing : judgeMove v p ⟨some n, moving, trip, false⟩ x k
    = judgeClosing v p m ⟨some n, moving, trip, false⟩ x k :=
  judgeMove_closing (h.move hm) (by rw [h.motion]; exact hclosing) _

theorem completes (hseen : ¬m.Seen trip) (hn : 995 ≤ n) (hmoving : moving = false) :
    t.dyn v = ((s.dyn v).shown n).done := by
  refine h.closed hn ?_
  rw [h.judged_closing hm hclosing, judgeClosing_completes (mt (seesTrip_iff ..).1 hseen) ((atLeast_and_iff ..).2 ⟨hn, hmoving⟩)]
  exact dyn_completeClosing v p m k

theorem holds (hseen : ¬m.Seen trip) (hopen : ¬(995 ≤ n ∧ moving = false)) (hsurge : s.Surges p x) :
    t.dyn v = ValveDyn.acked { (s.dyn v).shown n with
        motion := .holding
        move := some { m with
          standing := .frozen, setsTimer := none, holdStart := s.reports.timeBase, holdElapsed := 0
          stallReported := false, tripNoted := false, notesTrips := m.driveAcked
          command := some ⟨.stop, k.drive.serial, false⟩ } } kind v
      ∧ t.reports.Keeps ⟨.surgeHold, s.reports.timeBase, .valve v, 0,
          [x, some p.surgeCeiling, some n, some (m.starter.getD 0)]⟩ := by
  have hj : judgeMove v p ⟨some n, moving, trip, false⟩ x k = holdMove v p m (x.getD 0) k := by
    rw [h.judged_closing hm hclosing, judgeClosing_holds (mt (seesTrip_iff ..).1 hseen) (mt (atLeast_and_iff ..).1 hopen)
      (by rw [h.guarded]; exact (surges_iff ..).2 hsurge)]
  rw [hj] at h
  have hdyn := dyn_holdMove (v := v) (p := p) (h.move hm) m (x.getD 0)
  rw [h.timeBase, h.record] at hdyn
  refine ⟨h.goesOn hdyn rfl, h.reported.keeps ?_⟩
  obtain ⟨-, q, rfl, -⟩ := hsurge
  have hpos : ((holdMove v p m q k).dyn v).position = some n := by
    rw [dyn_holdMove (h.move hm), h.record]; rfl
  have hkeep : (holdMove v p m q k).reports.Keeps ⟨.surgeHold, k.reports.timeBase, .valve v, 0,
      [some q, some p.surgeCeiling, ((holdMove v p m q k).dyn v).position, some (m.starter.getD 0)]⟩ := keeps_raise _ _
  rwa [hpos, h.timeBase] at hkeep

theorem reissuesBand (hsurge : ¬s.Surges p x) (hlost : m.command = none) :
    (n < 995 → t.dyn v = (((s.dyn v).shown n).onBand p n k.drive.serial m).acked kind v)
      ∧ (995 ≤ n → t.dyn v = ((s.dyn v).shown n).done) := by
  have hj : (judgeMove v p ⟨some n, moving, trip, false⟩ x k).dyn v
      = if 995 ≤ n then (k.dyn v).done else (k.dyn v).onBand p n k.drive.serial m := by
    rw [h.judged_closing hm hclosing, judgeClosing_lost (by rw [h.guarded]; exact mt (surges_iff ..).1 hsurge) hlost
      (mt (seesTrip_iff ..).1 (not_seen_of_lost hlost))]
    split
    · next hclosed =>
      have hn : 995 ≤ n := ((atLeast_and_iff ..).1 hclosed).1
      rw [if_pos hn]; exact dyn_completeClosing v p m k
    · exact dyn_resumeClosing (h.move hm) h.position m
  refine ⟨fun hn => h.goesOn (hj.trans ((if_neg (Nat.not_le.2 hn)).trans (by rw [h.record]))) ?_,
    fun hn => h.closed hn (hj.trans (if_pos hn))⟩
  unfold ValveDyn.onBand
  split <;> rfl

theorem changesBand (hseen : ¬m.Seen trip) (hopen : ¬(995 ≤ n ∧ moving = false)) (hsurge : ¬s.Surges p x)
    (hcommand : m.command ≠ none) (hfast : (s.dyn v).motion = .closingFast) (hn : p.throttlePoint - 5 ≤ n) :
    t.dyn v = ValveDyn.acked { (s.dyn v).shown n with
      motion := .closingSlow
      move := some { m with
        phaseTarget := 1000, rate := p.slow, command := some ⟨.drive 1000 p.slow, k.drive.serial, false⟩ } } kind v := by
  refine h.goesOn ?_ rfl
  rw [h.judged_closing hm hclosing, judgeClosing_goesOn (mt (seesTrip_iff ..).1 hseen) (mt (atLeast_and_iff ..).1 hopen)
    (by rw [h.guarded]; exact mt (surges_iff ..).1 hsurge) hcommand, if_pos, dyn_changeBand (h.move hm), h.record]
  rw [Bool.and_eq_true, h.motion]
  exact ⟨decide_eq_true hfast, decide_eq_true hn⟩

theorem staysInBand (hseen : ¬m.Seen trip) (hopen : ¬(995 ≤ n ∧ moving = false)) (hsurge : ¬s.Surges p x)
    (hcommand : m.command ≠ none) (hn : (s.dyn v).motion = .closingFast → n < p.throttlePoint - 5) :
    t.dyn v = ((s.dyn v).shown n).acked kind v := by
  refine h.goesOn ?_ (by change (s.dyn v).move.isSome = true; rw [hm]; rfl)
  rw [h.judged_closing hm hclosing, judgeClosing_goesOn (mt (seesTrip_iff ..).1 hseen) (mt (atLeast_and_iff ..).1 hopen)
    (by rw [h.guarded]; exact mt (surges_iff ..).1 hsurge) hcommand, if_neg, h.record]
  rw [Bool.and_eq_true, h.motion]
  exact fun ⟨hfast, hge⟩ => Nat.not_le.2 (hn (of_decide_eq_true hfast)) (of_decide_eq_true hge)

/-- 04 R94, R101: the acknowledgement of the move's last DRIVE in a closing band. -/
theorem acknowledges {e : QueueEntry} {target rate : Nat} {acked : Bool} (he : kind = .command e) (hvalve : e.valve = v)
    (hkind : e.kind = .drive target rate) (hcommand : m.command = some ⟨e.kind, e.serial, acked⟩) (hsince : m.since ≤ e.serial)
    (htrip : trip = false) (hn : n < 995) (hsurge : ¬s.Surges p x)
    (hband : (s.dyn v).motion = .closingFast → n < p.throttlePoint - 5) :
    (∀ preset, m.setsTimer = some (e.serial, preset) → t.dyn v = { (s.dyn v).shown n with
        move := some { m with
          command := some ⟨e.kind, e.serial, true⟩, driveAcked := true, timerLeft := preset, standing := .running
          setsTimer := none } })
      ∧ (m.setsTimer = none → t.dyn v = { (s.dyn v).shown n with
        move := some { m with command := some ⟨e.kind, e.serial, true⟩, driveAcked := true } }) := by
  have hstay := h.staysInBand hm hclosing (fun hseen => by rw [htrip] at hseen; cases hseen.1)
    (fun hopen => Nat.not_le.2 hn hopen.1) hsurge (by rw [hcommand]; exact Option.some_ne_none _) hband
  have hacked : ((s.dyn v).shown n).acked kind v
      = { (s.dyn v).shown n with move := some (m.acknowledged e.kind e.serial) } := by
    rw [he]
    refine (if_pos hvalve).trans ?_
    have hmove : ((s.dyn v).shown n).move = some m := hm
    rw [hmove]
    rfl
  have hdrive : (m.driveAcked || (e.kind.isDrive && decide (m.since ≤ e.serial))) = true := by
    rw [hkind, decide_eq_true hsince]
    exact Bool.or_true _
  rw [hacked] at hstay
  refine ⟨fun preset hsets => ?_, fun hsets => ?_⟩
  · rw [hstay]
    unfold Move.acknowledged
    simp only [hcommand, hsets, hdrive, Option.map_some, if_true]
  · rw [hstay]
    unfold Move.acknowledged
    simp only [hcommand, hsets, hdrive, Option.map_some, if_true]

end closing

/-! ### A hold (04 R103, R105) -/

section holding

variable (h : Judged kind v n p s k (judgeMove v p ⟨some n, moving, trip, false⟩ x k) t) (hm : (s.dyn v).move = some m)
  (hholding : (s.dyn v).motion = .holding)

include h hm hholding

theorem judged_holding : judgeMove v p ⟨some n, moving, trip, false⟩ x k
    = judgeHolding v p m ⟨some n, moving, trip, false⟩ x k :=
  judgeMove_holding (h.move hm) (by rw [h.motion]; exact hholding) _

theorem keepsHolding (hstill : ¬∃ q, x = some q ∧ q ≤ p.surgeCeiling - p.surgeHysteresis) :
    t.dyn v = ValveDyn.acked { (s.dyn v).shown n with
      move := some { m with tripNoted := m.tripNoted || (trip && m.notesTrips) } } kind v := by
  refine h.goesOn ?_ rfl
  rw [h.judged_holding hm hholding]
  unfold judgeHolding
  dsimp only
  rw [if_neg (mt (settled_iff p x).1 hstill), dyn_onMove_of (h.move hm), h.record]

theorem resumes (hresumes : ∃ q, x = some q ∧ q ≤ p.surgeCeiling - p.surgeHysteresis)
    (hnoted : (m.tripNoted || (trip && m.notesTrips)) = false) :
    (n < 995 → t.dyn v = (((s.dyn v).shown n).onBand p n k.drive.serial { m with tripNoted := false }).acked kind v)
      ∧ (995 ≤ n → t.dyn v = ((s.dyn v).shown n).done)
      ∧ t.reports.Keeps ⟨.surgeResume, s.reports.timeBase, .valve v, 0, [x, some (m.holdElapsed / 100), some n]⟩ := by
  have hfree := dyn_onMove_of (h.move hm) fun m => { m with tripNoted := false }
  have hj : judgeMove v p ⟨some n, moving, trip, false⟩ x k
      = endHold v p m x (onMove v (fun m => { m with tripNoted := false }) k) := by
    rw [h.judged_holding hm hholding]
    unfold judgeHolding
    dsimp only
    rw [if_pos ((settled_iff p x).2 hresumes), hnoted]
    rfl
  have hresume := dyn_endHold (v := v) (p := p) (x := x) (m := { m with tripNoted := false })
    (s := onMove v (fun m => { m with tripNoted := false }) k) (by rw [hfree]) (by rw [hfree]; exact h.position) m
  have hkeep := keeps_endHold v p m x (onMove v (fun m => { m with tripNoted := false }) k)
  rw [← hj] at hresume hkeep
  rw [hfree] at hresume hkeep
  rw [ValveDyn.done_moved, ValveDyn.onBand_moved] at hresume
  have hserial : (onMove v (fun m => { m with tripNoted := false }) k).drive.serial = k.drive.serial := rfl
  have htime : (onMove v (fun m => { m with tripNoted := false }) k).reports.timeBase = s.reports.timeBase := h.timeBase
  rw [hserial] at hresume
  rw [htime] at hkeep
  refine ⟨fun hn => h.goesOn (hresume.trans ((if_neg (Nat.not_le.2 hn)).trans (by rw [h.record]))) ?_,
    fun hn => h.closed hn (hresume.trans (if_pos hn)), ?_⟩
  · unfold ValveDyn.onBand
    split <;> rfl
  · have hpos := h.position
    dsimp only at hkeep
    rw [hpos] at hkeep
    exact h.reported.keeps hkeep

theorem resumesTripped (hs : s.SlotsSound) (hresumes : ∃ q, x = some q ∧ q ≤ p.surgeCeiling - p.surgeHysteresis)
    (hnoted : (m.tripNoted || (trip && m.notesTrips)) = true) :
    (m.retriesUsed < p.torqueRetries →
        t.dyn v = (((s.dyn v).shown n).onBackoff p n k.drive.serial { m with tripNoted := false }).acked kind v)
      ∧ (¬m.retriesUsed < p.torqueRetries → t.dyn v = ((s.dyn v).shown n).failed
        ∧ (m.direction = .close → m.starter ≠ none →
          ∀ e ∈ s.engine.slots, e.2.state ≠ .restoring → e.2.number ∈ (s.dyn v).holders → t.Replans e)) := by
  have hfree := dyn_onMove_of (h.move hm) fun m => { m with tripNoted := false }
  have hj : judgeMove v p ⟨some n, moving, trip, false⟩ x k
      = torqueTrip v p m (onMove v (fun m => { m with tripNoted := false }) k) := by
    rw [h.judged_holding hm hholding]
    unfold judgeHolding
    dsimp only
    rw [if_pos ((settled_iff p x).2 hresumes), hnoted]
    rfl
  refine ⟨fun hretry => h.goesOn ?_ rfl, fun hused =>
    h.tripFails hs (q := onMove v (fun m => { m with tripNoted := false }) k) rfl hfree hj hused⟩
  have htrip := dyn_torqueTrip_retry (v := v) (p := p) (m := { m with tripNoted := false }) (m' := m)
    (s := onMove v (fun m => { m with tripNoted := false }) k) (by rw [hfree]) (by rw [hfree]; exact h.position) rfl rfl hretry
  rw [hj, htrip, hfree, ValveDyn.onBackoff_moved, h.record]
  rfl

end holding

/-! ### Trips and back-off (04 R106, R107) -/

section driving

variable (h : Judged kind v n p s k (judgeMove v p ⟨some n, moving, trip, false⟩ x k) t) (hm : (s.dyn v).move = some m)

include h hm

theorem trips (hs : s.SlotsSound) (hdriving : (s.dyn v).motion = .closingFast ∨ (s.dyn v).motion = .closingSlow
      ∨ (s.dyn v).motion = .charging ∨ (s.dyn v).motion = .opening ∨ (s.dyn v).motion = .backoff) (hseen : m.Seen trip) :
    (m.retriesUsed < p.torqueRetries →
        t.dyn v = (((s.dyn v).shown n).onBackoff p n k.drive.serial m).acked kind v)
      ∧ (¬m.retriesUsed < p.torqueRetries → t.dyn v = ((s.dyn v).shown n).failed
        ∧ (m.direction = .close → m.starter ≠ none →
          ∀ e ∈ s.engine.slots, e.2.state ≠ .restoring → e.2.number ∈ (s.dyn v).holders → t.Replans e)) := by
  have hj : judgeMove v p ⟨some n, moving, trip, false⟩ x k = torqueTrip v p m k :=
    judgeMove_trip (h.move hm) (by rw [h.motion]; exact hdriving) ((seesTrip_iff ..).2 hseen)
  refine ⟨fun hretry => h.goesOn ?_ rfl, fun hused => h.tripFails hs (q := k) (y := (k.dyn v).move) rfl rfl hj hused⟩
  rw [hj, dyn_torqueTrip_retry (h.move hm) h.position rfl rfl hretry, h.record]

theorem backsOff (hbackoff : (s.dyn v).motion = .backoff) (hseen : ¬m.Seen trip) (hnear : n ≤ m.phaseTarget + 5)
    (hnear' : m.phaseTarget ≤ n + 5) (hmoving : moving = false) :
    (m.direction = .close →
        (n < 995 → t.dyn v = (((s.dyn v).shown n).onBand p n k.drive.serial { m with resume := none }).acked kind v)
        ∧ (995 ≤ n → t.dyn v = ((s.dyn v).shown n).done))
      ∧ (m.direction = .openUp →
        t.dyn v = (((s.dyn v).shown n).onOpening p n k.drive.serial { m with resume := none }).acked kind v) := by
  have hj : judgeMove v p ⟨some n, moving, trip, false⟩ x k = endBackoff v p m k := by
    rw [judgeMove_backoff (h.move hm) (by rw [h.motion]; exact hbackoff)]
    exact judgeBackoff_ends (mt (seesTrip_iff ..).1 hseen) ((near_iff ..).2 ⟨hnear, hnear', hmoving⟩)
  rw [hj] at h
  refine ⟨fun hdir => ?_, fun hdir => ?_⟩
  · have hend := dyn_endBackoff_close (p := p) (h.move hm) h.position hdir
    refine ⟨fun hn => h.goesOn (hend.trans ((if_neg (Nat.not_le.2 hn)).trans (by rw [h.record]))) ?_,
      fun hn => h.closed hn (hend.trans (if_pos hn))⟩
    unfold ValveDyn.onBand
    split <;> rfl
  · have hend := dyn_endBackoff_open (p := p) (h.move hm) h.position hdir
    refine h.goesOn (hend.trans (by rw [h.record])) ?_
    unfold ValveDyn.onOpening
    split <;> rfl

theorem reissuesBackoff (hbackoff : (s.dyn v).motion = .backoff) (hlost : m.command = none)
    (hnear : ¬(n ≤ m.phaseTarget + 5 ∧ m.phaseTarget ≤ n + 5 ∧ moving = false)) :
    t.dyn v = (((s.dyn v).shown n).onDrive .backoff m.phaseTarget p.fast (timerOf (ceilDiv 20 p.fast)) k.drive.serial m).acked
      kind v := by
  refine h.goesOn ?_ rfl
  rw [judgeMove_backoff (h.move hm) (by rw [h.motion]; exact hbackoff),
    judgeBackoff_lost (mt (seesTrip_iff ..).1 (not_seen_of_lost hlost)) (mt (near_iff ..).1 hnear) hlost, reissueBackoff,
    dyn_issueTimed, if_pos rfl, h.move hm, h.record, ← hbackoff]
  rfl

/-! ### Opening (04 R111, R112, R117) -/

theorem charges (hcharging : (s.dyn v).motion = .charging) (hseen : ¬m.Seen trip) (hnear : n ≤ 1000 - p.chargeOpening + 5)
    (hnear' : 1000 - p.chargeOpening ≤ n + 5) (hmoving : moving = false) :
    (p.chargeDwell ≠ 0 → t.dyn v = ValveDyn.acked { (s.dyn v).shown n with
        motion := .dwell
        move := some { m with
          command := none, timerLeft := 0, standing := .stopped, setsTimer := none
          dwellLeft := p.chargeDwell * 1000 } } kind v)
      ∧ (p.chargeDwell = 0 → t.dyn v
        = (((s.dyn v).shown n).onDrive .opening 0 p.fast (timerOf (ceilDiv (min n (1000 - p.chargeOpening)) p.fast))
            k.drive.serial { m with timerLeft := 0, dwellLeft := 0 }).acked kind v) := by
  have hj : judgeMove v p ⟨some n, moving, trip, false⟩ x k = completeCharge v p k := by
    rw [judgeMove_charging (h.move hm) (by rw [h.motion]; exact hcharging)]
    exact judgeCharging_ends (mt (seesTrip_iff ..).1 hseen) ((near_iff ..).2 ⟨hnear, hnear', hmoving⟩)
  have hend := dyn_completeCharge (p := p) (h.move hm) h.position
  rw [← hj, h.record] at hend
  exact ⟨fun hdwell => h.goesOn (hend.trans (if_neg hdwell)) rfl, fun hdwell => h.goesOn (hend.trans (if_pos hdwell)) rfl⟩

theorem reissuesCharge (hcharging : (s.dyn v).motion = .charging) (hlost : m.command = none)
    (hnear : ¬(n ≤ 1000 - p.chargeOpening + 5 ∧ 1000 - p.chargeOpening ≤ n + 5 ∧ moving = false)) :
    t.dyn v = (((s.dyn v).shown n).onOpening p n k.drive.serial m).acked kind v := by
  refine h.goesOn (d := ((s.dyn v).shown n).onOpening p n k.drive.serial m) ?_ ?_
  · rw [judgeMove_charging (h.move hm) (by rw [h.motion]; exact hcharging),
      judgeCharging_lost (mt (seesTrip_iff ..).1 (not_seen_of_lost hlost)) (mt (near_iff ..).1 hnear) hlost,
      dyn_driveOpening (h.move hm) h.position, h.record]
  · unfold ValveDyn.onOpening
    split <;> rfl

theorem opens (hopening : (s.dyn v).motion = .opening) (hseen : ¬m.Seen trip) (hn : n ≤ 5) (hmoving : moving = false)
    (hfree : (s.dyn v).holders = []) : t.dyn v = ((s.dyn v).shown n).done
      ∧ (s.ValvesSound → ∀ e ∈ s.engine.slots, e.2.state = .restoring → e.2.restoreList = [] →
        (∀ u, s.Opens e.2.number u → u = v) → t.slot e.1 = none) := by
  have hj : (judgeMove v p ⟨some n, moving, trip, false⟩ x k).dyn v = ((s.dyn v).shown n).done := by
    rw [judgeMove_opening (h.move hm) (by rw [h.motion]; exact hopening),
      judgeOpening_ends (mt (seesTrip_iff ..).1 hseen) ((below_and_iff ..).2 ⟨Nat.lt_succ_of_le hn, hmoving⟩),
      dyn_completeOpening, h.record]
  exact ⟨h.ends hj rfl (.inr (.inr (.inr hfree))), h.opened (by rw [hj]; rfl)⟩

theorem reissuesOpening (hopening : (s.dyn v).motion = .opening) (hlost : m.command = none) (hn : ¬(n ≤ 5 ∧ moving = false)) :
    t.dyn v = (((s.dyn v).shown n).onOpening p n k.drive.serial m).acked kind v := by
  refine h.goesOn (d := ((s.dyn v).shown n).onOpening p n k.drive.serial m) ?_ ?_
  · rw [judgeMove_opening (h.move hm) (by rw [h.motion]; exact hopening),
      judgeOpening_lost (mt (seesTrip_iff ..).1 (not_seen_of_lost hlost))
        (fun hb => hn (by have := (below_and_iff ..).1 hb; exact ⟨Nat.le_of_lt_succ this.1, this.2⟩)) hlost,
      dyn_driveOpening (h.move hm) h.position, h.record]
  · unfold ValveDyn.onOpening
    split <;> rfl

end driving

end Judged

end Sys2Proof.Machine
end

section
/-! PROOFS. The allowance of closing moves (04 R95, R96): each start uses up a place, and the starts go on until none is left or
nothing is to be started. -/

namespace Sys2Proof.Machine

open Sys2Proof

/-! ### Closing moves counted (04 R95) -/

/-- A count after an entry is put that replaces none that counts. -/
theorem Table.countP_put {α : Type} (q : α → Bool) (k : Nat) (x : α) : ∀ t : Table α,
    (∀ y, Table.get t k = some y → q y = false) →
      (Table.put t k x).countP (fun e => q e.2) = t.countP (fun e => q e.2) + if q x then 1 else 0
  | [], _ => by simp [Table.put]
  | (k', y) :: t, h => by
    unfold Table.put
    split
    · exact List.countP_cons
    · split
      · next hk =>
        have hy : q y = false := h y (if_pos hk)
        rw [List.countP_cons, List.countP_cons]
        simp [hy]
      · next hk =>
        rw [List.countP_cons, List.countP_cons, Table.countP_put q k x t fun z hz => h z ((if_neg hk).trans hz)]
        omega

/-- An entry that counts lowers no count. -/
theorem Table.le_countP_put {α : Type} {q : α → Bool} (k : Nat) {x : α} (hx : q x = true) : ∀ t : Table α,
    t.countP (fun e => q e.2) ≤ (Table.put t k x).countP fun e => q e.2
  | [] => Nat.zero_le _
  | (k', y) :: t => by
    unfold Table.put
    split
    · rw [List.countP_cons (a := (k, x))]; exact Nat.le_add_right _ _
    · split
      · rw [List.countP_cons, List.countP_cons]
        simp only [hx, if_true]
        split <;> omega
      · rw [List.countP_cons, List.countP_cons]
        exact Nat.add_le_add_right (Table.le_countP_put k hx t) _

section counts

variable {v : Nat} {f : ValveDyn → ValveDyn} {s : State} {n : Nat}

theorem valves_onDyn (hf : f (s.dyn v) ≠ blankDyn) :
    (onDyn v f s).drive.valves = Table.put s.drive.valves v (f (s.dyn v)) := if_neg hf

/-- A record that does not count is replaced. -/
theorem closingCount_onDyn (hf : f (s.dyn v) ≠ blankDyn) (hold : (s.dyn v).movesFor .close n = false) :
    (onDyn v f s).closingCount n = s.closingCount n + if (f (s.dyn v)).movesFor .close n then 1 else 0 := by
  unfold State.closingCount
  rw [valves_onDyn hf]
  refine Table.countP_put (fun d : ValveDyn => d.movesFor .close n) v _ _ fun y hy => ?_
  rwa [State.dyn, hy] at hold

/-- A record goes on to count or not to count. -/
theorem le_closingCount_onDyn (hf : f (s.dyn v) ≠ blankDyn)
    (hsame : (f (s.dyn v)).movesFor .close n = (s.dyn v).movesFor .close n) :
    s.closingCount n ≤ (onDyn v f s).closingCount n := by
  cases hcounts : (s.dyn v).movesFor .close n with
  | false => rw [closingCount_onDyn hf hcounts]; exact Nat.le_add_right _ _
  | true =>
    unfold State.closingCount
    rw [valves_onDyn hf]
    exact Table.le_countP_put (q := fun d : ValveDyn => d.movesFor .close n) v (hsame.trans hcounts) _

theorem ne_blank_of_move {d : ValveDyn} (h : d.move.isSome = true) : d ≠ blankDyn := fun e => by rw [e] at h; cases h

theorem le_closingCount_onMove {g : Move → Move} (hm : (s.dyn v).move.isSome = true)
    (hg : ∀ m, (g m).direction = m.direction ∧ (g m).starter = m.starter) :
    s.closingCount n ≤ (onMove v g s).closingCount n := by
  obtain ⟨m, hm⟩ := Option.isSome_iff_exists.1 hm
  refine le_closingCount_onDyn (ne_blank_of_move (by simp [hm])) ?_
  obtain ⟨hd, hs⟩ := hg m
  unfold ValveDyn.movesFor
  dsimp only
  rw [hm, Option.map_some]
  dsimp only
  rw [hd, hs]

theorem isSome_onMove (g : Move → Move) : ((onMove v g s).dyn v).move.isSome = (s.dyn v).move.isSome := by
  rw [dyn_onMove, if_pos rfl]; exact Option.isSome_map

theorem isSome_setMotion (motion : Motion) : ((setMotion v motion s).dyn v).move.isSome = (s.dyn v).move.isSome := by
  rw [setMotion, dyn_onDyn_same]

theorem le_closingCount_setMotion (motion : Motion) (hm : (s.dyn v).move.isSome = true) :
    s.closingCount n ≤ (setMotion v motion s).closingCount n := by
  refine le_closingCount_onDyn (ne_blank_of_move hm) rfl

theorem le_closingCount_issue (p : ActuatedPart) (kind : CommandKind) (hm : (s.dyn v).move.isSome = true) :
    s.closingCount n ≤ (issue v p kind s).closingCount n :=
  le_closingCount_onMove (s := takeSerial s) (g := fun m => { m with command := some ⟨kind, s.drive.serial, false⟩ }) hm
    fun _ => ⟨rfl, rfl⟩

theorem le_closingCount_issueTimed (p : ActuatedPart) (target rate preset : Nat) (hm : (s.dyn v).move.isSome = true) :
    s.closingCount n ≤ (issueTimed v p target rate preset s).closingCount n := by
  unfold issueTimed
  refine le_trans ?_ (le_closingCount_issue p _ ((isSome_onMove _).trans hm))
  exact le_closingCount_onMove hm (by intro _; exact ⟨rfl, rfl⟩)

theorem le_closingCount_driveBand (p : ActuatedPart) (hm : (s.dyn v).move.isSome = true) :
    s.closingCount n ≤ (driveBand v p s).closingCount n := by
  have hphase (motion : Motion) (target rate preset : Nat) :
      s.closingCount n ≤ (issueTimed v p target rate preset (setMotion v motion s)).closingCount n :=
    (le_closingCount_setMotion motion hm).trans (le_closingCount_issueTimed p _ _ _ ((isSome_setMotion motion).trans hm))
  unfold driveBand
  dsimp only
  split
  · exact hphase _ _ _ _
  · exact hphase _ _ _ _

theorem isSome_driveBand (p : ActuatedPart) (hm : (s.dyn v).move.isSome = true) :
    ((driveBand v p s).dyn v).move.isSome = true := by
  obtain h | h := Nat.lt_or_ge ((s.dyn v).position.getD 0) p.throttlePoint
  · rw [dyn_driveBand_fast h]; exact Option.isSome_map.trans hm
  · rw [dyn_driveBand_slow h]; exact Option.isSome_map.trans hm

end counts

/-- 04 R95, R98: a start counts for its starter, and a started valve has a move. -/
theorem startClosing_counts {v n : Nat} (p : ActuatedPart) {s : State} (hconf : (s.dyn v).confirmed = false)
    (hmove : (s.dyn v).move = none) :
    (∀ n', s.closingCount n' + (if n' = n then 1 else 0) ≤ (startClosing v p n s).closingCount n')
      ∧ ((startClosing v p n s).dyn v).move.isSome = true := by
  have hstart : startClosing v p n s
      = driveBand v p (onDyn v (fun d => { d with move := some (newMove .close n s.drive.serial) }) s) := by
    unfold startClosing; exact if_neg (by rw [hconf]; exact Bool.false_ne_true)
  have hsome : ((onDyn v (fun d => { d with move := some (newMove .close n s.drive.serial) }) s).dyn v).move.isSome = true := by
    rw [dyn_onDyn_same]; rfl
  rw [hstart]
  refine ⟨fun n' => ?_, isSome_driveBand p hsome⟩
  refine le_trans ?_ (le_closingCount_driveBand p hsome)
  have hold : (s.dyn v).movesFor .close n' = false := by unfold ValveDyn.movesFor; rw [hmove]
  rw [closingCount_onDyn (ne_blank_of_move rfl) hold]
  refine Nat.add_le_add_left (le_of_eq (if_congr ?_ rfl rfl)) _
  simp [ValveDyn.movesFor, newMove, eq_comm]

/-! ### One start (04 R96) -/

/-- An incident that may start a move, and the valve that it would start. -/
structure State.MayStart (s : State) (n v : Nat) : Prop where
  incident : ∃ e ∈ s.engine.slots, e.2.number = n ∧ e.2.state.permitted = true
  allowance : s.closingCount n < s.map.policy.parallel
  startable : s.startable n v = true

theorem mayStart_of_mem {s : State} {x : Nat × Nat} (h : x ∈ s.starters) : s.MayStart x.1 x.2 := by
  obtain ⟨e, he, hx⟩ := List.mem_filterMap.1 h
  split at hx
  · next hmay =>
    rw [Bool.and_eq_true, decide_eq_true_eq] at hmay
    obtain ⟨v, hv, rfl⟩ := Option.map_eq_some_iff.1 hx
    exact ⟨⟨e, he, rfl, hmay.1⟩, hmay.2, List.find?_some hv⟩
  · cases hx

theorem startable_iff {s : State} {n v : Nat} : s.startable n v = true ↔
    s.reachable v = true ∧ n ∈ (s.dyn v).holders ∧ (s.dyn v).confirmed = false ∧ (s.dyn v).move = none
      ∧ (s.dyn v).motion = .idle ∧ (s.dyn v).operability ≠ .inoperable := by
  simp [State.startable, and_assoc]

theorem actuated_of_reachable {s : State} {v : Nat} (h : s.reachable v = true) : ∃ p, s.actuated v = some p := by
  unfold State.reachable at h
  cases ha : s.actuated v with
  | none => rw [ha] at h; cases h
  | some p => exact ⟨p, rfl⟩

/-- 04 R96: a start, or nothing that may be started. -/
theorem startOne_cases (s : State) :
    (startOne s = none ∧ s.starters = [])
      ∨ ∃ n v p w, s.MayStart n v ∧ s.actuated v = some p ∧ (w = s ∨ w = nextFree s)
          ∧ startOne s = some (startClosing v p n w) := by
  unfold startOne
  cases hstarters : s.starters with
  | nil => exact .inl ⟨rfl, rfl⟩
  | cons first rest =>
    right
    dsimp only
    have hmem : chooseStarter first (rest.filter fun x => x.2 = first.2) s.freeCount ∈ s.starters := by
      rw [hstarters]
      exact (List.cons_subset_cons first List.filter_sublist.subset) (mem_chooseStarter _ _ _)
    generalize chooseStarter first (rest.filter fun x => x.2 = first.2) s.freeCount = chosen at hmem ⊢
    have hmay := mayStart_of_mem hmem
    obtain ⟨p, hp⟩ := actuated_of_reachable (startable_iff.1 hmay.startable).1
    refine ⟨chosen.1, chosen.2, p, _, hmay, hp, ?_, by rw [hp]⟩
    split
    · exact .inl rfl
    · exact .inr rfl

/-- 04 R96: once nothing starts, an incident that has a valve to start has used up its allowance. -/
theorem allowance_used {s : State} (h : s.starters = []) {e : Nat × Incident} (he : e ∈ s.engine.slots)
    (hp : e.2.state.permitted = true) {v : Nat} (hv : s.startable e.2.number v = true) :
    s.map.policy.parallel ≤ s.closingCount e.2.number := by
  by_contra hless
  have hheld : v ∈ s.heldBy e.2.number := by
    have hh := (startable_iff.1 hv).2.1
    cases hg : Table.get s.drive.valves v with
    | none => rw [State.dyn, hg] at hh; cases hh
    | some d =>
      rw [State.dyn, hg] at hh
      exact List.mem_map.2 ⟨(v, d), List.mem_filter.2 ⟨Table.mem_of_get hg, List.contains_iff_mem.2 hh⟩, rfl⟩
  have horder : v ∈ s.startOrder e.2 := by
    unfold State.startOrder
    by_cases hb : v ∈ e.2.boundary
    · exact List.mem_append_left _ hb
    · exact List.mem_append_right _ (List.mem_filter.2 ⟨hheld, by simp [hb]⟩)
  have hnone := List.filterMap_eq_nil_iff.1 h e he
  rw [if_pos (by rw [Bool.and_eq_true, decide_eq_true_eq]; exact ⟨hp, Nat.not_le.1 hless⟩), Option.map_eq_none_iff,
    State.firstStartable, List.find?_eq_none] at hnone
  exact hnone v horder hv

/-! ### All starts (04 R96) -/

/-- The places of the allowance that are left. -/
def State.spare (s : State) : Nat :=
  (s.engine.slots.map fun e => s.map.policy.parallel - s.closingCount e.2.number).sum

theorem spare_startOne {s t : State} (h : startOne s = some t) : t.spare < s.spare := by
  obtain ⟨hnone, -⟩ | ⟨n, v, p, w, hmay, -, hw, ht⟩ := startOne_cases s
  · rw [hnone] at h; cases h
  · obtain rfl : t = startClosing v p n w := Option.some.inj (h.symm.trans ht)
    obtain ⟨-, -, hconf, hmove, -, -⟩ := startable_iff.1 hmay.startable
    obtain ⟨hwdyn, hwcount, hwengine, hwmap⟩ : w.dyn v = s.dyn v ∧ (∀ n', w.closingCount n' = s.closingCount n')
        ∧ w.engine = s.engine ∧ w.map = s.map := by
      obtain rfl | rfl := hw
      · exact ⟨rfl, fun _ => rfl, rfl, rfl⟩
      · exact ⟨rfl, fun _ => rfl, rfl, rfl⟩
    obtain ⟨hcount, -⟩ := startClosing_counts (v := v) (n := n) p (s := w) (by rw [hwdyn]; exact hconf)
      (by rw [hwdyn]; exact hmove)
    obtain ⟨-, hmap, -⟩ := (driven_startClosing v p n w).only.fields
    obtain ⟨e, he, hn, -⟩ := hmay.incident
    have hallow := hmay.allowance
    unfold State.spare
    rw [engine_startClosing, hwengine, hmap, hwmap]
    refine List.sum_lt_sum _ _ (fun e _ => ?_) ⟨e, he, ?_⟩
    · have h := hcount e.2.number
      rw [hwcount] at h
      omega
    · have h := hcount e.2.number
      rw [hwcount, if_pos hn] at h
      rw [hn] at h ⊢
      omega

theorem starters_startRounds (k : Nat) {s : State} (h : s.spare ≤ k) : (startRounds k s).starters = [] := by
  induction k generalizing s with
  | zero =>
    obtain ⟨-, hnil⟩ | ⟨n, v, p, w, -, -, -, ht⟩ := startOne_cases s
    · exact hnil
    · have := spare_startOne ht
      omega
  | succ k ih =>
    obtain ⟨hnone, hnil⟩ | ⟨n, v, p, w, -, -, -, ht⟩ := startOne_cases s
    · rw [startRounds, hnone]; exact hnil
    · have := spare_startOne ht
      rw [startRounds, ht]
      exact ih (by omega)

theorem spare_le {s : State} (hs : s.SlotsSound) : s.spare ≤ 4 * s.map.policy.parallel := by
  have hsum := List.sum_le_card_nsmul (s.engine.slots.map fun e => s.map.policy.parallel - s.closingCount e.2.number)
    s.map.policy.parallel fun x hx => by
      obtain ⟨e, -, rfl⟩ := List.mem_map.1 hx
      exact Nat.sub_le _ _
  rw [List.length_map, smul_eq_mul] at hsum
  exact hsum.trans (Nat.mul_le_mul_right _ (slots_length_le hs))

theorem starters_startMoves {s : State} (hs : s.SlotsSound) (hm : s.store.mode = .run) : (startMoves s).starters = [] := by
  unfold startMoves
  rw [if_pos hm]
  exact starters_startRounds _ (spare_le hs)

/-- A valve that has no move after the starts has its record of before. -/
theorem dyn_startRounds_unmoved {v : Nat} (k : Nat) {s : State} (h : ((startRounds k s).dyn v).move = none) :
    (startRounds k s).dyn v = s.dyn v := by
  induction k generalizing s with
  | zero => rfl
  | succ k ih =>
    obtain ⟨hnone, -⟩ | ⟨n, u, p, w, hmay, hact, hw, ht⟩ := startOne_cases s
    · rw [startRounds, hnone]
    · obtain ⟨-, -, hconf, hmove, -, -⟩ := startable_iff.1 hmay.startable
      have hwdyn (x : Nat) : w.dyn x = s.dyn x := by obtain rfl | rfl := hw <;> rfl
      have hd := driven_startOne ht
      rw [startRounds, ht] at h ⊢
      dsimp only at h ⊢
      by_cases hv : v = u
      · subst hv
        obtain ⟨-, hsome⟩ := startClosing_counts (v := v) (n := n) p (s := w) (by rw [hwdyn]; exact hconf)
          (by rw [hwdyn]; exact hmove)
        have hrest : (startClosing v p n w).Resting v := resting_of ((hd.actuated v).trans hact) (.inl hsome)
        rw [dyn_startRounds k hrest] at h
        rw [h] at hsome; cases hsome
      · rw [ih h, atValve_startClosing u p n w v hv, hwdyn]

/-! ### The settling (04 R96, R97) -/

theorem le_closingCount_crewRequests (n : Nat) (s : State) : s.closingCount n ≤ (crewRequests s).closingCount n := by
  refine crewRequests_rel (R := fun s t => s.closingCount n ≤ t.closingCount n) (fun _ => le_rfl) (fun h h' => h.trans h')
    (fun inc v s _ => ?_) s
  unfold requestCrew
  dsimp only
  exact le_closingCount_onDyn (s := raise .crewRequest (.valve v) Direction.close.code
    [some inc.number, some (s.rankOf v), some s.map.policy.crewTimeout] s) (fun e => by
      have := congrArg ValveDyn.motion e
      cases this) rfl

/-- 04 R96: a valve that the settling leaves without a move though it could be started has an incident with start permission only
when that one's allowance is used up. -/
theorem commanded_or_used {w : State} {v : Nat} (hs : w.SlotsSound) (hm : w.store.mode = .run) (hlist : w.Unlisted v)
    (hr : w.reachable v = true) (hconf : (w.dyn v).confirmed = false) (hidle : (w.dyn v).motion = .idle)
    (hop : (w.dyn v).operability ≠ .inoperable) {e : Nat × Incident} (he : e ∈ (settle w).engine.slots)
    (hp : e.2.state.permitted = true) (hheld : e.2.number ∈ ((settle w).dyn v).holders) :
    ((settle w).dyn v).move ≠ none ∨ w.map.policy.parallel ≤ (settle w).closingCount e.2.number := by
  have hrestores := driven_progressRestores w
  have hu := dyn_progressRestores hlist
  have husound := ((keeps_progressRestores w).engine hs).slots
  obtain ⟨hstore, hmap, -⟩ := hrestores.only.fields
  have hureach := hrestores.reachable v
  rw [settle] at he hheld ⊢
  generalize progressRestores w = u at *
  have hstarts := driven_startMoves u
  have hnil := starters_startMoves husound (by rw [hstore]; exact hm)
  have hunmoved : ((startMoves u).dyn v).move = none → (startMoves u).dyn v = u.dyn v := by
    unfold startMoves
    split
    · exact dyn_startRounds_unmoved _
    · exact fun _ => rfl
  obtain ⟨-, hmap', -⟩ := hstarts.only.fields
  have hfreach := hstarts.reachable v
  generalize startMoves u = f at *
  have hengine : (retimePolls (crewRequests f)).engine = f.engine :=
    ((quiet_crewRequests f).trans (quiet_retimePolls _)).engine
  have hreach : f.reachable v = true := by rw [hfreach, hureach, hr]
  obtain ⟨p, hact⟩ := actuated_of_reachable hreach
  have hdyn : (retimePolls (crewRequests f)).dyn v = f.dyn v := by
    rw [dyn_retimePolls, dyn_crewRequests (by rw [hact]; exact Option.some_ne_none p)]
  have hcount : f.closingCount e.2.number ≤ (retimePolls (crewRequests f)).closingCount e.2.number := by
    have hsame : (retimePolls (crewRequests f)).closingCount e.2.number = (crewRequests f).closingCount e.2.number := by
      unfold State.closingCount; rw [retimePolls_only]
    rw [hsame]; exact le_closingCount_crewRequests _ f
  rw [hdyn] at hheld ⊢
  rw [hengine] at he
  by_cases hmove : (f.dyn v).move = none
  · right
    have hrecord := (hunmoved hmove).trans hu
    refine le_trans ?_ hcount
    rw [← hmap, ← hmap']
    refine allowance_used hnil he hp (startable_iff.2 ⟨hreach, hheld, ?_, hmove, ?_, ?_⟩)
    · rw [hrecord]; exact hconf
    · rw [hrecord]; exact hidle
    · rw [hrecord]; exact hop
  · exact .inl hmove

end Sys2Proof.Machine
end

section
/-! PROOFS. A good reply that shows a held valve open: O41's second part (04 R86, R96, R116; 03 R72). -/

namespace Sys2Proof.Machine

open Sys2Proof

/-! ### The flag lost (04 R86, R116) -/

/-- 03 R72: the incidents with the valve in their boundary set return to CLOSING. -/
def Incident.reopened (v : Nat) (inc : Incident) : Incident :=
  if v ∈ inc.boundary ∧ inc.state = .isolated then { inc with state := .closing } else inc

theorem slot_confirmedNotice_lost (v : Nat) (s : State) {k : Nat} (hk : k ≤ 3) :
    (confirmedNotice v false s).slot k = (s.slot k).map (Incident.reopened v) := by
  refine (slot_forSlots (P := fun _ => True) (fun j inc t _ hj => ⟨trivial, fun i => ?_⟩) trivial).2 k hk
  have hsame : t.slot i = if i = j then some inc else t.slot i := by
    by_cases hij : i = j
    · rw [if_pos hij, hij, hj]
    · rw [if_neg hij]
  by_cases hb : v ∈ inc.boundary
  · rw [if_neg (by simp [hb]), if_neg Bool.false_ne_true]
    by_cases hi : inc.state = .isolated
    · have hopen : inc.reopened v = { inc with state := .closing } := if_pos ⟨hb, hi⟩
      rw [if_pos hi, hopen]
      exact (enterState_spec hj .closing).1 i
    · have hopen : inc.reopened v = inc := if_neg fun h => hi h.2
      rw [if_neg hi, hopen]
      exact hsame
  · have hopen : inc.reopened v = inc := if_neg fun h => hb h.1
    rw [if_pos (by simp [hb]), hopen]
    exact hsame

theorem reopened_closing {v : Nat} {inc : Incident} (hv : v ∈ inc.boundary) (h : inc.state = .isolated ∨ inc.state = .closing) :
    (inc.reopened v).number = inc.number ∧ (inc.reopened v).state = .closing ∧ v ∈ (inc.reopened v).boundary := by
  unfold Incident.reopened
  obtain h | h := h
  · rw [if_pos ⟨hv, h⟩]; exact ⟨rfl, rfl, hv⟩
  · rw [if_neg fun hi => by rw [h] at hi; cases hi.2]; exact ⟨rfl, h, hv⟩

/-- What the loss of the flag of a held valve without a move leads to. -/
structure FlagLost (v : Nat) (s t : State) : Prop where
  record : ∃ told, t.dyn v = { s.dyn v with confirmed := false, toldUnreachable := told }
  offNormal : t.reports.Keeps ⟨.offNormal, s.reports.timeBase, .valve v, 0,
    [(s.dyn v).position, some (s.dyn v).holders.length]⟩
  closing : ∀ k ≤ 3, ∀ i, s.slot k = some i → i.state = .isolated ∨ i.state = .closing → v ∈ i.boundary →
    ∃ i', t.slot k = some i' ∧ i'.number = i.number ∧ i'.state = .closing ∧ v ∈ i'.boundary

theorem OnlyControl.inLocalControl {s t : State} (h : OnlyControl s t) (v : Nat) :
    t.inLocalControl v = s.inLocalControl v := by rw [h]; rfl

theorem onlyControl_flagTold (v : Nat) (value : Bool) (s : State) : OnlyControl s (flagTold v value s) :=
  ((recordSet_onDyn v (fun d => { d with
    confirmed := value, toldUnreachable := d.toldUnreachable && !(value && !s.reachable v) }) s).markStale.notices
    (onlyNotices_flagTold (v := v) (value := value) (s := s))).1

theorem reported_flagTold (v : Nat) (value : Bool) (s : State) : Reported s.reports (flagTold v value s).reports := by
  unfold flagTold
  refine Reported.trans ?_ (calm_confirmedNotice v value _).reported
  split
  · exact .raise s.reports _
  · exact .refl _

section lost

variable {v : Nat} {s : State} (hmove : (s.dyn v).move = none) (hheld : (s.dyn v).holders ≠ [])

include hmove hheld

theorem losesClosed_of : s.losesClosed v false = true := by
  unfold State.losesClosed
  rw [hmove]
  simp [hheld]

theorem flagLost_flagTold : FlagLost v s (flagTold v false s) := by
  have hdyn := dyn_flagWritten v false s
  refine ⟨⟨_, dyn_flagTold⟩, ?_, fun k hk i hi hst hv => ?_⟩
  · unfold flagTold
    rw [if_pos (losesClosed_of hmove hheld)]
    refine (calm_confirmedNotice v false _).reported.keeps ?_
    have hkeep : (raiseOffNormal v reopened (flagWritten v false s)).reports.Keeps ⟨.offNormal, s.reports.timeBase, .valve v, 0,
      [((flagWritten v false s).dyn v).position, some ((flagWritten v false s).dyn v).holders.length]⟩ := keeps_raise _ _
    rwa [hdyn] at hkeep
  · obtain ⟨hn, hc, hb⟩ := reopened_closing hv hst
    refine ⟨i.reopened v, ?_, hn, hc, hb⟩
    unfold flagTold
    rw [if_pos (losesClosed_of hmove hheld), slot_confirmedNotice_lost v _ hk]
    exact congrArg (Option.map (Incident.reopened v)) hi

/-- 04 R116: in local control the valve fails as unreachable too, unless it did as it became unreachable. -/
theorem flagLost_setConfirmed (hconf : (s.dyn v).confirmed = true) : FlagLost v s (setConfirmed v false s)
    ∧ (s.inLocalControl v = true → (s.dyn v).toldUnreachable = false →
      (setConfirmed v false s).reports.Keeps ⟨.valveFailed, s.reports.timeBase, .valve v, 2,
        [(s.dyn v).position, some (s.dyn v).holders.length, some 0]⟩) := by
  have htold := flagLost_flagTold hmove hheld
  have hdyn := dyn_flagTold (v := v) (value := false) (s := s)
  have honly := onlyControl_flagTold v false s
  have htime := (reported_flagTold v false s).timeBase
  have hmark : ((flagTold v false s).dyn v).toldUnreachable = (s.dyn v).toldUnreachable := by
    rw [hdyn]; simp
  rw [setConfirmed_eq, if_neg (by rw [hconf]; decide), losesClosed_of hmove hheld, honly.inLocalControl, hmark]
  generalize flagTold v false s = w at *
  split
  · have hrecord := (failUnreachable_spec v w).same
    refine ⟨⟨?_, (calm_failUnreachable v w).reported.keeps htold.offNormal, fun k hk i hi hst hv => ?_⟩, fun _ _ => ?_⟩
    · exact ⟨true, by rw [hrecord, hdyn]⟩
    · obtain ⟨a, ha, hn, hc, hb⟩ := htold.closing k hk i hi hst hv
      obtain ⟨b, hb', hbn, hbs, hbb⟩ := slot_replanRequest_same v (raiseFailed v failedUnreachable 0 (tellUnreachable v true w)) ha
      exact ⟨b, hb', hbn.trans hn, hbs.trans hc, hbb ▸ hb⟩
    · have hkeep := keeps_raiseFailed v failedUnreachable 0 (tellUnreachable v true w)
      have hheldSame : (tellUnreachable v true w).dyn v = { w.dyn v with toldUnreachable := true } := dyn_onDyn_same w v _
      rw [hheldSame, hdyn] at hkeep
      have htime' : (tellUnreachable v true w).reports.timeBase = s.reports.timeBase := htime
      rw [htime'] at hkeep
      exact (calm_replanRequest v _).reported.keeps hkeep
  · next hno =>
    exact ⟨htold, fun hlc hfree => absurd (by rw [hlc, hfree]; rfl) hno⟩

end lost

end Sys2Proof.Machine
end

section
/-! PROOFS. A good reply moves a valve on: O41 (04, sections 4.6 to 4.13). -/

namespace Sys2Proof.Machine

open Sys2Proof

/-! ### A held valve seen open (04 R96, R116) -/

/-- 06 R150: a reachable closed-confirmed valve without a move, whether its channel stays in remote control or not. -/
theorem goodHanded_confirmed {l : Line} {x : Exchange} {reply : StationReply} {s : State} {c v : Nat} {p : ActuatedPart}
    (hs : s.SlotsSound) (hst : s.StationsSound) (hm : Table.Wf s.map.valves) (hv : s.valveOfChannel l x.address c = some (v, p))
    (hr : s.reachable v = true) (hmove : (s.dyn v).move = none) (hconf : (s.dyn v).confirmed = true) :
    ∃ told, (goodHanded l x reply s).dyn v = { s.dyn v with toldUnreachable := told }
      ∧ ((reply.channels.get c).localControl = false → (goodHanded l x reply s).reachable v = true)
      ∧ ((reply.channels.get c).localControl = true → told = false ∧ (goodHanded l x reply s).reachable v = false
        ∧ (goodHanded l x reply s).inLocalControl v = true) := by
  cases hlocal : (reply.channels.get c).localControl with
  | false =>
    obtain ⟨hreach, hdyn⟩ := goodHanded_remote hm hst hv hr hlocal
    exact ⟨(s.dyn v).toldUnreachable, hdyn, fun _ => hreach, fun h => absurd h (by decide)⟩
  | true =>
    have hhand := goodHanded_spec l x reply s
    obtain ⟨hact, hmem⟩ := valveOfChannel_actuated hm hv
    obtain ⟨hl, ha, hc⟩ := valveOfChannel_part hv
    have hmap := hhand.map
    have hactNow : (goodHanded l x reply s).actuated v = some p := by rw [State.actuated, hmap]; exact hact
    have hgone : (goodHanded l x reply s).reachable v = false := by
      unfold State.reachable
      rw [hactNow]
      change (goodHanded l x reply s).partReachable p = false
      rw [hhand.parts p hl ha, hc, hlocal, Bool.not_true, Bool.and_false]
    have hin : (goodHanded l x reply s).inLocalControl v = true := by
      unfold State.inLocalControl
      rw [hactNow]
      change ((goodHanded l x reply s).station p.line p.address).localControl.get p.channel = true
      rw [hl, ha, hc, hhand.station, get_flagged]
      exact hlocal
    refine ⟨false, ?_, fun h => absurd h (by decide), fun _ => ⟨rfl, hgone, hin⟩⟩
    rw [hhand.lost hs hm v p hmem hr hgone, State.lostDyn]
    have hno : ¬s.FailsAtLoss v := fun h => by
      have := ((failsAtLoss_iff hmove).1 h).1
      rw [hconf] at this; cases this
    have hunmoved : (s.dyn v).unmoved = s.dyn v := by
      simp only [ValveDyn.unmoved, hmove, if_true]
      rw [← hmove]
    rw [hunmoved, decide_eq_false hno]

/-- The end of the step for a held valve without a move that the reply shows open. -/
structure SeenOpen (v n : Nat) (remote : Bool) (s t : State) : Prop where
  position : (t.dyn v).position = some n
  confirmed : (t.dyn v).confirmed = false
  offNormal : t.reports.Keeps ⟨.offNormal, s.reports.timeBase, .valve v, 0, [some n, some (s.dyn v).holders.length]⟩
  failed : remote = false → t.reports.Keeps
    ⟨.valveFailed, s.reports.timeBase, .valve v, 2, [some n, some (s.dyn v).holders.length, some 0]⟩
  closing : ∀ e ∈ s.engine.slots, e.2.state = .isolated → v ∈ e.2.boundary →
    ∃ u, t.slot e.1 = some u ∧ u.number = e.2.number ∧ u.state = .closing
  commanded : remote = true → s.store.mode = .run → (s.dyn v).motion = .idle → (s.dyn v).operability ≠ .inoperable →
    ∀ e ∈ t.engine.slots, e.2.state.permitted = true → e.2.number ∈ (t.dyn v).holders →
      (t.dyn v).move ≠ none ∨ s.map.policy.parallel ≤ t.closingCount e.2.number

/-- 04 R116: the flag lost with the valve's own report, in the state that its report finds. -/
theorem flagLost_takeReport {v n : Nat} {p : ActuatedPart} {x : Reading} {d : ValveDyn} {b : State} {moving trip lc : Bool}
    (hb : b.dyn v = d) (hmove : d.move = none) (hheld : d.holders ≠ []) (hconf : d.confirmed = true) (hn : n < 995) :
    FlagLost v (showPosition v (some n) b) (takeReport v p ⟨some n, moving, trip, lc⟩ x b)
      ∧ (showPosition v (some n) b).dyn v = { d with position := some n }
      ∧ (b.inLocalControl v = true → d.toldUnreachable = false →
        (takeReport v p ⟨some n, moving, trip, lc⟩ x b).reports.Keeps ⟨.valveFailed, b.reports.timeBase, .valve v, 2,
          [some n, some d.holders.length, some 0]⟩) := by
  subst hb
  have hshow : (showPosition v (some n) b).dyn v = { b.dyn v with position := some n } := dyn_onDyn_same b v _
  have hreport : takeReport v p ⟨some n, moving, trip, lc⟩ x b = setConfirmed v false (showPosition v (some n) b) := by
    rw [takeReport_unmoved hmove]
    have hopen : decide (closedFrom ≤ n) = false := decide_eq_false (Nat.not_le.2 hn)
    change setConfirmed v (decide (closedFrom ≤ n)) _ = _
    rw [hopen]
  rw [hreport]
  obtain ⟨hlost, hfail⟩ := flagLost_setConfirmed (v := v) (s := showPosition v (some n) b) (by rw [hshow]; exact hmove)
    (by rw [hshow]; exact hheld) (by rw [hshow]; exact hconf)
  rw [hshow] at hfail
  exact ⟨hlost, hshow, hfail⟩

theorem seenOpen {s : State} {l : Line} {x : Exchange} {reply : StationReply} {c v n : Nat} {p : ActuatedPart}
    {moving trip remote : Bool} (hfits : reply.Fits) (h1 : 1 ≤ c) (h4 : c ≤ 4) (hv : s.valveOfChannel l x.address c = some (v, p))
    (hs : s.SlotsSound) (hst : s.StationsSound) (hlist : s.Unlisted v) (hw : Table.Wf s.map.valves) (hr : s.reachable v = true)
    (hmove : (s.dyn v).move = none) (hconf : (s.dyn v).confirmed = true) (hheld : (s.dyn v).holders ≠ []) (hn : n < 995)
    (hreply : reply.channels.get c = ⟨some n, moving, trip, !remote⟩) :
    SeenOpen v n remote s (completeExchange l x (.good reply) s) := by
  obtain ⟨told, hdyn, hremote, hlocal⟩ := goodHanded_confirmed (reply := reply) hs hst hw hv hr hmove hconf
  obtain ⟨b, hown⟩ := ownReport hfits hw h1 h4 hv
  obtain ⟨hfound, hturns, hbefore, hengaged, -, hrecord, hafter, -, ⟨hmap, hstore⟩, hwreach, hclosing⟩ := hown
  rw [hreply] at hrecord hafter hclosing hremote hlocal
  obtain ⟨hlost, hshow, hfail⟩ := flagLost_takeReport (p := p) (x := s.pressureOf l x.address reply) (moving := moving) (trip := trip)
    (lc := !remote) (hfound.trans hdyn) hmove hheld hconf hn
  have hown := calm_takeReport v p (hreply ▸ hfits.position c) (s.pressureOf l x.address reply) b
  have hin : b.inLocalControl v = (goodHanded l x reply s).inLocalControl v := hturns.lines.only.inLocalControl v
  generalize takeReport v p ⟨some n, moving, trip, !remote⟩ (s.pressureOf l x.address reply) b = j at *
  have htime : b.reports.timeBase = s.reports.timeBase := hbefore.reported.timeBase
  obtain ⟨told', hj⟩ := hlost.record
  rw [hshow] at hj
  have hunmoved : (j.dyn v).move = none := by rw [hj]; exact hmove
  rw [acked_unmoved hunmoved, hj] at hrecord
  have hwhole := (hbefore.trans hown).trans hafter
  rw [completeExchange_good]
  have hend (u : State) : (quiesceDone u).engine = u.engine ∧ (quiesceDone u).drive = u.drive := by
    rw [quiesceDone_only]; exact ⟨rfl, rfl⟩
  generalize goodTaken l x reply s = w at *
  have hsettled := driven_settle w
  have hdynEnd : (quiesceDone (settle w)).dyn v = (settle w).dyn v := by rw [State.dyn, (hend _).2]; rfl
  have hslotEnd (k : Nat) : (quiesceDone (settle w)).slot k = (settle w).slot k := by rw [State.slot, (hend _).1]; rfl
  have hreported : Reported j.reports (quiesceDone (settle w)).reports :=
    (hafter.reported.trans (reported_settle w)).trans (reported_quiesceDone _)
  refine ⟨?_, ?_, ?_, fun hr => ?_, fun e he hiso hb => ?_, fun hr hm hidle hop e he hp hheldNow => ?_⟩
  · rw [hdynEnd, hsettled.position, hrecord]
  · rw [hdynEnd, hsettled.confirmed, hrecord]
  · have hkeep := hlost.offNormal
    rw [hshow] at hkeep
    have htime' : (showPosition v (some n) b).reports.timeBase = s.reports.timeBase := htime
    rw [htime'] at hkeep
    exact hreported.keeps hkeep
  · obtain ⟨rfl, -, hlc⟩ := hlocal (by rw [hr]; rfl)
    have hkeep := hfail (hin.trans hlc) rfl
    rw [htime] at hkeep
    exact hreported.keeps hkeep
  · obtain ⟨i, hi, hin, hib, hst⟩ := hengaged e.1 e.2 (Table.get_of_mem hs.wf he) (.inl hiso)
    have hshown : (showPosition v (some n) b).slot e.1 = some i := hi
    obtain ⟨i', hi', hn', hc', hb'⟩ := hlost.closing e.1 (hs.2.1 e he).1 i hshown hst (hib ▸ hb)
    obtain ⟨u, hu, hun, huc, -⟩ := hclosing e.1 e.2.number (by rw [hj]) ⟨i', hi', hn'.trans hin, hc', hb'⟩
    exact ⟨u, (hslotEnd e.1).trans (hsettled.slots e.1 u hu (by rw [huc]; decide)), hun, huc⟩
  · rw [hdynEnd] at hheldNow ⊢
    rw [(hend _).1] at he
    have hcount : (quiesceDone (settle w)).closingCount e.2.number = (settle w).closingCount e.2.number := by
      unfold State.closingCount; rw [(hend _).2]
    rw [hcount, ← hmap]
    refine commanded_or_used (hwhole.keeps.engine hs).slots (by rw [hstore]; exact hm) (hlist.of_calm hs hwhole) ?_ ?_ ?_ ?_ he hp
      hheldNow
    · rw [hwreach]; exact hremote (by rw [hr]; rfl)
    · rw [hrecord]
    · rw [hrecord]; exact hidle
    · rw [hrecord]; exact hop

/-- Settles O41: a reply shows a move on, phase by phase, or shows a held valve open. -/
theorem goodReplyMovesTheValveOn : Obligations.GoodReplyMovesTheValveOn := by
  refine ⟨fun s l x payload c v n p m moving trip hans hs hst hlist hw hr hm hreply => ?_,
    fun s l x payload c v n p moving trip remote hans hs hst hlist hw hr hmove hconf hheld hn hreply => ?_⟩
  · obtain ⟨hx, hb, -, h16, hlen, hcond, h1, h4, hv⟩ := hans
    obtain ⟨k, h⟩ := judged (readReply_fits payload) h1 h4 hv hs hst hlist hw hr hm hreply
    intro d pressure shown seen surge resumes closing finished redeemed driven band openings backs backedOff driving acked noted failed
    refine ⟨completeExchange l x (.good (readReply payload)) s, k.drive.serial, completes_with_good hx hb h16 hlen hcond, h.serial,
      fun ⟨_, hclosing⟩ hseen hn hmoving => h.completes hm hclosing hseen hn hmoving,
      fun ⟨_, hclosing⟩ hseen hopen hsurge => h.holds hm hclosing hseen hopen hsurge,
      fun ⟨_, hclosing⟩ hsurge hlost => h.reissuesBand hm hclosing hsurge hlost,
      fun hfast hseen hopen hsurge hcommand hn => h.changesBand hm (.inl hfast) hseen hopen hsurge hcommand hfast hn,
      fun ⟨_, hclosing⟩ hseen hopen hsurge hcommand hn => h.staysInBand hm hclosing hseen hopen hsurge hcommand hn,
      fun hholding => ⟨fun hstill => h.keepsHolding hm hholding hstill, fun hres hnoted => ?_, fun hres hnoted => ?_⟩,
      fun hdriving hseen => h.trips hm hs hdriving hseen,
      fun hbackoff hseen hnear hnear' hmoving => h.backsOff hm hbackoff hseen hnear hnear' hmoving,
      fun hcharging hseen hnear hnear' hmoving => h.charges hm hcharging hseen hnear hnear' hmoving,
      fun hopening hseen hn hmoving hfree => h.opens hm hopening hseen hn hmoving hfree,
      fun hlost => ⟨fun hbackoff hnear => h.reissuesBackoff hm hbackoff hlost hnear,
        fun hcharging hnear => h.reissuesCharge hm hcharging hlost hnear,
        fun hopening hn => h.reissuesOpening hm hopening hlost hn⟩,
      fun e target rate ack he hvalve hkind hcommand hsince ⟨_, hclosing⟩ htrip hn hsurge hband =>
        h.acknowledges hm hclosing he hvalve hkind hcommand hsince htrip hn hsurge hband⟩
    · exact h.resumes hm hholding hres hnoted
    · exact h.resumesTripped hm hholding hs hres hnoted
  · obtain ⟨hx, hb, -, h16, hlen, hcond, h1, h4, hv⟩ := hans
    have h := seenOpen (readReply_fits payload) h1 h4 hv hs hst hlist hw hr hmove hconf hheld hn hreply
    exact ⟨_, completes_with_good hx hb h16 hlen hcond, h.position, h.confirmed, h.offNormal, h.failed, h.closing, h.commanded⟩


end Sys2Proof.Machine
end
